-- ==== Sys2Proof/Word.lean ====
section
/-! DEFINITION. The words of the FE410: the octet of the control link and the 32-bit web position. -/

namespace Sys2Proof

/-- One octet of the control link (R172, R173). -/
abbrev Octet := BitVec 8

/-- A web position, in ticks: the unsigned 32-bit value of R1, wrapping modulo 2^32. -/
abbrev Pos := BitVec 32

end Sys2Proof
end

