-- ==== Sys2Proof/Syntax.lean ====
section
/-! DEFINITION. The commands of the FE410: one constructor of `Instr` for each row of spec/opcode_table.json,
and the names their operands use. A request's operands are the tag and the payload octets of its frame (R173),
so that the length test of R191 and the field encoding of R192 are part of its meaning. -/

namespace Sys2Proof

/-- The two position sources (chapter 1, section 1.1). -/
inductive Source where
  | line | wheel
  deriving DecidableEq, Repr

/-- Stations 1 to 4 in web order; zone `z` belongs to station `z`. -/
inductive StationId where
  | s1 | s2 | s3 | s4
  deriving DecidableEq, Repr

/-- Foil lanes 0 to 5. -/
inductive LaneId where
  | l0 | l1 | l2 | l3 | l4 | l5
  deriving DecidableEq, Repr

/-- The five mark channels: M0 at the entry and M1 to M4, one just upstream of each station. -/
inductive Channel where
  | m0
  | station (st : StationId)
  deriving DecidableEq, Repr

/-- The 31 request kinds of R190, in the order of spec/opcode_table.json. -/
inductive ReqKind where
  | identify | reset | setMode | readStatus | setSource | setupEntry
  | setupStation | tuneRegister | setTrim | nudgeTrim | setupHeat | setupLane | loadSpool
  | pause | resume | clearFault
  | defineMotif | clearMotif | readMotif | loadPlan | commitPlan | dropPlan | endJob | extendBatch
  | readStation | readLane | readQueue | readTrace | setEventMask | readEvents | clearEvents
  deriving DecidableEq, Repr

/-- The commands. The first 31 are requests; the others are what the line, the plant, the part's timers and its
position thresholds bring. -/
inductive Instr where
  | identify (tag : Octet) (payload : List Octet)
  | reset (tag : Octet) (payload : List Octet)
  | setMode (tag : Octet) (payload : List Octet)
  | readStatus (tag : Octet) (payload : List Octet)
  | setSource (tag : Octet) (payload : List Octet)
  | setupEntry (tag : Octet) (payload : List Octet)
  | setupStation (tag : Octet) (payload : List Octet)
  | tuneRegister (tag : Octet) (payload : List Octet)
  | setTrim (tag : Octet) (payload : List Octet)
  | nudgeTrim (tag : Octet) (payload : List Octet)
  | setupHeat (tag : Octet) (payload : List Octet)
  | setupLane (tag : Octet) (payload : List Octet)
  | loadSpool (tag : Octet) (payload : List Octet)
  | pause (tag : Octet) (payload : List Octet)
  | resume (tag : Octet) (payload : List Octet)
  | clearFault (tag : Octet) (payload : List Octet)
  | defineMotif (tag : Octet) (payload : List Octet)
  | clearMotif (tag : Octet) (payload : List Octet)
  | readMotif (tag : Octet) (payload : List Octet)
  | loadPlan (tag : Octet) (payload : List Octet)
  | commitPlan (tag : Octet) (payload : List Octet)
  | dropPlan (tag : Octet) (payload : List Octet)
  | endJob (tag : Octet) (payload : List Octet)
  | extendBatch (tag : Octet) (payload : List Octet)
  | readStation (tag : Octet) (payload : List Octet)
  | readLane (tag : Octet) (payload : List Octet)
  | readQueue (tag : Octet) (payload : List Octet)
  | readTrace (tag : Octet) (payload : List Octet)
  | setEventMask (tag : Octet) (payload : List Octet)
  | readEvents (tag : Octet) (payload : List Octet)
  | clearEvents (tag : Octet) (payload : List Octet)
  /-- A request frame whose kind octet names no request (R190). -/
  | unknownKindRequest (kind : Octet) (tag : Octet) (payload : List Octet)
  | octetReceived (octet : Octet)
  | missingStopBit
  | gapTimerExpiry
  /-- The last octet of the frame being sent has left (R179). -/
  | frameSent
  /-- The hardware reset input, with the levels of strap 1 and strap 0 at its end (R172, R189). -/
  | hardwareReset (strap1 strap0 : Bool)
  /-- Power-on, with the levels of strap 1 and strap 0 (R172, R189). -/
  | powerOnReset (strap1 strap0 : Bool)
  /-- A change of a source's quadrature pair to the levels given (R4). -/
  | sourceCount (source : Source) (levelA levelB : Bool)
  | sourceFaultInputAsserted (source : Source)
  | sourceFaultInputClears (source : Source)
  | motionTimerExpiry (source : Source)
  | speedSampleTimerExpiry
  | markLeadingEdge (channel : Channel)
  | markTrailingEdge (channel : Channel)
  | overwidthThreshold (channel : Channel)
  | entryWindowExpiry
  /-- An edge of the splice input: its leading edge, or its trailing edge, which makes no zone (R24, R10). -/
  | spliceEdge (leading : Bool)
  | spliceZoneRemoval
  | stationWindowExpiry
  | strikePoint
  /-- A gate on a station's die gate input, with its index flag (R68). -/
  | dieGate (station : StationId) (index : Bool)
  | waitingMarkExpiry (station : StationId)
  | unpairedGateExpiry (station : StationId)
  /-- The ENGAGED confirm input takes the level given; the confirm is taken when it becomes active (R101). -/
  | engagedConfirm (station : StationId) (level : Bool)
  /-- The LIFTED confirm input takes the level given; the confirm is taken when it becomes active (R101). -/
  | liftedConfirm (station : StationId) (level : Bool)
  | strokeTimerExpiry (station : StationId)
  | idleLiftPoint (station : StationId)
  /-- A lane's drive fault input takes the level given (R133). -/
  | driveFaultInput (lane : LaneId) (level : Bool)
  /-- A temperature sample of a zone, a signed value in units of 0.1 degrees (R140). -/
  | temperatureSample (zone : StationId) (sample : BitVec 16)
  /-- A zone's sensor fault input takes the level given (R141). -/
  | sensorFaultInput (zone : StationId) (level : Bool)
  | soakTimerExpiry (zone : StationId)
  | wakeThreshold
  deriving DecidableEq, Repr

end Sys2Proof
end

