-- ==== Sys2Proof/Decode.lean ====
section
/-! DEFINITION. Commands from words. spec/opcode_table.json gives no row any bits: a request comes as the octets of a
frame, which the receiver reads (R174, Machine/Link.lean), and the other commands come as events (log 14). -/

namespace Sys2Proof

/-- The command a word of the table's bits spells: no row gives bits, so no word spells one. -/
def decodeTableWord (_nbits _w : Nat) : Option Instr := none

end Sys2Proof
end

