-- ==== Sys2Proof/Config.lean ====
section
/-! DEFINITION. What the FE410 fixes: its capacities, its identification and the bounds of its saturating counters.
The spec leaves no value of an implementation open, so there is no free value here; the input pins' levels at
power-on, which it does not give, stand in `State.reset` (log 4). -/

namespace Sys2Proof.Config

/-- The part code IDENTIFY returns (R188). -/
def partCode : Nat := 0x0410
/-- The revision code IDENTIFY returns (R188). -/
def revision : Nat := 0x01
/-- Live records the label queue can hold (R42). -/
def queueCapacity : Nat := 256
/-- Entries of the motif table (R154). -/
def motifCount : Nat := 16
/-- Stations of the part (R188). -/
def stationCount : Nat := 4
/-- Foil lanes of the part (R188). -/
def laneCount : Nat := 6
/-- Entries the trace queue can hold (R186). -/
def traceCapacity : Nat := 64
/-- Good frames the receive queue can hold (R176). -/
def rxCapacity : Nat := 2
/-- Zones the splice zone list can hold (R24). -/
def zoneCapacity : Nat := 4
/-- Octets the longest payload of a frame holds (R173: L is at most 250). -/
def maxPayload : Nat := 248
/-- The length of an agreement span, in ticks (R15). -/
def spanTicks : Nat := 100000
/-- How far past its end a splice zone's removal threshold stands (R25). -/
def zoneTail : Nat := 65000
/-- Where a 16-bit saturating counter stays (R2). -/
def max16 : Nat := 65535
/-- Where a 32-bit saturating counter stays (R2). -/
def max32 : Nat := 4294967295
/-- Run of the motion timer, in ms (R3). -/
def motionMs : Nat := 200
/-- Run of the speed sample timer, in ms (R13). -/
def sampleMs : Nat := 10
/-- Run of the gap timer, in ms (R174). -/
def gapMs : Nat := 2

end Sys2Proof.Config
end

