-- ==== Sys2Proof/Machine/State.lean ====
section
/-! DEFINITION. The state of the FE410 as plain data: everything the spec gives the part, the queue of waiting
commands, the reasons a step can stop, and `State.reset`. Each structure names the rule that lists its items. -/

namespace Sys2Proof.Machine

/-- One value for each of stations 1 to 4. -/
structure PerStation (α : Type) where
  s1 : α
  s2 : α
  s3 : α
  s4 : α
  deriving DecidableEq, Repr

/-- One value for each of lanes 0 to 5. -/
structure PerLane (α : Type) where
  l0 : α
  l1 : α
  l2 : α
  l3 : α
  l4 : α
  l5 : α
  deriving DecidableEq, Repr

/-! ### Reference unit (chapter 1) -/

/-- The states of a position source (R3). -/
inductive SourceState where
  | off | still | moving | fault
  deriving DecidableEq, Repr

/-- One position source: its state and scale (R3, R5), its motion timer (ms to run, absent when stopped), and the
levels of its input pins: the signal fault input and the quadrature pair (R4). -/
structure SourceUnit where
  state  : SourceState
  k      : Nat
  motion : Option Nat
  faultIn : Bool
  pairA  : Bool
  pairB  : Bool
  deriving DecidableEq, Repr

/-- The reference unit (R3 to R19). The web counter is the upper 32 bits of `acc` (R5). -/
structure Reference where
  line  : SourceUnit
  wheel : SourceUnit
  selected : Source
  acc   : BitVec 48
  hw    : Pos
  speed : Nat
  sampleBase : Pos
  sampleTimer : Nat
  reverseLimit : Nat
  tolerance : Nat
  /-- The origin of the open agreement span, absent while none is open (R15). -/
  spanOrigin : Option Pos
  tally : BitVec 48
  rewound : Nat
  deriving DecidableEq, Repr

/-! ### Mark inputs, splice zones and entry tracker (chapter 2) -/

/-- The state of a mark channel (R20); IN_MARK holds the leading-edge position and the over-width threshold (R22). -/
inductive MarkState where
  | out
  | inMark (lead threshold : Pos)
  | overwide
  deriving DecidableEq, Repr

/-- A mark channel and its two counts (section 2.1). -/
structure MarkChannel where
  state : MarkState
  rejected : Nat
  stray : Nat
  deriving DecidableEq, Repr

/-- The two classes of a qualified mark (R21). -/
inductive MarkClass where
  | normal | cycle
  deriving DecidableEq, Repr

/-- The nine values of SETUP ENTRY (section 2.6). -/
structure EntrySettings where
  nmin : Nat
  nmax : Nat
  cmin : Nat
  cmax : Nat
  ewin : Nat
  missLimit : Nat
  spliceOffset : Nat
  guard : Nat
  wakeTravel : Nat
  deriving DecidableEq, Repr

/-- A splice zone: the first and the last position of it, both included (R24). -/
structure SpliceZone where
  first : Pos
  last  : Pos
  deriving DecidableEq, Repr

/-- The states of the entry tracker (R27). -/
inductive TrackerState where
  | off | search | locked
  deriving DecidableEq, Repr

/-- The next expected position, the entry window's two ends, both included, and its expiry threshold (R29, step 6). -/
structure EntryWindow where
  expected : Pos
  first  : Pos
  last   : Pos
  expiry : Pos
  deriving DecidableEq, Repr

/-- The entry tracker (R27). -/
structure Tracker where
  state : TrackerState
  cursor : Nat
  window : Option EntryWindow
  missRun : Nat
  seqCounter : BitVec 16
  deriving DecidableEq, Repr

/-! ### The label queue (chapter 3) -/

/-- Where a record came from (R40), and how a strike point was found (R60). -/
inductive Origin where
  | detected | predicted
  deriving DecidableEq, Repr

/-- The states of a visit (section 3.9). -/
inductive VisitState where
  | waiting | seen | predicted | final
  deriving DecidableEq, Repr

/-- The skip reasons (R52, R55, R56, R124). -/
inductive SkipReason where
  | notInMotif | hold | splice | excess | noMark | foilLate | foilOut | impressionLate
  deriving DecidableEq, Repr

/-- The decision of a visit, with its reason when it is SKIP (R52). -/
inductive Decision where
  | strike
  | skip (reason : SkipReason)
  deriving DecidableEq, Repr

/-- The outcomes of a visit (R58, R62). -/
inductive VisitOutcome where
  | struck | skipped | missed | marred | void
  deriving DecidableEq, Repr

/-- The register flags of a visit (R61). -/
structure RegFlags where
  noGate : Bool
  slotMismatch : Bool
  settle : Bool
  deadband : Bool
  stepClamped : Bool
  saturated : Bool
  deriving DecidableEq, Repr

/-- The lane's choice for the gap after a span (R122). -/
inductive Follow where
  | jump | run
  deriving DecidableEq, Repr

/-- A feed record of a visit (R126, step 2). -/
structure FeedRecord where
  lane : LaneId
  start : Pos
  length : Nat
  follow : Follow
  counted : Nat
  deriving DecidableEq, Repr

/-- One station's part of a label record (R41). -/
structure Visit where
  state : VisitState
  expected : Pos
  /-- The half width of the station window, as set when the visit was created (R44). -/
  swin : Nat
  /-- The window's expiry threshold (R44). -/
  expiry : Pos
  markPos : Option Pos
  strikePt : Option Pos
  decision : Option Decision
  error : Option Int
  regFlags : RegFlags
  feeds : List FeedRecord
  outcome : Option VisitOutcome
  deriving DecidableEq, Repr

/-- A label record (R40). -/
structure LabelRecord where
  seq : BitVec 16
  plan : Nat
  slot : Nat
  motif : Nat
  pitch : Nat
  entryPos : Pos
  origin : Origin
  splice : Bool
  excess : Bool
  cycleMark : Bool
  visits : PerStation (Option Visit)
  deriving DecidableEq, Repr

/-! ### Register loops (chapter 4) -/

/-- The register modes (R66). -/
inductive RegMode where
  | auto | measure
  deriving DecidableEq, Repr

/-- The tuning values of a register loop (R83). -/
structure Tuning where
  target : Int
  capture : Nat
  deadBand : Nat
  gain : Nat
  stepMax : Nat
  trimLimit : Nat
  settle : Nat
  mode : RegMode
  deriving DecidableEq, Repr

/-- The waiting mark (R66): its position, the record and slot of its visit, and its expiry threshold. -/
structure WaitingMark where
  pos : Pos
  seq : BitVec 16
  slot : Nat
  expiry : Pos
  deriving DecidableEq, Repr

/-- The unpaired gate (R66). -/
structure HeldGate where
  pos : Pos
  slot : Nat
  expiry : Pos
  deriving DecidableEq, Repr

/-- A station's register loop (R66) with its statistics (R87). The die trim output carries `trim` (R67). -/
structure RegLoop where
  cursor : Nat
  synced : Bool
  waiting : Option WaitingMark
  gate : Option HeldGate
  trim : Int
  settleCtr : Nat
  trimSat : Bool
  tuning : Tuning
  pairs : Nat
  corrections : Nat
  largest : Nat
  last : Option Int
  orphans : Nat
  deriving DecidableEq, Repr

/-! ### Heat zones and press modes (chapter 7) -/

/-- The states of a heat zone (R138). -/
inductive ZoneState where
  | off | heating | soaking | ready | drift | fault
  deriving DecidableEq, Repr

/-- The six settings of SETUP HEAT (R144). -/
structure HeatSettings where
  sp : Nat
  standbySp : Nat
  band : Nat
  hysteresis : Nat
  margin : Nat
  soak : Nat
  deriving DecidableEq, Repr

/-- A heat zone (R138). `soakTimer` is the time to run in ms, absent when stopped; `faultIn` is the sensor fault
input's level. -/
structure HeatZone where
  enabled : Bool
  set : HeatSettings
  state : ZoneState
  latest : Int
  heater : Bool
  soakTimer : Option Nat
  faultIn : Bool
  deriving DecidableEq, Repr

/-- The press modes (R146). -/
inductive PressMode where
  | run | idle | standby
  deriving DecidableEq, Repr

/-! ### Stations (chapter 5) -/

/-- The kinds of a station (section 5.1). -/
inductive StationKind where
  | emboss | foil
  deriving DecidableEq, Repr

/-- The trace policies (R111). -/
inductive TracePolicy where
  | off | exceptions | all
  deriving DecidableEq, Repr

/-- The setup of a station (R91). -/
structure StationSetup where
  kind : StationKind
  enabled : Bool
  path : Nat
  lead : Nat
  swin : Nat
  missLimit : Nat
  strikeOnPredicted : Bool
  dieSlots : Nat
  engageMs : Nat
  actTimeout : Nat
  policy : TracePolicy
  deriving DecidableEq, Repr

/-- The nine hold causes; the first four are hard (R94). -/
inductive Cause where
  | reference | actuator | heatFault | foilDrive
  | thermal | foilOut | marksLost | pause | idle
  deriving DecidableEq, Repr

/-- A hold set: which of the nine causes are present (R94). -/
structure HoldSet where
  reference : Bool
  actuator : Bool
  heatFault : Bool
  foilDrive : Bool
  thermal : Bool
  foilOut : Bool
  marksLost : Bool
  pause : Bool
  idle : Bool
  deriving DecidableEq, Repr

/-- The states of an impression actuator (R101). -/
inductive ActuatorState where
  | lifted | engaging | engaged | lifting | jammed
  deriving DecidableEq, Repr

/-- The two positions the valve output commands (section 5.3). -/
inductive Valve where
  | lift | engage
  deriving DecidableEq, Repr

/-- A station unit with its register loop, mark channel and heat zone. -/
structure Station where
  setup : StationSetup
  hold : HoldSet
  actuator : ActuatorState
  valve : Valve
  /-- The stroke timer, ms to run, absent when stopped (R101). -/
  stroke : Option Nat
  engagedIn : Bool
  liftedIn : Bool
  idleLift : Option Pos
  struck : Nat
  skipped : Nat
  missed : Nat
  marred : Nat
  drift : Int
  unusable : Nat
  loop : RegLoop
  channel : MarkChannel
  zone : HeatZone
  deriving DecidableEq, Repr

/-! ### Foil lanes (chapter 6) -/

/-- The states of a lane (R115). -/
inductive LaneState where
  | unassigned | parked | active | empty | fault
  deriving DecidableEq, Repr

/-- The settings of a lane (R117). -/
structure LaneSettings where
  leadMargin : Nat
  tailMargin : Nat
  jumpThreshold : Nat
  jumpMs : Nat
  parkAfter : Nat
  wakeMs : Nat
  lowThreshold : Nat
  deriving DecidableEq, Repr

/-- A lane's last feed (R114). -/
structure LastFeed where
  seq : BitVec 16
  endPos : Pos
  follow : Follow
  deriving DecidableEq, Repr

/-- An entry of a lane's pending feed list (R119). -/
structure PendingFeed where
  seq : BitVec 16
  start : Pos
  length : Nat
  follow : Follow
  counted : Nat
  deriving DecidableEq, Repr

/-- The kinds of drive command (R118): a full STOP and a one-feed STOP are one kind at the port, told apart by
their fields; the model keeps them apart by name. -/
inductive DriveKind where
  | feed | stopAll | stopOne | park
  deriving DecidableEq, Repr

/-- A command on a lane's drive command port (R118). -/
structure DriveCommand where
  kind : DriveKind
  start : Pos
  length : Nat
  follow : Follow
  deriving DecidableEq, Repr

/-- A foil lane (R114). `drive` lists the commands its drive command port has carried, oldest first (log 13). -/
structure Lane where
  station : Option StationId
  set : LaneSettings
  state : LaneState
  lastFeed : Option LastFeed
  idleRun : Nat
  pendingFeeds : List PendingFeed
  loaded : Nat
  used : Nat
  saved : Nat
  lowWarned : Bool
  feeds : Nat
  jumps : Nat
  late : Nat
  faultIn : Bool
  drive : List DriveCommand
  deriving DecidableEq, Repr

/-! ### Job store (chapter 8) -/

/-- A foil segment: an offset from the label's mark and a length (R154). -/
structure Segment where
  offset : Nat
  length : Nat
  deriving DecidableEq, Repr

/-- An entry of the motif table (R154). -/
structure Motif where
  valid : Bool
  mask : PerStation Bool
  segments : PerLane (List Segment)
  deriving DecidableEq, Repr

/-- The sync modes of a plan (R158). -/
inductive Sync where
  | cycle | any
  deriving DecidableEq, Repr

/-- A slot of a plan (R158). -/
structure PlanSlot where
  pitch : Nat
  motif : Nat
  deriving DecidableEq, Repr

/-- A plan (R158). -/
structure Plan where
  id : Nat
  sync : Sync
  target : Nat
  slots : List PlanSlot
  deriving DecidableEq, Repr

/-- The pending plan buffer (R158). -/
inductive PlanBuffer where
  | empty
  | loaded (plan : Plan)
  | ready (plan : Plan)
  deriving DecidableEq, Repr

/-- The job states (R164). -/
inductive JobState where
  | none | armed | draining | ended
  deriving DecidableEq, Repr

/-- The end reasons (R164). -/
inductive EndReason where
  | batch | endRequest | flush
  deriving DecidableEq, Repr

/-- The job store (R154 to R171). -/
structure JobStore where
  motifs : Vector Motif 16
  active : Option Plan
  activeLive : Nat
  buffer : PlanBuffer
  draining : Option Plan
  drainingLive : Nat
  state : JobState
  endReason : Option EndReason
  target : Nat
  admitted : Nat
  deriving DecidableEq, Repr

/-! ### Link controller (chapter 9) -/

/-- A good frame: kind, tag and payload (R173, R176). -/
structure Frame where
  kind : Octet
  tag : Octet
  payload : List Octet
  deriving DecidableEq, Repr

/-- A frame for the transmitter. `resets` marks the reply to an accepted RESET, whose end resets the part (R189). -/
structure OutFrame where
  kind : Octet
  tag : Octet
  payload : List Octet
  resets : Bool
  deriving DecidableEq, Repr

/-- The link controller but for the event set and the trace queue. `held` is the candidate frame the receiver
follows, from its start octet on, and is empty in HUNT: the receiver's state (R174) is read from it. -/
structure Link where
  held : List Octet
  gap : Option Nat
  abandoned : Nat
  badLength : Nat
  badCrc : Nat
  rxQueue : List Frame
  overrun : Bool
  lostKind : Octet
  lostTag : Octet
  overruns : Nat
  resetPending : Bool
  slot : Option OutFrame
  tx : Option OutFrame
  rate : BitVec 2
  deriving DecidableEq, Repr

/-- The 24 event kinds (section 9.4), in the order of their numbers. -/
inductive EventKind where
  | restart | sourceFault | sourceDisagree | reverseLimit | queueFlushed
  | entryLocked | entryLost | slotSlip | queueOverflow | marksLost
  | dieSlip | trimSaturated | impressionFault | strikeFault
  | foilLow | foilOut | foilDriveFault | heatReady | heatFault
  | jobEnded | planChanged | traceWatermark | traceOverflow | woke
  deriving DecidableEq, Repr

/-- A kind's latest-raise record (R180). -/
structure RaiseRecord where
  unit : Nat
  detail : Nat
  web : Pos
  deriving DecidableEq, Repr

/-- The event set and the notice-due list (R180 to R183). ATTN is computed from `flags` and `mask` (R182). -/
structure EventSet where
  flags : BitVec 24
  mask : BitVec 24
  records : Vector RaiseRecord 24
  due : List EventKind
  deriving DecidableEq, Repr

/-- A trace entry (R60). -/
structure TraceEntry where
  seq : BitVec 16
  plan : Nat
  slot : Nat
  station : StationId
  outcome : VisitOutcome
  reason : Option SkipReason
  error : Option Int
  trim : Int
  regFlags : RegFlags
  origin : Origin
  strikePt : Pos
  deriving DecidableEq, Repr

/-- The trace queue (R186). -/
structure TraceQueue where
  entries : List TraceEntry
  dropped : Nat
  watermark : Nat
  deriving DecidableEq, Repr

/-! ### The whole part -/

/-- The state of the FE410. `pending` is the queue of the commands that wait, first in, first out. -/
structure State where
  pending : List Instr
  ref : Reference
  entry : EntrySettings
  m0 : MarkChannel
  zones : List SpliceZone
  tracker : Tracker
  queue : List LabelRecord
  stations : PerStation Station
  lanes : PerLane Lane
  job : JobStore
  mode : PressMode
  wake : Option Pos
  link : Link
  events : EventSet
  trace : TraceQueue
  deriving DecidableEq, Repr

/-- Why a step stops with a fault. No rule of the spec stops the part, so there is no reason: the type is empty
(safe: nothing is lost by a stop the hardware does not make). -/
inductive Fault where
  deriving DecidableEq, Repr

/-- Why the model gives a command no meaning. -/
inductive Refusal where
  /-- Raised by `exec` for a command the model does not yet give a meaning; safe, since nothing is claimed of it.
  No command of this model is refused. -/
  | notModelled (mnemonic : String)
  deriving DecidableEq, Repr

/-! ### The reset values -/

/-- A source after reset, in the state given (R19). Its pins' levels are the model's choice (log 4). -/
def SourceUnit.resetIn (state : SourceState) : SourceUnit :=
  { state, k := 65536, motion := none, faultIn := false, pairA := false, pairB := false }

/-- The reference unit after reset (R19). -/
def Reference.reset : Reference :=
  { line := SourceUnit.resetIn .still, wheel := SourceUnit.resetIn .off, selected := .line, acc := 0, hw := 0,
    speed := 0, sampleBase := 0, sampleTimer := Config.sampleMs, reverseLimit := 5000, tolerance := 20,
    spanOrigin := none, tally := 0, rewound := 0 }

/-- The entry settings after reset (R39). -/
def EntrySettings.reset : EntrySettings :=
  { nmin := 150, nmax := 450, cmin := 600, cmax := 1200, ewin := 500, missLimit := 4, spliceOffset := 0,
    guard := 1000, wakeTravel := 10000 }

/-- A mark channel after reset (R20). -/
def MarkChannel.reset : MarkChannel := { state := .out, rejected := 0, stray := 0 }

/-- The entry tracker after reset (R27). -/
def Tracker.reset : Tracker := { state := .off, cursor := 0, window := none, missRun := 0, seqCounter := 0 }

/-- No register flag set. -/
def RegFlags.empty : RegFlags :=
  { noGate := false, slotMismatch := false, settle := false, deadband := false, stepClamped := false,
    saturated := false }

/-- The register tuning after reset (R83). -/
def Tuning.reset : Tuning :=
  { target := 0, capture := 2000, deadBand := 10, gain := 8, stepMax := 300, trimLimit := 10000, settle := 1,
    mode := .auto }

/-- A register loop after reset (R89); one die slot makes its synchronised flag set (R69, R93). -/
def RegLoop.reset : RegLoop :=
  { cursor := 0, synced := true, waiting := none, gate := none, trim := 0, settleCtr := 0, trimSat := false,
    tuning := Tuning.reset, pairs := 0, corrections := 0, largest := 0, last := none, orphans := 0 }

/-- The heat settings after reset (R144). -/
def HeatSettings.reset : HeatSettings :=
  { sp := 1200, standbySp := 600, band := 50, hysteresis := 20, margin := 100, soak := 30 }

/-- A heat zone after reset (R153). -/
def HeatZone.reset : HeatZone :=
  { enabled := false, set := HeatSettings.reset, state := .off, latest := 0, heater := false, soakTimer := none,
    faultIn := false }

/-- The station setup after reset (R93). -/
def StationSetup.reset : StationSetup :=
  { kind := .emboss, enabled := false, path := 100000, lead := 20000, swin := 1000, missLimit := 4,
    strikeOnPredicted := false, dieSlots := 1, engageMs := 40, actTimeout := 200, policy := .exceptions }

/-- The empty hold set. -/
def HoldSet.empty : HoldSet :=
  { reference := false, actuator := false, heatFault := false, foilDrive := false, thermal := false,
    foilOut := false, marksLost := false, pause := false, idle := false }

/-- A station after reset (R113, R104, R65). -/
def Station.reset : Station :=
  { setup := StationSetup.reset, hold := HoldSet.empty, actuator := .lifted, valve := .lift, stroke := none,
    engagedIn := false, liftedIn := false, idleLift := none, struck := 0, skipped := 0, missed := 0, marred := 0,
    drift := 0, unusable := 0, loop := RegLoop.reset, channel := MarkChannel.reset, zone := HeatZone.reset }

/-- The lane settings after reset (R117). -/
def LaneSettings.reset : LaneSettings :=
  { leadMargin := 100, tailMargin := 100, jumpThreshold := 2000, jumpMs := 20, parkAfter := 8, wakeMs := 50,
    lowThreshold := 5000000 }

/-- A lane after reset (R137): its drive has been sent a full STOP, at web counter 0. -/
def Lane.reset : Lane :=
  { station := none, set := LaneSettings.reset, state := .unassigned, lastFeed := none, idleRun := 0,
    pendingFeeds := [], loaded := 0, used := 0, saved := 0, lowWarned := false, feeds := 0, jumps := 0, late := 0,
    faultIn := false, drive := [{ kind := .stopAll, start := 0, length := 0, follow := .jump }] }

/-- An invalid and empty motif (R154). -/
def Motif.empty : Motif :=
  { valid := false, mask := ⟨false, false, false, false⟩, segments := ⟨[], [], [], [], [], []⟩ }

/-- The job store after reset (R171). -/
def JobStore.reset : JobStore :=
  { motifs := Vector.replicate 16 Motif.empty, active := none, activeLive := 0, buffer := .empty,
    draining := none, drainingLive := 0, state := .none, endReason := none, target := 0, admitted := 0 }

/-- The link controller after a reset that leaves the line rate given (R189). -/
def Link.resetAt (rate : BitVec 2) : Link :=
  { held := [], gap := none, abandoned := 0, badLength := 0, badCrc := 0, rxQueue := [], overrun := false,
    lostKind := 0, lostTag := 0, overruns := 0, resetPending := false, slot := none, tx := none, rate }

/-- A latest-raise record never written (R185). -/
def RaiseRecord.zero : RaiseRecord := { unit := 0, detail := 0, web := 0 }

/-- The event set after a reset with the cause given (R189): RESTART alone is pending and due. -/
def EventSet.resetFor (cause : Nat) : EventSet :=
  { flags := 1#24, mask := BitVec.allOnes 24,
    records := (Vector.replicate 24 RaiseRecord.zero).set 0 { unit := 0, detail := cause, web := 0 },
    due := [.restart] }

/-- The trace queue after reset (R187). -/
def TraceQueue.reset : TraceQueue := { entries := [], dropped := 0, watermark := 48 }

/-- The part right after power-on (R19, R39, R65, R89, R113, R137, R153, R171, R189) with every input pin and both
straps at the levels of log 4, and no command waiting. -/
def State.reset : State :=
  { pending := [], ref := Reference.reset, entry := EntrySettings.reset, m0 := MarkChannel.reset, zones := [],
    tracker := Tracker.reset, queue := [],
    stations := ⟨Station.reset, Station.reset, Station.reset, Station.reset⟩,
    lanes := ⟨Lane.reset, Lane.reset, Lane.reset, Lane.reset, Lane.reset, Lane.reset⟩,
    job := JobStore.reset, mode := .idle, wake := none, link := Link.resetAt 0, events := EventSet.resetFor 1,
    trace := TraceQueue.reset }

end Sys2Proof.Machine
end

