-- ==== Sys2Proof/Machine/Ops.lean ====
section
/-! DEFINITION. The shared operations: arithmetic on positions and saturating counts (R1, R2, R9, R14), access by
station and lane, the CRC and the frame's octets (R173), the event set (R180, R182), the transmitter's choice
(R179), and the trace queue's write (R186). -/

namespace Sys2Proof

/-- The source that is not `x`. -/
def Source.other : Source → Source
  | .line => .wheel
  | .wheel => .line

/-- The code of a source (R192), which is also SOURCE_FAULT's detail (R7). -/
def Source.code : Source → Nat
  | .line => 1
  | .wheel => 2

/-- The number of a station (or of its zone). -/
def StationId.number : StationId → Nat
  | .s1 => 1
  | .s2 => 2
  | .s3 => 3
  | .s4 => 4

/-- The station of a number 1 to 4. -/
def StationId.ofNumber : Nat → Option StationId
  | 1 => some .s1
  | 2 => some .s2
  | 3 => some .s3
  | 4 => some .s4
  | _ => none

/-- The number of a lane. -/
def LaneId.number : LaneId → Nat
  | .l0 => 0
  | .l1 => 1
  | .l2 => 2
  | .l3 => 3
  | .l4 => 4
  | .l5 => 5

/-- The lane of a number 0 to 5. -/
def LaneId.ofNumber : Nat → Option LaneId
  | 0 => some .l0
  | 1 => some .l1
  | 2 => some .l2
  | 3 => some .l3
  | 4 => some .l4
  | 5 => some .l5
  | _ => none

end Sys2Proof

namespace Sys2Proof.Machine

/-! ### Positions and counts -/

/-- The signed modular difference `x − y` (R1). -/
def sdiff (x y : Pos) : Int := (x - y).toInt

/-- The position `d` ticks after `p`, or before it when `d` is negative (R1). -/
def posShift (p : Pos) (d : Int) : Pos := p + BitVec.ofInt 32 d

/-- The threshold `x` is reached: HW − x is 0 or more (R9). -/
def reached (hw x : Pos) : Bool := decide (0 ≤ sdiff hw x)

/-- Saturation of a 16-bit counter or detail (R2). -/
def sat16 (n : Nat) : Nat := min n Config.max16

/-- Saturation of a 32-bit counter (R2). -/
def sat32 (n : Nat) : Nat := min n Config.max32

/-- A 16-bit saturating count, one up (R2). -/
def bump16 (n : Nat) : Nat := sat16 (n + 1)

/-- A 32-bit saturating count, one up (R2). -/
def bump32 (n : Nat) : Nat := sat32 (n + 1)

/-- `n` clamped into `lo` to `hi` (R2). -/
def clampNat (lo hi n : Nat) : Nat := max lo (min hi n)

/-- `n` clamped into `lo` to `hi` (R2). -/
def clampInt (lo hi n : Int) : Int := max lo (min hi n)

/-- `n / d` rounded to the nearest integer, ties away from zero (R2), for an even divisor. -/
def roundDiv (n : Int) (d : Nat) : Int :=
  if 0 ≤ n then (((n.natAbs + d / 2) / d : Nat) : Int) else -(((n.natAbs + d / 2) / d : Nat) : Int)

/-- The distance the web covers in `t` ms at `speed` (R14). -/
def distance (speed t : Nat) : Nat := (speed * t + 9) / 10

/-- The web counter: the upper 32 bits of the position accumulator (R5). -/
def Reference.web (r : Reference) : Pos := r.acc.extractLsb' 16 32

/-- The web counter (R5). -/
def State.web (s : State) : Pos := s.ref.web

/-- A position taken now lies before HW: its edge is a rewound edge (R10). -/
def State.behind (s : State) : Bool := decide (sdiff s.web s.ref.hw < 0)

/-! ### Access by source, station and lane -/

/-- The unit of a source. -/
def Reference.source (r : Reference) : Source → SourceUnit
  | .line => r.line
  | .wheel => r.wheel

/-- The reference unit with one source replaced. -/
def Reference.withSource (r : Reference) (x : Source) (u : SourceUnit) : Reference :=
  match x with
  | .line => { r with line := u }
  | .wheel => { r with wheel := u }

/-- The entry of one station. -/
def PerStation.get {α : Type} (p : PerStation α) : StationId → α
  | .s1 => p.s1
  | .s2 => p.s2
  | .s3 => p.s3
  | .s4 => p.s4

/-- The table with one station's entry replaced. -/
def PerStation.put {α : Type} (p : PerStation α) (st : StationId) (a : α) : PerStation α :=
  match st with
  | .s1 => { p with s1 := a }
  | .s2 => { p with s2 := a }
  | .s3 => { p with s3 := a }
  | .s4 => { p with s4 := a }

/-- The entry of one lane. -/
def PerLane.get {α : Type} (p : PerLane α) : LaneId → α
  | .l0 => p.l0
  | .l1 => p.l1
  | .l2 => p.l2
  | .l3 => p.l3
  | .l4 => p.l4
  | .l5 => p.l5

/-- The table with one lane's entry replaced. -/
def PerLane.put {α : Type} (p : PerLane α) (l : LaneId) (a : α) : PerLane α :=
  match l with
  | .l0 => { p with l0 := a }
  | .l1 => { p with l1 := a }
  | .l2 => { p with l2 := a }
  | .l3 => { p with l3 := a }
  | .l4 => { p with l4 := a }
  | .l5 => { p with l5 := a }

/-- The four stations in order. -/
def allStations : List StationId := [.s1, .s2, .s3, .s4]

/-- The six lanes in order. -/
def allLanes : List LaneId := [.l0, .l1, .l2, .l3, .l4, .l5]

/-- One station of the part. -/
def State.station (s : State) (st : StationId) : Station := s.stations.get st

/-- The state with one station replaced. -/
def State.setStation (s : State) (st : StationId) (u : Station) : State :=
  { s with stations := s.stations.put st u }

/-- The state with one station changed. -/
def State.modStation (s : State) (st : StationId) (f : Station → Station) : State :=
  s.setStation st (f (s.station st))

/-- One lane of the part. -/
def State.lane (s : State) (l : LaneId) : Lane := s.lanes.get l

/-- The state with one lane replaced. -/
def State.setLane (s : State) (l : LaneId) (u : Lane) : State :=
  { s with lanes := s.lanes.put l u }

/-- The state with one lane changed. -/
def State.modLane (s : State) (l : LaneId) (f : Lane → Lane) : State :=
  s.setLane l (f (s.lane l))

/-- The state after an action at each station of a list, in its order. -/
def overStations (sts : List StationId) (f : StationId → State → State) (s : State) : State :=
  sts.foldl (fun s st => f st s) s

/-- The state after an action at each lane of a list, in its order. -/
def overLanes (ls : List LaneId) (f : LaneId → State → State) (s : State) : State :=
  ls.foldl (fun s l => f l s) s

/-- The station is enabled (R91). -/
def State.enabled (s : State) (st : StationId) : Bool := (s.station st).setup.enabled

/-- The lanes assigned to a station, in lane order. -/
def State.lanesOf (s : State) (st : StationId) : List LaneId :=
  allLanes.filter fun l => (s.lane l).station == some st

/-! ### Octets, CRC and frames (R173) -/

/-- The `n` low octets of a number, low octet first (R192). -/
def octets : Nat → Nat → List Octet
  | 0, _ => []
  | k + 1, v => BitVec.ofNat 8 v :: octets k (v / 256)

/-- A signed field of `n` octets in two's complement (R192). -/
def signedOctets (n : Nat) (v : Int) : List Octet := octets n (BitVec.ofInt (8 * n) v).toNat

/-- A flag in a reply: 0 or 1 (R192). -/
def flagOctet (b : Bool) : List Octet := [if b then 1 else 0]

/-- One bit of the CRC's shift register, most significant bit first (R173). -/
def crcBit (c : BitVec 16) : BitVec 16 := if c.msb then (c <<< 1) ^^^ 0x1021#16 else c <<< 1

/-- One octet taken into the CRC (R173). -/
def crcOctet (c : BitVec 16) (o : Octet) : BitVec 16 :=
  let c := c ^^^ (o.setWidth 16 <<< 8)
  crcBit (crcBit (crcBit (crcBit (crcBit (crcBit (crcBit (crcBit c)))))))

/-- The CRC-16 of a list of octets: polynomial 0x1021, initial value 0xFFFF (R173). -/
def crc16 (os : List Octet) : BitVec 16 := os.foldl crcOctet 0xFFFF#16

/-- The start octet (R173). -/
def startOctet : Octet := 0x7E#8

/-- The length octet through the last payload octet of a frame (R173). -/
def frameBody (kind tag : Octet) (payload : List Octet) : List Octet :=
  BitVec.ofNat 8 (payload.length + 2) :: kind :: tag :: payload

/-- The octets of a frame on the line (R173). -/
def frameOctets (kind tag : Octet) (payload : List Octet) : List Octet :=
  startOctet :: (frameBody kind tag payload ++ octets 2 (crc16 (frameBody kind tag payload)).toNat)

/-- The octets the transmitter is sending, none while it is idle (R173, R179). -/
def State.lineOut (s : State) : List Octet :=
  match s.link.tx with
  | some f => frameOctets f.kind f.tag f.payload
  | none => []

/-! ### The event set (R180 to R182) -/

/-- The number of an event kind (section 9.4). -/
def EventKind.index : EventKind → Fin 24
  | .restart => 0
  | .sourceFault => 1
  | .sourceDisagree => 2
  | .reverseLimit => 3
  | .queueFlushed => 4
  | .entryLocked => 5
  | .entryLost => 6
  | .slotSlip => 7
  | .queueOverflow => 8
  | .marksLost => 9
  | .dieSlip => 10
  | .trimSaturated => 11
  | .impressionFault => 12
  | .strikeFault => 13
  | .foilLow => 14
  | .foilOut => 15
  | .foilDriveFault => 16
  | .heatReady => 17
  | .heatFault => 18
  | .jobEnded => 19
  | .planChanged => 20
  | .traceWatermark => 21
  | .traceOverflow => 22
  | .woke => 23

/-- The set that holds one kind, bit k for kind k (R192). -/
def EventKind.bit (k : EventKind) : BitVec 24 := 1#24 <<< k.index.val

/-- A kind is in a set of kinds. -/
def EventKind.isIn (k : EventKind) (b : BitVec 24) : Bool := b.getLsbD k.index.val

/-- ATTN is active while at least one kind is both pending and masked in (R182). -/
def EventSet.attn (e : EventSet) : Bool := (e.flags &&& e.mask) != 0#24

/-- A kind's latest-raise record. -/
def EventSet.record (e : EventSet) (k : EventKind) : RaiseRecord := e.records[k.index]

/-- The notice of a kind, with its latest-raise record as it stands (R181, R194). -/
def noticeFrame (e : EventSet) (k : EventKind) : OutFrame :=
  let r := e.record k
  { kind := 0xFF, tag := 0,
    payload := octets 1 k.index.val ++ octets 1 r.unit ++ octets 4 r.web.toNat ++ octets 2 r.detail,
    resets := false }

/-- The transmitter, if idle, starts a due frame: the reply before any notice, the notices in the order in which
their kinds joined the list (R179). -/
def txChoose (s : State) : State :=
  match s.link.tx, s.link.slot, s.events.due with
  | some _, _, _ => s
  | none, some r, _ => { s with link := { s.link with tx := some r, slot := none } }
  | none, none, k :: ks =>
    { s with link := { s.link with tx := some (noticeFrame s.events k) }, events := { s.events with due := ks } }
  | none, none, [] => s

/-- A block raises an event (R180): the kind's record is written; if the kind was not pending its flag is set and,
when it is masked in, it joins the notice-due list, from which an idle transmitter starts at once (R179). -/
def raiseEvent (k : EventKind) (unit detail : Nat) (s : State) : State :=
  let e := s.events
  let records := e.records.set k.index { unit, detail, web := s.web }
  if k.isIn e.flags then { s with events := { e with records } }
  else if k.isIn e.mask then
    txChoose { s with events := { e with records, flags := e.flags ||| k.bit, due := e.due ++ [k] } }
  else { s with events := { e with records, flags := e.flags ||| k.bit } }

/-! ### The trace queue (R186) -/

/-- TRACE_WATERMARK is raised when the depth is equal to or greater than the watermark (R186). -/
def watermarkTest (s : State) : State :=
  if s.trace.watermark ≤ s.trace.entries.length then raiseEvent .traceWatermark 0 s.trace.entries.length s else s

/-- A trace entry is written at the tail, or dropped when the queue holds 64 (R186). -/
def writeTrace (t : TraceEntry) (s : State) : State :=
  if s.trace.entries.length < Config.traceCapacity then
    watermarkTest { s with trace := { s.trace with entries := s.trace.entries ++ [t] } }
  else
    let dropped := bump16 s.trace.dropped
    raiseEvent .traceOverflow t.station.number dropped { s with trace := { s.trace with dropped } }

end Sys2Proof.Machine
end

