-- ==== Sys2Proof/Machine/Operands.lean ====
section
/-! DEFINITION. The operand forms of the requests: the kind octets (R190), the length test (R191), and the fields
of a payload (R192, section 10.4). -/

namespace Sys2Proof.Machine

/-! ### Fields of a payload (R192) -/

/-- The octet at offset `i`. -/
def u8 (p : List Octet) (i : Nat) : Nat := (p.getD i 0).toNat

/-- The 2-octet unsigned field at offset `i`, low octet first. -/
def u16 (p : List Octet) (i : Nat) : Nat := u8 p i + 256 * u8 p (i + 1)

/-- The 4-octet unsigned field at offset `i`, low octet first. -/
def u32 (p : List Octet) (i : Nat) : Nat := u16 p i + 65536 * u16 p (i + 2)

/-- The 2-octet signed field at offset `i`. -/
def i16 (p : List Octet) (i : Nat) : Int := (BitVec.ofNat 16 (u16 p i)).toInt

/-- The 4-octet signed field at offset `i`. -/
def i32 (p : List Octet) (i : Nat) : Int := (BitVec.ofNat 32 (u32 p i)).toInt

/-- A flag octet of a request reads as set when non-zero (R192). -/
def flagAt (p : List Octet) (i : Nat) : Bool := u8 p i != 0

/-! ### Kinds and lengths (R190, R191) -/

end Sys2Proof.Machine

namespace Sys2Proof

/-- The kind octet of a request (section 10.4). -/
def ReqKind.code : ReqKind → Nat
  | .identify => 0x01
  | .reset => 0x02
  | .setMode => 0x03
  | .readStatus => 0x04
  | .setSource => 0x10
  | .setupEntry => 0x11
  | .setupStation => 0x12
  | .tuneRegister => 0x13
  | .setTrim => 0x14
  | .nudgeTrim => 0x15
  | .setupHeat => 0x16
  | .setupLane => 0x17
  | .loadSpool => 0x18
  | .pause => 0x19
  | .resume => 0x1A
  | .clearFault => 0x1B
  | .defineMotif => 0x20
  | .clearMotif => 0x21
  | .loadPlan => 0x22
  | .commitPlan => 0x23
  | .dropPlan => 0x24
  | .endJob => 0x25
  | .extendBatch => 0x26
  | .readStation => 0x30
  | .readLane => 0x31
  | .readQueue => 0x32
  | .readTrace => 0x33
  | .readMotif => 0x34
  | .setEventMask => 0x38
  | .readEvents => 0x39
  | .clearEvents => 0x3A

/-- The request kinds. -/
def ReqKind.all : List ReqKind :=
  [.identify, .reset, .setMode, .readStatus, .setSource, .setupEntry, .setupStation, .tuneRegister, .setTrim,
   .nudgeTrim, .setupHeat, .setupLane, .loadSpool, .pause, .resume, .clearFault, .defineMotif, .clearMotif,
   .readMotif, .loadPlan, .commitPlan, .dropPlan, .endJob, .extendBatch, .readStation, .readLane, .readQueue,
   .readTrace, .setEventMask, .readEvents, .clearEvents]

/-- The request a kind octet names, if any (R190). -/
def ReqKind.ofOctet (o : Octet) : Option ReqKind := ReqKind.all.find? fun k => k.code == o.toNat

/-- The payload length a kind requires; absent for the two kinds whose length is computed (R191). -/
def ReqKind.fixedLength : ReqKind → Option Nat
  | .identify => some 0
  | .reset => some 0
  | .setMode => some 1
  | .readStatus => some 1
  | .setSource => some 9
  | .setupEntry => some 21
  | .setupStation => some 21
  | .tuneRegister => some 18
  | .setTrim => some 5
  | .nudgeTrim => some 5
  | .setupHeat => some 14
  | .setupLane => some 19
  | .loadSpool => some 5
  | .pause => some 1
  | .resume => some 1
  | .clearFault => some 1
  | .defineMotif => none
  | .clearMotif => some 1
  | .readMotif => some 1
  | .loadPlan => none
  | .commitPlan => some 0
  | .dropPlan => some 0
  | .endJob => some 0
  | .extendBatch => some 4
  | .readStation => some 2
  | .readLane => some 2
  | .readQueue => some 2
  | .readTrace => some 3
  | .setEventMask => some 4
  | .readEvents => some 0
  | .clearEvents => some 4

end Sys2Proof

namespace Sys2Proof.Machine

/-- `n` segments read from the front of the octets, with the octets left; absent if the octets end within them. -/
def readSegments : Nat → List Octet → Option (List Segment × List Octet)
  | 0, os => some ([], os)
  | n + 1, a :: b :: c :: d :: os =>
    match readSegments n os with
    | some (segs, rest) => some ({ offset := u16 [a, b] 0, length := u16 [c, d] 0 } :: segs, rest)
    | none => none
  | _ + 1, _ => none

/-- `n` lane groups, each a count octet and that many segments (R191); absent if the octets end within them or
octets remain after the last. -/
def readGroups : Nat → List Octet → Option (List (List Segment))
  | 0, [] => some []
  | 0, _ :: _ => none
  | _ + 1, [] => none
  | n + 1, c :: os =>
    match readSegments c.toNat os with
    | some (segs, rest) =>
      match readGroups n rest with
      | some gs => some (segs :: gs)
      | none => none
    | none => none

/-- The six lane groups of a DEFINE MOTIF payload (R191). -/
def motifGroups (p : List Octet) : Option (PerLane (List Segment)) :=
  match p with
  | _ :: _ :: os =>
    match readGroups 6 os with
    | some [a, b, c, d, e, f] => some ⟨a, b, c, d, e, f⟩
    | _ => none
  | _ => none

/-- The payload length fits the kind (R191). A payload longer than a frame can hold fits no kind (R173). -/
def lengthFits (k : ReqKind) (p : List Octet) : Bool :=
  decide (p.length ≤ Config.maxPayload) &&
  match k with
  | .defineMotif => (motifGroups p).isSome
  | .loadPlan => decide (7 ≤ p.length) && decide (p.length = 7 + 3 * u8 p 6)
  | _ => k.fixedLength == some p.length

/-- The slots of a LOAD PLAN payload, `n` of them from offset `i` (section 10.4). -/
def readSlots (p : List Octet) : Nat → Nat → List PlanSlot
  | 0, _ => []
  | n + 1, i => { pitch := u16 p i, motif := u8 p (i + 2) } :: readSlots p n (i + 3)

/-! ### Coded fields of requests (R192) -/

/-- The source a code names. -/
def sourceOf : Nat → Option Source
  | 1 => some .line
  | 2 => some .wheel
  | _ => none

/-- The press mode a code names. -/
def modeOf : Nat → Option PressMode
  | 0 => some .run
  | 1 => some .idle
  | 2 => some .standby
  | _ => none

/-- The station kind a code names. -/
def kindOf : Nat → Option StationKind
  | 0 => some .emboss
  | 1 => some .foil
  | _ => none

/-- The trace policy a code names. -/
def policyOf : Nat → Option TracePolicy
  | 0 => some .off
  | 1 => some .exceptions
  | 2 => some .all
  | _ => none

/-- The register mode a code names. -/
def regModeOf : Nat → Option RegMode
  | 0 => some .auto
  | 1 => some .measure
  | _ => none

/-- The sync mode a code names. -/
def syncOf : Nat → Option Sync
  | 0 => some .cycle
  | 1 => some .any
  | _ => none

/-- The stations a station field of PAUSE, RESUME or CLEAR FAULT names: one, or all for 0 (R98, R99). -/
def stationsNamed : Nat → Option (List StationId)
  | 0 => some allStations
  | n => (StationId.ofNumber n).map fun st => [st]

/-- The station mask of a motif, bits 0 to 3 (R192); absent when a higher bit is set. -/
def maskOf (n : Nat) : Option (PerStation Bool) :=
  if n < 16 then some ⟨n.testBit 0, n.testBit 1, n.testBit 2, n.testBit 3⟩ else none

/-- The event set a 4-octet field carries (R192); absent when it names a kind above 23. -/
def eventSetOf (n : Nat) : Option (BitVec 24) :=
  if n < 16777216 then some (BitVec.ofNat 24 n) else none

/-! ### Settings as a request gives them, before clamping -/

/-- The nine fields of a SETUP ENTRY payload. -/
def entryFields (p : List Octet) : EntrySettings :=
  { nmin := u16 p 0, nmax := u16 p 2, cmin := u16 p 4, cmax := u16 p 6, ewin := u16 p 8, missLimit := u8 p 10,
    spliceOffset := u32 p 11, guard := u16 p 15, wakeTravel := u32 p 17 }

/-- The setup of a SETUP STATION payload, absent when a coded field names no code (R91, R192). -/
def setupFields (p : List Octet) : Option StationSetup :=
  match kindOf (u8 p 1), policyOf (u8 p 20) with
  | some kind, some policy =>
    some { kind, enabled := flagAt p 2, path := u32 p 3, lead := u32 p 7, swin := u16 p 11, missLimit := u8 p 13,
           strikeOnPredicted := flagAt p 14, dieSlots := u8 p 15, engageMs := u16 p 16, actTimeout := u16 p 18,
           policy }
  | _, _ => none

/-- The tuning of a TUNE REGISTER payload, absent when the mode names no code (R83). -/
def tuningFields (p : List Octet) : Option Tuning :=
  match regModeOf (u8 p 17) with
  | some mode =>
    some { target := i32 p 1, capture := u16 p 5, deadBand := u16 p 7, gain := u8 p 9, stepMax := u16 p 10,
           trimLimit := u32 p 12, settle := u8 p 16, mode }
  | none => none

/-- A set-point or setting carried in a signed field, below 0 read as 0: every range it is clamped into starts at 0
(R144, R192). -/
def nonNegative (v : Int) : Nat := v.toNat

/-- The lane settings of a SETUP LANE payload. -/
def laneFields (p : List Octet) : LaneSettings :=
  { leadMargin := u16 p 2, tailMargin := u16 p 4, jumpThreshold := u32 p 6, jumpMs := u16 p 10,
    parkAfter := u8 p 12, wakeMs := u16 p 13, lowThreshold := u32 p 15 }

/-- The plan of a LOAD PLAN payload, absent when the sync names no code (R158, R159). -/
def planFields (p : List Octet) : Option Plan :=
  match syncOf (u8 p 1) with
  | some sync => some { id := u8 p 0, sync, target := u32 p 2, slots := readSlots p (u8 p 6) 7 }
  | none => none

end Sys2Proof.Machine
end

