-- ==== Sys2Proof/Machine/Flags.lean ====
section
/-! DEFINITION. The hold set, the register flags and the codes replies carry (R94, R178, R192). -/

namespace Sys2Proof.Machine

/-! ### The hold set (R94) -/

/-- A cause is present. -/
def HoldSet.has (h : HoldSet) : Cause → Bool
  | .reference => h.reference
  | .actuator => h.actuator
  | .heatFault => h.heatFault
  | .foilDrive => h.foilDrive
  | .thermal => h.thermal
  | .foilOut => h.foilOut
  | .marksLost => h.marksLost
  | .pause => h.pause
  | .idle => h.idle

/-- The hold set with one cause present or absent. -/
def HoldSet.put (h : HoldSet) (c : Cause) (b : Bool) : HoldSet :=
  match c with
  | .reference => { h with reference := b }
  | .actuator => { h with actuator := b }
  | .heatFault => { h with heatFault := b }
  | .foilDrive => { h with foilDrive := b }
  | .thermal => { h with thermal := b }
  | .foilOut => { h with foilOut := b }
  | .marksLost => { h with marksLost := b }
  | .pause => { h with pause := b }
  | .idle => { h with idle := b }

/-- No cause is present. -/
def HoldSet.isEmpty (h : HoldSet) : Bool := h == HoldSet.empty

/-- The four hard causes, in the order of R99. -/
def hardCauses : List Cause := [.reference, .actuator, .heatFault, .foilDrive]

/-- The hold set holds a hard cause (R94). -/
def HoldSet.anyHard (h : HoldSet) : Bool := h.reference || h.actuator || h.heatFault || h.foilDrive

/-! ### Codes (R178, R192) -/

/-- The reply statuses (R178). -/
inductive Status where
  | ok | clamped | badLength | unknownKind | badValue | busy | inUse | notReady | pathTooLong
  deriving DecidableEq, Repr

/-- The code of a status (R178). -/
def statusCode : Status → Octet
  | .ok => 0
  | .clamped => 1
  | .badLength => 2
  | .unknownKind => 3
  | .badValue => 4
  | .busy => 5
  | .inUse => 6
  | .notReady => 7
  | .pathTooLong => 8

/-- OK, or CLAMPED when a value was changed (R178). -/
def okOr (clamped : Bool) : Status := if clamped then .clamped else .ok

/-- One octet from a set of flags, the first of the list in bit 0 (R192). -/
def bitsToNat : List Bool → Nat
  | [] => 0
  | b :: bs => (if b then 1 else 0) + 2 * bitsToNat bs

/-- The hold set field, bit 0 REFERENCE to bit 8 IDLE (R192). -/
def HoldSet.bits (h : HoldSet) : Nat :=
  bitsToNat [h.reference, h.actuator, h.heatFault, h.foilDrive, h.thermal, h.foilOut, h.marksLost, h.pause, h.idle]

/-- The register flags field (R192). -/
def RegFlags.bits (f : RegFlags) : Nat :=
  bitsToNat [f.noGate, f.slotMismatch, f.settle, f.deadband, f.stepClamped, f.saturated]

/-- The record flags field (R192). -/
def LabelRecord.flagBits (r : LabelRecord) : Nat := bitsToNat [r.splice, r.excess, r.cycleMark]

/-- The station mask field (R192). -/
def maskBits (m : PerStation Bool) : Nat := bitsToNat [m.s1, m.s2, m.s3, m.s4]

def SourceState.code : SourceState → Nat
  | .off => 0
  | .still => 1
  | .moving => 2
  | .fault => 3

def PressMode.code : PressMode → Nat
  | .run => 0
  | .idle => 1
  | .standby => 2

def JobState.code : JobState → Nat
  | .none => 0
  | .armed => 1
  | .draining => 2
  | .ended => 3

/-- The code of an end reason, which JOB_ENDED's detail also uses (R165, R192). -/
def EndReason.code : EndReason → Nat
  | .batch => 1
  | .endRequest => 2
  | .flush => 3

/-- The code of an optional end reason, 0 when absent (R192). -/
def endReasonCode : Option EndReason → Nat
  | none => 0
  | some r => r.code

def PlanBuffer.code : PlanBuffer → Nat
  | .empty => 0
  | .loaded _ => 1
  | .ready _ => 2

def TrackerState.code : TrackerState → Nat
  | .off => 0
  | .search => 1
  | .locked => 2

def StationKind.code : StationKind → Nat
  | .emboss => 0
  | .foil => 1

def TracePolicy.code : TracePolicy → Nat
  | .off => 0
  | .exceptions => 1
  | .all => 2

def RegMode.code : RegMode → Nat
  | .auto => 0
  | .measure => 1

def ActuatorState.code : ActuatorState → Nat
  | .lifted => 0
  | .engaging => 1
  | .engaged => 2
  | .lifting => 3
  | .jammed => 4

def Valve.code : Valve → Nat
  | .lift => 0
  | .engage => 1

def LaneState.code : LaneState → Nat
  | .unassigned => 0
  | .parked => 1
  | .active => 2
  | .empty => 3
  | .fault => 4

def Follow.code : Follow → Nat
  | .jump => 0
  | .run => 1

def ZoneState.code : ZoneState → Nat
  | .off => 0
  | .heating => 1
  | .soaking => 2
  | .ready => 3
  | .drift => 4
  | .fault => 5

def VisitState.code : VisitState → Nat
  | .waiting => 0
  | .seen => 1
  | .predicted => 2
  | .final => 3

def SkipReason.code : SkipReason → Nat
  | .notInMotif => 1
  | .hold => 2
  | .splice => 3
  | .excess => 4
  | .noMark => 5
  | .foilLate => 6
  | .foilOut => 7
  | .impressionLate => 8

/-- The code of an optional decision (R192). -/
def decisionCode : Option Decision → Nat
  | none => 0
  | some .strike => 1
  | some (.skip _) => 2

/-- The skip reason of an optional decision, 0 with STRIKE and with none (R192). -/
def decisionReason : Option Decision → Nat
  | some (.skip r) => r.code
  | _ => 0

/-- The code of an outcome; VOID has none, since no visit left to be read holds it (R192), and reads as 0. -/
def outcomeCode : Option VisitOutcome → Nat
  | some .struck => 1
  | some .skipped => 2
  | some .missed => 3
  | some .marred => 4
  | _ => 0

/-- The code of an origin (R196). -/
def Origin.code : Origin → Nat
  | .detected => 0
  | .predicted => 1

/-- The codes of a station state (R90, R192). -/
inductive StationState where
  | disabled | standby | run | held
  deriving DecidableEq, Repr

def StationState.code : StationState → Nat
  | .disabled => 0
  | .standby => 1
  | .run => 2
  | .held => 3

/-- A station's state, derived from its enabled flag, the job state and its hold set (R90). -/
def State.stationState (s : State) (st : StationId) : StationState :=
  if !s.enabled st then .disabled
  else if s.job.state = .none then .standby
  else if (s.station st).hold.isEmpty then .run
  else .held

end Sys2Proof.Machine
end

