-- ==== Sys2Proof/Machine/Lanes.lean ====
section
/-! DEFINITION. Foil lanes (chapter 6): drive commands and stopping (R118, R129), span, gap and follow (R120 to
R122), the lane check (R123 to R125), the commit (R126), the idle run (R127, R128) and the soft cause FOIL_OUT. -/

namespace Sys2Proof.Machine

/-! ### Drive commands (R118) -/

/-- A command on the lane's drive command port (R118). -/
def Lane.send (l : Lane) (c : DriveCommand) : Lane := { l with drive := l.drive ++ [c] }

/-- The full STOP, which carries the web counter (R118). -/
def fullStop (web : Pos) : DriveCommand := { kind := .stopAll, start := web, length := 0, follow := .jump }

/-- PARK, from the end of the last feed if there is one, otherwise from the web counter (R118). -/
def parkCommand (web : Pos) (l : Lane) : DriveCommand :=
  { kind := .park, start := (match l.lastFeed with | some f => f.endPos | none => web), length := 0,
    follow := .jump }

/-- A full STOP is sent, which empties the pending feeds, and the last feed is discarded (R119, R129, R133). -/
def Lane.stopAll (web : Pos) (l : Lane) : Lane :=
  { l.send (fullStop web) with pendingFeeds := [], lastFeed := none }

/-- PARK is sent and the last feed discarded; the pending feeds stand (R118, R128). -/
def Lane.park (web : Pos) (l : Lane) : Lane := { l.send (parkCommand web l) with lastFeed := none }

/-- A hard cause or a flush reaches the lane: in ACTIVE or PARKED it is stopped whole and parked (R96, R129). -/
def Lane.halt (web : Pos) (l : Lane) : Lane :=
  match l.state with
  | .active | .parked => { l.stopAll web with state := .parked }
  | _ => l

/-- A flush reaches the lane; the pending feeds of a lane it does not stop are emptied too (R12, R119, R129). -/
def Lane.flush (web : Pos) (l : Lane) : Lane := { l.halt web with pendingFeeds := [] }

/-- The conversion of a STRIKE decision stops the feed of the record `seq`, if it is still pending (R129). -/
def Lane.stopOne (seq : BitVec 16) (l : Lane) : Lane :=
  match l.pendingFeeds.find? fun f => f.seq == seq with
  | none => l
  | some f =>
    let l := { l.send { kind := .stopOne, start := f.start, length := f.length, follow := .jump } with
               pendingFeeds := l.pendingFeeds.filter fun f => f.seq != seq }
    match l.lastFeed with
    | some g => if g.seq = seq then { l with lastFeed := none, state := .parked } else l
    | none => l

/-- The feed of the record `seq` has been delivered and leaves the list (R119). -/
def Lane.delivered (seq : BitVec 16) (l : Lane) : Lane :=
  { l with pendingFeeds := l.pendingFeeds.filter fun f => f.seq != seq }

/-- The remaining foil (R130). -/
def Lane.remaining (l : Lane) : Nat := l.loaded - l.used

/-! ### The soft cause FOIL_OUT (R95) -/

/-- A soft cause is added; a cause aimed at a disabled station is not (R94). -/
def addSoft (c : Cause) (st : StationId) (s : State) : State :=
  if s.enabled st then s.modStation st fun u => { u with hold := u.hold.put c true } else s

/-- A cause is removed; removing an absent one changes nothing (R94). -/
def dropCause (c : Cause) (st : StationId) (s : State) : State :=
  s.modStation st fun u => { u with hold := u.hold.put c false }

/-- Some lane assigned to the station is EMPTY. -/
def State.anyEmpty (s : State) (st : StationId) : Bool :=
  (s.lanesOf st).any fun l => (s.lane l).state == .empty

/-- FOIL_OUT leaves the station when no lane assigned to it is EMPTY any longer (R95). -/
def dropFoilOut (st : StationId) (s : State) : State :=
  if s.anyEmpty st then s else dropCause .foilOut st s

/-! ### Span, planned gap and follow (R120 to R122) -/

/-- The relative start of a lane's span: the first segment's offset less the lead margin (R120). -/
def relStart (set : LaneSettings) (segs : List Segment) : Int :=
  match segs with
  | [] => 0
  | g :: _ => (g.offset : Int) - set.leadMargin

/-- The relative end of a lane's span: the end of the last segment plus the tail margin (R120). -/
def relEnd (set : LaneSettings) (segs : List Segment) : Int :=
  match segs.getLast? with
  | none => 0
  | some g => (g.offset : Int) + g.length + set.tailMargin

/-- The segments a motif gives a lane (R154). -/
def State.segmentsOf (s : State) (motif : Nat) (l : LaneId) : List Segment :=
  ((s.job.motifs[motif]?).getD Motif.empty).segments.get l

/-- The plan whose id a record carries: the active plan or the draining plan (R121). -/
def State.planOf (s : State) (id : Nat) : Option Plan :=
  match s.job.active with
  | some p => if p.id = id then some p else s.job.draining.filter fun p => p.id == id
  | none => s.job.draining.filter fun p => p.id == id

/-- The walk of R121 from slot `j`, `p` ticks past the record's mark: the first slot whose motif has segments on the
lane, at most `fuel` slots on, as the distance `p` and that slot's motif. -/
def gapWalk (s : State) (slots : List PlanSlot) (l : LaneId) : Nat → Nat → Nat → Option (Nat × Nat)
  | 0, _, _ => none
  | fuel + 1, j, p =>
    match slots[j % slots.length]? with
    | none => none
    | some slot =>
      if (s.segmentsOf slot.motif l).isEmpty then gapWalk s slots l fuel (j + 1) (p + slot.pitch)
      else some (p, slot.motif)

/-- The planned gap after the span of a record on a lane (R121). The record's own slot ends the walk at the latest;
where the record's plan is neither active nor draining, or its slot is not in it, which no run reaches (R157,
R166), there is no walk and the gap is 0 (log 22). -/
def State.plannedGap (s : State) (r : LabelRecord) (l : LaneId) : Int :=
  match s.planOf r.plan with
  | none => 0
  | some plan =>
    match plan.slots[r.slot]? with
    | none => 0
    | some own =>
      match gapWalk s plan.slots l plan.slots.length (r.slot + 1) own.pitch with
      | none => 0
      | some (p, motif) =>
        p + relStart (s.lane l).set (s.segmentsOf motif l) - relEnd (s.lane l).set (s.segmentsOf r.motif l)

/-- The follow for a gap at a speed (R122). -/
def followFor (set : LaneSettings) (speed : Nat) (gap : Int) : Follow :=
  if (max set.jumpThreshold (distance speed set.jumpMs) : Int) ≤ gap then .jump else .run

/-- A feed worked out for one label on one lane: its span, its follow, the foil counted and saved (R120 to R123). -/
structure FeedPlan where
  start : Pos
  length : Nat
  follow : Follow
  counted : Nat
  saved : Nat
  deriving DecidableEq, Repr

/-- The overlap of a span with the lane's last feed (R123). -/
def Lane.overlap (l : Lane) (start : Pos) : Int :=
  match l.lastFeed with
  | some f => match f.follow with
    | .run => max 0 (sdiff f.endPos start)
    | .jump => 0
  | none => 0

/-- The feed of a record on a lane, for the strike point given (R120 to R123). -/
def State.feedPlan (s : State) (r : LabelRecord) (strikePt : Pos) (l : LaneId) : FeedPlan :=
  let lane := s.lane l
  let segs := s.segmentsOf r.motif l
  let length := relEnd lane.set segs - relStart lane.set segs
  let start := posShift strikePt (relStart lane.set segs)
  let gap := s.plannedGap r l
  let follow := followFor lane.set s.ref.speed gap
  let base := max 0 (length - lane.overlap start)
  { start, length := length.toNat, follow,
    counted := (match follow with | .run => base + max 0 gap | .jump => base).toNat,
    saved := match follow with | .jump => gap.toNat | .run => 0 }

/-! ### The lane check (R123 to R125) -/

/-- The lanes concerned in a decision: the station's lanes that have segments in the motif (R124). -/
def State.concerned (s : State) (st : StationId) (motif : Nat) : List LaneId :=
  (s.lanesOf st).filter fun l => !(s.segmentsOf motif l).isEmpty

/-- Hold-fail: the lane is in FAULT (R124). -/
def Lane.holdFails (l : Lane) : Bool := l.state == .fault

/-- The foil counted exceeds the remaining foil (R124). -/
def Lane.short (l : Lane) (f : FeedPlan) : Bool := decide (l.remaining < f.counted)

/-- Out-fail: the lane is EMPTY, or its foil counted exceeds its remaining foil (R124). -/
def Lane.outFails (l : Lane) (f : FeedPlan) : Bool := l.state == .empty || l.short f

/-- Late-fail: the lane is PARKED and its span starts too near (R124). -/
def Lane.lateFails (l : Lane) (hw : Pos) (speed : Nat) (f : FeedPlan) : Bool :=
  l.state == .parked && decide (sdiff f.start hw < distance speed l.set.wakeMs)

/-- The lane check (R124): the reason it gives when it fails. -/
def State.laneCheck (s : State) (st : StationId) (r : LabelRecord) (strikePt : Pos) : Option SkipReason :=
  let ls := s.concerned st r.motif
  if ls.any fun l => (s.lane l).holdFails then some .hold
  else if ls.any fun l => (s.lane l).outFails (s.feedPlan r strikePt l) then some .foilOut
  else if ls.any fun l => (s.lane l).lateFails s.ref.hw s.ref.speed (s.feedPlan r strikePt l) then some .foilLate
  else none

/-- A concerned lane acts on a failed check (R125, R197). `f` is its feed as the check worked it out. -/
def checkFailed (st : StationId) (seq : BitVec 16) (f : FeedPlan) (l : LaneId) (s : State) : State :=
  let lane := s.lane l
  let late := lane.lateFails s.ref.hw s.ref.speed f
  let s := if late then s.modLane l fun u => { u with late := bump16 u.late } else s
  if lane.short f && (lane.state == .parked || lane.state == .active) then
    addSoft .foilOut st (raiseEvent .foilOut l.number seq.toNat
      (s.modLane l fun u => { u.park s.web with state := .empty }))
  else s

/-! ### The idle run (R127, R128) -/

/-- A lane that did not commit counts its idle run, and parks when it reaches park_after in ACTIVE (R127, R128). -/
def Lane.countIdle (web : Pos) (l : Lane) : Lane :=
  let idle := min 16 (l.idleRun + 1)
  let l := { l with idleRun := idle }
  if idle = l.set.parkAfter ∧ l.set.parkAfter ≠ 0 ∧ l.state = .active then { l.park web with state := .parked }
  else l

/-- The lanes of a list count their idle run. -/
def countIdle (ls : List LaneId) (s : State) : State :=
  overLanes ls (fun l s => s.modLane l fun u => u.countIdle s.web) s

/-! ### The commit (R126) -/

/-- The low-spool test (R130): FOIL_LOW once per spool. -/
def lowSpoolTest (l : LaneId) (s : State) : State :=
  let lane := s.lane l
  if lane.lowWarned = false ∧ lane.remaining < lane.set.lowThreshold then
    raiseEvent .foilLow l.number (sat16 (lane.remaining / 100000)) (s.modLane l fun u => { u with lowWarned := true })
  else s

/-- The lane's part of a commit, steps 1 and 3 to 6 of R126. -/
def Lane.commit (seq : BitVec 16) (f : FeedPlan) (l : Lane) : Lane :=
  { l.send { kind := .feed, start := f.start, length := f.length, follow := f.follow } with
    used := l.used + f.counted
    saved := sat32 (l.saved + f.saved)
    pendingFeeds := l.pendingFeeds ++
      [{ seq, start := f.start, length := f.length, follow := f.follow, counted := f.counted }]
    lastFeed := some { seq, endPos := posShift f.start f.length, follow := f.follow }
    state := .active
    idleRun := 0
    feeds := bump32 l.feeds
    jumps := if f.follow = .jump then bump32 l.jumps else l.jumps }

/-- The feed record of a commit, step 2 of R126. -/
def feedRecord (f : FeedPlan) (l : LaneId) : FeedRecord :=
  { lane := l, start := f.start, length := f.length, follow := f.follow, counted := f.counted }

/-- A lane commits its feed, but for the feed record the visit takes (R126). -/
def commitFeed (seq : BitVec 16) (f : FeedPlan) (l : LaneId) (s : State) : State :=
  lowSpoolTest l (s.modLane l fun u => u.commit seq f)

end Sys2Proof.Machine
end

