-- ==== Sys2Proof/Machine/Impression.lean ====
section
/-! DEFINITION. Visits in queue order, the impression actuator (R101, R102), the engage and lift requests of decisions
and outcomes (R105 to R109), the conversion of a STRIKE decision (R55 to R57), and the hard causes with their fault
actions (R94, R96). -/

namespace Sys2Proof.Machine

/-! ### Visits by record and station -/

/-- The visit of a record at a station. -/
def LabelRecord.visit (r : LabelRecord) (st : StationId) : Option Visit := r.visits.get st

/-- The live record with a sequence number; live records carry different ones (R42). -/
def State.record? (s : State) (seq : BitVec 16) : Option LabelRecord := s.queue.find? fun r => r.seq == seq

/-- A record with its visit at a station changed. -/
def LabelRecord.modVisit (r : LabelRecord) (st : StationId) (f : Visit → Visit) : LabelRecord :=
  { r with visits := r.visits.put st ((r.visit st).map f) }

/-- The queue with the record of a sequence number changed. -/
def modRecord (seq : BitVec 16) (f : LabelRecord → LabelRecord) (q : List LabelRecord) : List LabelRecord :=
  q.map fun r => if r.seq = seq then f r else r

/-- The state with the visit of a record at a station changed. -/
def modVisit (seq : BitVec 16) (st : StationId) (f : Visit → Visit) (s : State) : State :=
  { s with queue := modRecord seq (fun r => r.modVisit st f) s.queue }

/-- The present visits of a station in queue order (R105). -/
def visitsOf (st : StationId) (q : List LabelRecord) : List Visit := q.filterMap fun r => r.visit st

/-- The records before that of a sequence number. -/
def recordsBefore (seq : BitVec 16) (q : List LabelRecord) : List LabelRecord := q.takeWhile fun r => r.seq != seq

/-- The records after that of a sequence number. -/
def recordsAfter (seq : BitVec 16) (q : List LabelRecord) : List LabelRecord :=
  (q.dropWhile fun r => r.seq != seq).drop 1

/-- The visit holds STRIKE. -/
def Visit.strikes (v : Visit) : Bool := v.decision == some .strike

/-- The visit holds SKIP, whatever its reason. -/
def Visit.skips (v : Visit) : Bool :=
  match v.decision with
  | some (.skip _) => true
  | _ => false

/-- The visit's decision is outstanding: it is not FINAL (R105). -/
def Visit.open (v : Visit) : Bool := v.state != .final

/-- An undelivered STRIKE: the visit holds STRIKE and is not FINAL (section 3.7). -/
def Visit.undelivered (v : Visit) : Bool := v.strikes && v.open

/-- The visit's next visit at its station (R105). -/
def State.nextVisit (s : State) (seq : BitVec 16) (st : StationId) : Option Visit :=
  (visitsOf st (recordsAfter seq s.queue)).head?

/-! ### The actuator (R101) -/

/-- An engage request (R101). -/
def Station.engage (u : Station) : Station :=
  match u.actuator with
  | .lifted | .lifting =>
    if u.engagedIn then { u with valve := .engage, actuator := .engaged, stroke := none }
    else { u with valve := .engage, actuator := .engaging, stroke := some u.setup.actTimeout }
  | _ => u

/-- A lift request (R101). -/
def Station.lift (u : Station) : Station :=
  match u.actuator with
  | .engaging | .engaged =>
    if u.liftedIn then { u with valve := .lift, actuator := .lifted, stroke := none }
    else { u with valve := .lift, actuator := .lifting, stroke := some u.setup.actTimeout }
  | _ => u

/-- The idle-lift point is cancelled and a lift request made (R96, R106). -/
def Station.cancelAndLift (u : Station) : Station := ({ u with idleLift := none } : Station).lift

/-! ### Requests of decisions and outcomes (R105 to R108) -/

/-- The requests of a visit decided STRIKE (R105). -/
def strikeDecided (seq : BitVec 16) (st : StationId) (s : State) : State :=
  let skipOutstanding := (visitsOf st (recordsBefore seq s.queue)).any fun v => v.skips && v.open
  s.modStation st fun u =>
    let u : Station := { u with idleLift := none }
    if skipOutstanding then u else u.engage

/-- The requests of a visit decided SKIP or converted to it (R106). -/
def skipDecided (seq : BitVec 16) (st : StationId) (s : State) : State :=
  if (visitsOf st (recordsBefore seq s.queue)).any Visit.undelivered then s
  else s.modStation st Station.cancelAndLift

/-- The idle-lift point is reached: a lift request if no visit of the station holds an outstanding STRIKE; the
point is consumed (R109). -/
def idleLiftReached (st : StationId) (s : State) : State :=
  let outstanding := (visitsOf st s.queue).any Visit.undelivered
  s.modStation st fun u =>
    let u : Station := { u with idleLift := none }
    if outstanding then u else u.lift

/-- The idle-lift point is set; one already reached is taken at once (R9, R107). -/
def setIdleLift (st : StationId) (p : Pos) (s : State) : State :=
  let s := s.modStation st fun u => { u with idleLift := some p }
  if reached s.ref.hw p then idleLiftReached st s else s

/-- The lift decision after a STRIKE visit's outcome (R107). -/
def strikeOutcome (seq : BitVec 16) (st : StationId) (strikePt : Pos) (pitch : Nat) (s : State) : State :=
  match s.nextVisit seq st with
  | some v => if v.skips then s.modStation st Station.lift else s
  | none => setIdleLift st (posShift strikePt (pitch + (s.station st).setup.swin)) s

/-- The engage after a SKIP visit's outcome (R108). -/
def skipOutcome (seq : BitVec 16) (st : StationId) (s : State) : State :=
  match s.nextVisit seq st with
  | some v => if v.strikes then s.modStation st Station.engage else s
  | none => s

/-! ### Conversion (R55 to R57) -/

/-- One visit's STRIKE decision becomes SKIP with the reason given, the lanes its feeds name are sent their one-feed
STOP, and the station unit takes the change as a SKIP decision (R57). -/
def convertVisit (seq : BitVec 16) (st : StationId) (reason : SkipReason) (feeds : List FeedRecord)
    (s : State) : State :=
  skipDecided seq st
    (overLanes (feeds.map FeedRecord.lane) (fun l s => s.modLane l fun u => u.stopOne seq)
      (modVisit seq st (fun v => { v with decision := some (.skip reason) }) s))

/-- The undelivered STRIKE visits of a station in queue order, as record and feeds. -/
def undeliveredOf (st : StationId) (q : List LabelRecord) : List (BitVec 16 × List FeedRecord) :=
  q.filterMap fun r =>
    match r.visit st with
    | some v => if v.undelivered then some (r.seq, v.feeds) else none
    | none => none

/-- Every undelivered STRIKE visit of a station becomes SKIP with reason HOLD, in queue order (R55). -/
def convertAll (st : StationId) (s : State) : State :=
  (undeliveredOf st s.queue).foldl (fun s x => convertVisit x.1 st .hold x.2 s) s

/-! ### Hard causes (R94, R96) -/

/-- The lanes of a station are halted (R96, step 3). -/
def haltLanes (st : StationId) (s : State) : State :=
  overLanes (s.lanesOf st) (fun l s => s.modLane l fun u => u.halt s.web) s

/-- The fault actions of a hard cause (R96). -/
def faultActions (st : StationId) (s : State) : State :=
  haltLanes st (convertAll st (s.modStation st Station.cancelAndLift))

/-- A hard cause enters the hold set of an enabled station, with its fault actions when it was not there (R94, R96). -/
def addHard (c : Cause) (st : StationId) (s : State) : State :=
  if s.enabled st && !(s.station st).hold.has c then faultActions st (addSoft c st s) else s

/-- REFERENCE at every enabled station (R7, R11). -/
def addReference (s : State) : State := overStations allStations (addHard .reference) s

/-! ### Confirms and the stroke timer (R101, R102) -/

/-- The ENGAGED confirm input takes a level; becoming active it completes an engage stroke (R101). -/
def Station.engagedConfirm (u : Station) (level : Bool) : Station :=
  let rises := level && !u.engagedIn
  let u : Station := { u with engagedIn := level }
  if rises && u.actuator == .engaging then { u with actuator := .engaged, stroke := none } else u

/-- The LIFTED confirm input takes a level; becoming active it completes a lift stroke (R101). -/
def Station.liftedConfirm (u : Station) (level : Bool) : Station :=
  let rises := level && !u.liftedIn
  let u : Station := { u with liftedIn := level }
  if rises && u.actuator == .lifting then { u with actuator := .lifted, stroke := none } else u

/-- The stroke timer expires: the stroke has failed (R102). -/
def strokeExpired (st : StationId) (s : State) : State :=
  let jam (detail : Nat) (s : State) : State :=
    addHard .actuator st (raiseEvent .impressionFault st.number detail
      (s.modStation st fun u => { u with valve := .lift, actuator := .jammed, stroke := none }))
  match (s.station st).actuator with
  | .engaging => jam 1 s
  | .lifting => jam 2 s
  | _ => s

end Sys2Proof.Machine
end

