-- ==== Sys2Proof/Machine/Queue.lean ====
section
/-! DEFINITION. The label queue (chapter 3): retirement and what the job store does at it (R43, R165, R166), the
outcome at the strike point (R58 to R60), the strike decision (R52 to R54), window expiry (R47), the unusable run
(R50, R51), drift learning (R48) and the queue's next reached threshold (R9, R44). -/

namespace Sys2Proof.Machine

/-! ### Retirement (R43) -/

/-- A DRAINING job whose active plan has no live record becomes ENDED, and JOB_ENDED is raised (R165). -/
def drainedTest (s : State) : State :=
  if s.job.state = .draining ∧ s.job.activeLive = 0 then
    let id := match s.job.active with | some p => p.id | none => 0
    raiseEvent .jobEnded 0 (endReasonCode s.job.endReason * 256 + id) { s with job := { s.job with state := .ended } }
  else s

/-- A plan place holds the plan of an id. -/
def planIs (p : Option Plan) (id : Nat) : Bool :=
  match p with
  | some p => p.id == id
  | none => false

/-- The job store is told of the retirement of a record of a plan: the live count falls, a DRAINING job may end, and
the draining plan is released with its last record (R43, R158, R165, R166). -/
def planRetired (id : Nat) (s : State) : State :=
  if planIs s.job.active id then
    drainedTest { s with job := { s.job with activeLive := s.job.activeLive - 1 } }
  else if planIs s.job.draining id then
    let live := s.job.drainingLive - 1
    { s with job := { s.job with drainingLive := live,
                                 draining := if live = 0 then none else s.job.draining } }
  else s

/-- Every present visit of the record is FINAL (R43). -/
def LabelRecord.allFinal (r : LabelRecord) : Bool :=
  allStations.all fun st =>
    match r.visit st with
    | some v => !v.open
    | none => true

/-- The retirement check: the head retires while all its present visits are FINAL, at most `fuel` records (R43). -/
def retireHeads : Nat → State → State
  | 0, s => s
  | fuel + 1, s =>
    match s.queue with
    | [] => s
    | r :: rest => if r.allFinal then retireHeads fuel (planRetired r.plan { s with queue := rest }) else s

/-- The retirement check, as far along the queue as it goes (R43). -/
def retire (s : State) : State := retireHeads s.queue.length s

/-! ### The outcome at the strike point (R58 to R60, R110, R111) -/

/-- The outcome of a decision under an actuator state (R58). -/
def outcomeOf (strikes : Bool) (a : ActuatorState) : VisitOutcome :=
  if strikes then (if a = .engaged then .struck else .missed)
  else (if a = .lifted then .skipped else .marred)

/-- The outcome is counted (R110); VOID is not (R62). -/
def Station.count (u : Station) : VisitOutcome → Station
  | .struck => { u with struck := bump32 u.struck }
  | .skipped => { u with skipped := bump32 u.skipped }
  | .missed => { u with missed := bump32 u.missed }
  | .marred => { u with marred := bump32 u.marred }
  | .void => u

/-- The trace policy calls for an entry (R111). -/
def policyWrites (p : TracePolicy) (v : Visit) (o : VisitOutcome) : Bool :=
  match p with
  | .off => false
  | .all => true
  | .exceptions =>
    match o with
    | .missed | .marred => true
    | .skipped => v.decision != some (.skip .notInMotif) && v.decision != some (.skip .excess)
    | .struck => v.markPos.isNone || v.regFlags.noGate || v.regFlags.slotMismatch
    | .void => false

/-- The skip reason of a visit, absent with STRIKE (R60). -/
def Visit.reason (v : Visit) : Option SkipReason :=
  match v.decision with
  | some (.skip r) => some r
  | _ => none

/-- The trace entry of a visit at its strike point (R60). -/
def traceEntry (r : LabelRecord) (st : StationId) (v : Visit) (o : VisitOutcome) (p : Pos) (trim : Int) : TraceEntry :=
  { seq := r.seq, plan := r.plan, slot := r.slot, station := st, outcome := o, reason := v.reason, error := v.error,
    trim, regFlags := v.regFlags, origin := (if v.markPos.isSome then .detected else .predicted), strikePt := p }

/-- A visit's strike point is reached: its outcome is fixed and it becomes FINAL, its feeds are delivered, and the
outcome is handed on in the order of R59 (R58, R59, R119). -/
def fixOutcome (r : LabelRecord) (st : StationId) (v : Visit) (p : Pos) (s : State) : State :=
  let o := outcomeOf v.strikes (s.station st).actuator
  let s := modVisit r.seq st (fun v => { v with state := .final, outcome := some o }) s
  let s := overLanes (v.feeds.map FeedRecord.lane) (fun l s => s.modLane l (Lane.delivered r.seq)) s
  let s := s.modStation st fun u => u.count o
  let s := if v.strikes then strikeOutcome r.seq st p r.pitch s else skipOutcome r.seq st s
  let s := if o = .missed ∨ o = .marred then raiseEvent .strikeFault st.number r.seq.toNat s else s
  let s := if policyWrites (s.station st).setup.policy v o
    then writeTrace (traceEntry r st v o p (s.station st).loop.trim) s else s
  retire s

/-- The visit's strike point, when it has one already reached and is not FINAL, is taken (R9, R49). -/
def strikeIfReached (seq : BitVec 16) (st : StationId) (s : State) : State :=
  match s.record? seq with
  | none => s
  | some r =>
    match r.visit st with
    | none => s
    | some v =>
      match v.strikePt with
      | none => s
      | some p => if v.open && reached s.ref.hw p then fixOutcome r st v p s else s

/-! ### The strike decision (R52 to R54) -/

/-- The motif acts at the station: the station is in its mask and, at a FOIL station, a lane assigned to it has a
segment in the motif (R52, test 3). -/
def State.inMotif (s : State) (st : StationId) (motif : Nat) : Bool :=
  ((s.job.motifs[motif]?).getD Motif.empty).mask.get st &&
  ((s.station st).setup.kind != .foil || !(s.concerned st motif).isEmpty)

/-- The impression cannot be closed in time (R52, test 6). -/
def State.impressionLate (s : State) (st : StationId) (strikePt : Pos) : Bool :=
  let u := s.station st
  u.actuator != .engaged && u.actuator != .engaging &&
  decide (sdiff strikePt s.ref.hw < distance s.ref.speed u.setup.engageMs)

/-- The decision of a visit: SKIP with the first reason that applies, else STRIKE (R52). -/
def State.decision (s : State) (r : LabelRecord) (st : StationId) (v : Visit) (strikePt : Pos) : Decision :=
  let u := s.station st
  if r.excess then .skip .excess
  else if r.splice then .skip .splice
  else if !s.inMotif st r.motif then .skip .notInMotif
  else if !u.hold.isEmpty then .skip .hold
  else if v.state == .predicted && !u.setup.strikeOnPredicted then .skip .noMark
  else if s.impressionLate st strikePt then .skip .impressionLate
  else if u.setup.kind = .foil then
    match s.laneCheck st r strikePt with
    | some reason => .skip reason
    | none => .strike
  else .strike

/-- The lanes that commit on a STRIKE decision: those concerned at a FOIL station (R53, R126). -/
def State.committing (s : State) (st : StationId) (motif : Nat) : List LaneId :=
  if (s.station st).setup.kind = .foil then s.concerned st motif else []

/-- A STRIKE decision is carried out: the concerned lanes commit, the others count their idle run, and the station
unit is told (R53, R126, R127, R105). -/
def carryStrike (r : LabelRecord) (st : StationId) (strikePt : Pos) (s : State) : State :=
  let ls := s.committing st r.motif
  let feeds := ls.map fun l => (l, s.feedPlan r strikePt l)
  let others := (s.lanesOf st).filter fun l => !ls.contains l
  let s := modVisit r.seq st (fun v => { v with decision := some .strike,
                                                feeds := feeds.map fun x => feedRecord x.2 x.1 }) s
  let s := feeds.foldl (fun s x => commitFeed r.seq x.2 x.1 s) s
  strikeDecided r.seq st (countIdle others s)

/-- A SKIP decision is carried out: the station unit is told, the lanes concerned in a failed check act on it, and
every lane of the station counts its idle run (R54, R106, R125, R127). -/
def carrySkip (r : LabelRecord) (st : StationId) (strikePt : Pos) (reason : SkipReason) (checked : Bool)
    (s : State) : State :=
  let feeds := if checked then (s.concerned st r.motif).map fun l => (l, s.feedPlan r strikePt l) else []
  let s := modVisit r.seq st (fun v => { v with decision := some (.skip reason) }) s
  let s := skipDecided r.seq st s
  let s := feeds.foldl (fun s x => checkFailed st r.seq x.2 x.1 s) s
  countIdle (s.lanesOf st) s

/-- The reason is one the lane check gives (R52, test 7). -/
def SkipReason.fromCheck : SkipReason → Bool
  | .foilOut | .foilLate => true
  | _ => false

/-- The visit of a record at a station is decided and the decision carried out (R52 to R54). The lane check's result
HOLD cannot decide a visit, since a lane in FAULT keeps FOIL_DRIVE in the hold set (R52); were it to, the check's
failure is acted on like the others (R125). -/
def decideVisit (seq : BitVec 16) (st : StationId) (s : State) : State :=
  match s.record? seq with
  | none => s
  | some r =>
    match r.visit st with
    | none => s
    | some v =>
      match v.strikePt with
      | none => s
      | some p =>
        match s.decision r st v p with
        | .strike => carryStrike r st p s
        | .skip reason =>
          carrySkip r st p reason (reason.fromCheck || (reason == .hold && (s.station st).hold.isEmpty)) s

/-! ### The unusable run (R50, R51) -/

/-- A reading with no usable register value: the run rises, and at the miss limit MARKS_LOST is added and raised
when it was not there (R50, R51). -/
def unusableReading (st : StationId) (s : State) : State :=
  let run := min 31 ((s.station st).unusable + 1)
  let s := s.modStation st fun u => { u with unusable := run }
  let u := s.station st
  if u.setup.missLimit ≤ run ∧ u.hold.marksLost = false ∧ u.setup.enabled = true then
    raiseEvent .marksLost st.number run (addSoft .marksLost st s)
  else s

/-- A usable pair: the run is 0 and MARKS_LOST leaves the hold set (R50, R51). -/
def usableReading (st : StationId) (s : State) : State :=
  dropCause .marksLost st (s.modStation st fun u => { u with unusable := 0 })

/-! ### Match and prediction (R45 to R49) -/

/-- The drift after a DETECTED record's visit is SEEN (R48). -/
def learnedDrift (drift observed : Int) (swin : Nat) : Int :=
  let diff := observed - drift
  let step : Int := ((diff.natAbs + 2) / 4 : Nat)
  clampInt (-swin) swin (if 0 < diff then drift + step else drift - step)

/-- The station learns its drift from a visit of a record, when the record is DETECTED (R45 step 4, R48). -/
def learnDrift (r : LabelRecord) (st : StationId) (mark : Pos) (s : State) : State :=
  match r.origin with
  | .detected =>
    s.modStation st fun u =>
      { u with drift := learnedDrift u.drift (sdiff mark r.entryPos - u.setup.path) u.setup.swin }
  | .predicted => s

/-- The oldest WAITING visit of a station with its record (section 3.4). -/
def State.oldestWaiting (s : State) (st : StationId) : Option (LabelRecord × Visit) :=
  s.queue.findSome? fun r =>
    match r.visit st with
    | some v => if v.state = .waiting then some (r, v) else none
    | none => none

/-- A position lies in the visit's station window (R44). -/
def Visit.contains (v : Visit) (p : Pos) : Bool := decide ((sdiff p v.expected).natAbs ≤ v.swin)

/-- A WAITING visit's window expires: PREDICTED, its strike point set, the run raised, and decided; a strike point
already reached is taken at once (R47, R49). -/
def windowExpired (seq : BitVec 16) (st : StationId) (s : State) : State :=
  let lead := (s.station st).setup.lead
  let s := modVisit seq st
    (fun v => { v with state := .predicted, strikePt := some (posShift v.expected lead) }) s
  strikeIfReached seq st (decideVisit seq st (unusableReading st s))

/-! ### The queue's next threshold (R9, R44) -/

/-- The two kinds of queue threshold. -/
inductive QueueThreshold where
  | window | strike
  deriving DecidableEq, Repr

/-- A threshold of the label queue: its position, its record and station, and its kind. -/
structure DueThreshold where
  pos : Pos
  seq : BitVec 16
  station : StationId
  kind : QueueThreshold
  deriving DecidableEq, Repr

/-- The threshold a visit has: its window's expiry while WAITING, its strike point until it is FINAL (R44, R49). -/
def Visit.threshold (v : Visit) : Option (Pos × QueueThreshold) :=
  match v.state with
  | .waiting => some (v.expiry, .window)
  | .seen | .predicted => v.strikePt.map fun p => (p, .strike)
  | .final => none

/-- The thresholds of the queue in queue order and, within a record, in station order (R44). -/
def queueThresholds (q : List LabelRecord) : List DueThreshold :=
  q.flatMap fun r => allStations.filterMap fun st =>
    (r.visit st).bind fun v => v.threshold.map fun x => { pos := x.1, seq := r.seq, station := st, kind := x.2 }

/-- Of two thresholds, the first to be taken: the nearer the start of the web, the first on a tie (R9, R44). -/
def earlier (a : DueThreshold) (b : Option DueThreshold) : Option DueThreshold :=
  match b with
  | none => some a
  | some b => if sdiff b.pos a.pos < 0 then some b else some a

/-- The first to be taken of the thresholds that HW has reached (R9, R44). -/
def nextDue (hw : Pos) (ts : List DueThreshold) : Option DueThreshold :=
  (ts.filter fun t => reached hw t.pos).foldr earlier none

/-- The queue's next reached threshold. -/
def State.nextDue (s : State) : Option DueThreshold := Machine.nextDue s.ref.hw (queueThresholds s.queue)

/-- STATION_WINDOW_EXPIRY: the queue's next reached threshold is taken, when it is a window's expiry (R9, R44, R47). -/
def stationWindowExpiry (s : State) : State :=
  match s.nextDue with
  | some t => match t.kind with
    | .window => windowExpired t.seq t.station s
    | .strike => s
  | none => s

/-- STRIKE_POINT: the queue's next reached threshold is taken, when it is a strike point (R9, R44, R58). -/
def strikePoint (s : State) : State :=
  match s.nextDue with
  | some t => match t.kind with
    | .strike => strikeIfReached t.seq t.station s
    | .window => s
  | none => s

end Sys2Proof.Machine
end

