-- ==== Sys2Proof/Machine/Reference.lean ====
section
/-! DEFINITION. The reference unit (chapter 1): the flush (R12), source faults (R7), the reverse limit (R11), counts
(R3 to R5, R8), the agreement check (R15, R16) and the speed sample (R13). -/

namespace Sys2Proof.Machine

/-! ### The tracker's moves that other blocks make (R28) -/

/-- The tracker enters SEARCH: the cursor is 0 and the next expected position absent (R28). -/
def Tracker.enterSearch (t : Tracker) : Tracker := { t with state := .search, cursor := 0, window := none }

/-- The tracker enters OFF; the next expected position, which it holds only while LOCKED, is absent (R27, R28). -/
def Tracker.enterOff (t : Tracker) : Tracker := { t with state := .off, window := none }

/-- The tracker enters SEARCH (R28). -/
def enterSearch (s : State) : State := { s with tracker := s.tracker.enterSearch }

/-- The tracker enters OFF (R28). -/
def enterOff (s : State) : State := { s with tracker := s.tracker.enterOff }

/-! ### The flush (R12) -/

/-- A mark channel leaves the mark it is in, without a count (R12, R20). -/
def MarkChannel.leave (c : MarkChannel) : MarkChannel := { c with state := .out }

/-- The waiting mark and the unpaired gate are dropped without a result (R75). -/
def RegLoop.drop (l : RegLoop) : RegLoop := { l with waiting := none, gate := none }

/-- What a flush does at a station: its places are dropped, its idle-lift point cancelled and its mark channel left
(R12, R75, R109). -/
def Station.flush (u : Station) : Station :=
  { u with loop := u.loop.drop, idleLift := none, channel := u.channel.leave }

/-- A visit not yet FINAL becomes FINAL with outcome VOID (R62). -/
def Visit.voided (v : Visit) : Visit := if v.open then { v with state := .final, outcome := some .void } else v

/-- A flush ends a DRAINING job with reason FLUSH (R12, R165). -/
def flushJob (s : State) : State :=
  if s.job.state = .draining then
    let id := match s.job.active with | some p => p.id | none => 0
    raiseEvent .jobEnded 0 (EndReason.code .flush * 256 + id)
      { s with job := { s.job with state := .ended, endReason := some .flush } }
  else s

/-- Every present visit that is not FINAL becomes FINAL with outcome VOID; nothing is counted, traced or raised (R62). -/
def voidVisits (s : State) : State :=
  let void (v : Option Visit) : Option Visit := v.map Visit.voided
  { s with queue := s.queue.map fun r =>
      { r with visits := ⟨void r.visits.s1, void r.visits.s2, void r.visits.s3, void r.visits.s4⟩ } }

/-- The queue is emptied. No record of any plan remains, so the live counts are 0 and the draining plan is cleared
(R12, R158). -/
def emptyQueue (s : State) : State :=
  { s with queue := [], job := { s.job with activeLive := 0, draining := none, drainingLive := 0 } }

/-- The flush (R12), and the wake threshold set again when it comes in STANDBY (R149). -/
def flush (s : State) : State :=
  let removed := s.queue.length
  let s := emptyQueue (voidVisits s)
  let s := overStations allStations (fun st s => s.modStation st Station.flush) s
  let s := { s with m0 := s.m0.leave }
  let s := overLanes allLanes (fun l s => s.modLane l fun u => u.flush s.web) s
  let s := if s.job.state = .armed then enterSearch s else enterOff s
  let s := flushJob s
  let s := { s with ref := { s.ref with hw := s.web } }
  let s := { s with wake := s.wake.map fun _ => posShift s.ref.hw s.entry.wakeTravel }
  raiseEvent .queueFlushed 0 removed s

/-! ### The agreement check (R15, R16) -/

/-- Both sources are MOVING. -/
def Reference.bothMoving (r : Reference) : Bool := r.line.state == .moving && r.wheel.state == .moving

/-- A span opens when both sources are MOVING and none is open (R15). -/
def Reference.openSpan (r : Reference) : Reference :=
  match r.spanOrigin with
  | none => if r.bothMoving then { r with spanOrigin := some r.web, tally := 0 } else r
  | some _ => r

/-- An open span is abandoned, with its tally set to 0 (R16). -/
def Reference.abandonSpan (r : Reference) : Reference :=
  match r.spanOrigin with
  | some _ => { r with spanOrigin := none, tally := 0 }
  | none => r

/-- The measured deviation of a closing span: |d_o − d_s| × 1,000 (R15). -/
def Reference.deviation (r : Reference) : Nat :=
  (roundDiv r.tally.toInt 65536 - (Config.spanTicks : Int)).natAbs * 1000

/-- A span closes when the web has gone 100,000 ticks from its origin: the comparison is made, SOURCE_DISAGREE may be
raised, and a new span opens at the same count (R15). -/
def closeSpan (s : State) : State :=
  match s.ref.spanOrigin with
  | none => s
  | some origin =>
    if (Config.spanTicks : Int) ≤ sdiff s.web origin then
      let dev := s.ref.deviation
      let t := { s with ref := { s.ref with spanOrigin := some s.web, tally := 0 } }
      if s.ref.tolerance * Config.spanTicks < dev then
        raiseEvent .sourceDisagree 0 (sat16 (dev / Config.spanTicks)) t
      else t
    else s

/-! ### Source states (R3, R7) -/

/-- A source is in FAULT: its motion timer is stopped, an open span is abandoned; a fault of the selected source adds
REFERENCE and flushes; SOURCE_FAULT is raised last (R3, R7, R16, R198). -/
def sourceFaults (x : Source) (s : State) : State :=
  let s := { s with ref := (s.ref.withSource x { s.ref.source x with state := .fault, motion := none }).abandonSpan }
  let s := if s.ref.selected = x then flush (addReference s) else s
  raiseEvent .sourceFault 0 x.code s

/-- The fault input of a source is asserted (R3). -/
def sourceFaultAsserted (x : Source) (s : State) : State :=
  let s := { s with ref := s.ref.withSource x { s.ref.source x with faultIn := true } }
  match (s.ref.source x).state with
  | .still | .moving => sourceFaults x s
  | _ => s

/-- The fault input of a source clears (R3). -/
def sourceFaultClears (x : Source) (s : State) : State :=
  let u : SourceUnit := { s.ref.source x with faultIn := false }
  let u : SourceUnit := if u.state = .fault then { u with state := .still } else u
  { s with ref := s.ref.withSource x u }

/-- The motion timer of a source expires: MOVING becomes STILL, and an open span is abandoned (R3, R16). -/
def motionExpired (x : Source) (s : State) : State :=
  let u := s.ref.source x
  if u.state = .moving then
    { s with ref := (s.ref.withSource x { u with state := .still, motion := none }).abandonSpan }
  else s

/-! ### The reverse limit (R11) -/

/-- How far the web lies behind HW. -/
def Reference.lag (r : Reference) : Int := sdiff r.hw r.web

/-- The actions of a reverse past the limit: REFERENCE, REVERSE_LIMIT, the flush (R11, R198). -/
def reversePastLimit (s : State) : State :=
  flush (raiseEvent .reverseLimit 0 (sat16 s.ref.lag.toNat) (addReference s))

/-- The test of R11. -/
def reverseTest (s : State) : State :=
  if (s.ref.reverseLimit : Int) < s.ref.lag then reversePastLimit s else s

/-! ### Counts (R4, R5, R8) -/

/-- The count a change of a quadrature pair makes: forward (true), reverse (false), or none when both signals or
neither changed. The forward order is low low, high low, high high, low high (R4). -/
def decodePair (a b a' b' : Bool) : Option Bool :=
  match a != a', b != b' with
  | true, false => some (a' != b)
  | false, true => some (b' == a)
  | _, _ => none

/-- HW follows the web counter when it lies after HW (R8). -/
def Reference.advance (r : Reference) : Reference := if 0 < sdiff r.web r.hw then { r with hw := r.web } else r

/-- The accumulator after one count of scale `k` (R5). -/
def Reference.addCount (r : Reference) (forward : Bool) (k : Nat) : Reference :=
  { r with acc := if forward then r.acc + BitVec.ofNat 48 k else r.acc - BitVec.ofNat 48 k }

/-- A count of the selected source moves the accumulator (R5) and HW (R8); a reverse count takes the reverse limit
(R11). -/
def moveWeb (forward : Bool) (k : Nat) (s : State) : State :=
  let s := { s with ref := (s.ref.addCount forward k).advance }
  if forward then s else reverseTest s

/-- A count of the unselected source moves its shadow tally while a span is open (R4, R15). -/
def moveTally (forward : Bool) (k : Nat) (r : Reference) : Reference :=
  match r.spanOrigin with
  | none => r
  | some _ =>
    let d := BitVec.ofNat 48 k
    { r with tally := if forward then r.tally + d else r.tally - d }

/-- A count drives its source's state: MOVING, with the motion timer started anew (R3). -/
def SourceUnit.counted (u : SourceUnit) : SourceUnit := { u with state := .moving, motion := some Config.motionMs }

/-- A count of a source in STILL or MOVING is taken (R4): it moves the web or the tally, then the source's state,
and a span opens when both sources are MOVING (log 7). -/
def countTaken (x : Source) (forward : Bool) (s : State) : State :=
  let k := (s.ref.source x).k
  let s := if s.ref.selected = x then closeSpan (moveWeb forward k s)
    else { s with ref := moveTally forward k s.ref }
  { s with ref := (s.ref.withSource x (s.ref.source x).counted).openSpan }

/-- A source's pair takes new levels (R3, R4); counts of a source in OFF or FAULT are ignored. -/
def pairChanges (x : Source) (a b : Bool) (s : State) : State :=
  let u := s.ref.source x
  let s := { s with ref := s.ref.withSource x { u with pairA := a, pairB := b } }
  match u.state, decodePair u.pairA u.pairB a b with
  | .still, some fwd => countTaken x fwd s
  | .moving, some fwd => countTaken x fwd s
  | _, _ => s

/-! ### Speed (R13) -/

/-- The speed sample timer expires: the difference is taken from the web counter of the previous expiry (R13). After a
fault of the selected source R7 says that the next sample reads 0; where the web moved earlier in the same 10 ms, the
model's first sample still reads that movement (log 23). -/
def speedSample (s : State) : State :=
  let d := sdiff s.web s.ref.sampleBase
  { s with ref := { s.ref with speed := min Config.max16 d.toNat, sampleBase := s.web,
                               sampleTimer := Config.sampleMs } }

end Sys2Proof.Machine
end

