-- ==== Sys2Proof/Machine/Register.lean ====
section
/-! DEFINITION. Register correction (chapter 4): the trim's saturation (R67, R82), pairing (R70, R71), the
correction (R76 to R81), the endings NO_GATE and orphan (R72, R73) and die gates (R68). -/

namespace Sys2Proof.Machine

/-! ### The trim (R67, R82) -/

/-- A loop's new trim, clamped to the trim limit (R67). -/
def Tuning.saturate (t : Tuning) (trim : Int) : Int := clampInt (-t.trimLimit) t.trimLimit trim

/-- TRIM_SAT is set and TRIM_SATURATED raised with the source of the change (R82). -/
def trimSaturated (st : StationId) (source : Nat) (s : State) : State :=
  raiseEvent .trimSaturated st.number source
    (s.modStation st fun u => { u with loop := { u.loop with trimSat := true } })

/-- A request sets the trim through the saturation rule and reloads the settle counter (R67, R85, R86). -/
def setTrimTo (st : StationId) (trim : Int) (source : Nat) (s : State) : State :=
  let t := (s.station st).loop.tuning
  let trim' := t.saturate trim
  let s := s.modStation st fun u => { u with loop := { u.loop with trim := trim', settleCtr := t.settle } }
  if trim' = trim then s else trimSaturated st source s

/-! ### The correction (R76 to R81) -/

/-- The register error of a mark and a gate (R70, R76). -/
def registerError (t : Tuning) (mark gate : Pos) : Int := sdiff mark gate - t.target

/-- A mark and a gate lie within capture of each other (R70). -/
def withinCapture (t : Tuning) (mark gate : Pos) : Bool :=
  decide ((registerError t mark gate).natAbs ≤ t.capture)

/-- The raw step of an error: e × g / 16, rounded to nearest, ties away from zero (R79). -/
def rawStep (gain : Nat) (e : Int) : Int :=
  let m : Int := ((e.natAbs * gain + 8) / 16 : Nat)
  if e < 0 then -m else m

/-- How a correction ends: the flags of the visit, the trim and the settle counter after it, and whether the
saturation rule changed the new trim (R76 to R80). -/
structure CorrectionEnd where
  flags : RegFlags
  trim : Int
  settleCtr : Nat
  saturated : Bool
  deriving DecidableEq, Repr

/-- The correction of an error by a loop, for a visit with the flags given; `slotsAgree` is the slot check (R76 to
R80). -/
def RegLoop.correct (l : RegLoop) (flags : RegFlags) (slotsAgree : Bool) (e : Int) : CorrectionEnd :=
  let same : CorrectionEnd := { flags, trim := l.trim, settleCtr := l.settleCtr, saturated := false }
  if !slotsAgree then { same with flags := { flags with slotMismatch := true } }
  else if 0 < l.settleCtr then { same with flags := { flags with settle := true }, settleCtr := l.settleCtr - 1 }
  else if l.tuning.mode = .measure then same
  else if e.natAbs ≤ l.tuning.deadBand then { same with flags := { flags with deadband := true } }
  else
    let raw := rawStep l.tuning.gain e
    let step := clampInt (-l.tuning.stepMax) l.tuning.stepMax raw
    let flags := if step = raw then flags else { flags with stepClamped := true }
    let trim := l.tuning.saturate (l.trim + step)
    let saturated := decide (trim ≠ l.trim + step)
    { flags := if saturated then { flags with saturated := true } else flags
      trim
      settleCtr := if trim = l.trim then l.settleCtr else l.tuning.settle
      saturated }

/-- The loop's statistics and last error after a pair, with its new trim and settle counter (R80, R81, R87). -/
def RegLoop.paired (l : RegLoop) (c : CorrectionEnd) (e : Int) : RegLoop :=
  { l with trim := c.trim, settleCtr := c.settleCtr,
           pairs := bump32 l.pairs,
           corrections := if c.trim = l.trim then l.corrections else bump32 l.corrections,
           last := some e,
           largest := max l.largest e.natAbs }

/-- The register flags of the visit of a live record; empty when the record has retired (R61). -/
def State.visitFlags (s : State) (seq : BitVec 16) (st : StationId) : RegFlags :=
  match (s.record? seq).bind fun r => r.visit st with
  | some v => v.regFlags
  | none => RegFlags.empty

/-- A mark and a gate of a station pair and are corrected, in the order of R81 (R76 to R81). -/
def pairUp (st : StationId) (mark : Pos) (seq : BitVec 16) (slot : Nat) (gate : Pos) (gateSlot : Nat)
    (s : State) : State :=
  let l := (s.station st).loop
  let e := registerError l.tuning mark gate
  let agree := slot == gateSlot
  let c := l.correct (s.visitFlags seq st) agree e
  let s := modVisit seq st (fun v => { v with error := some e, regFlags := c.flags }) s
  let s := s.modStation st fun u => { u with loop := u.loop.paired c e }
  let s := if agree then usableReading st s else unusableReading st s
  if !agree then raiseEvent .dieSlip st.number (256 + 8 * slot + gateSlot) s
  else if c.saturated then trimSaturated st 1 s
  else s

/-- A mark ends NO_GATE: the flag is written into its visit and the unusable run rises (R72, R61). -/
def endNoGate (st : StationId) (w : WaitingMark) (s : State) : State :=
  unusableReading st
    (modVisit w.seq st (fun v => { v with regFlags := { v.regFlags with noGate := true } }) s)

/-- The waiting mark leaves its place and ends NO_GATE (R72). -/
def waitingExpired (st : StationId) (w : WaitingMark) (s : State) : State :=
  endNoGate st w (s.modStation st fun u => { u with loop := { u.loop with waiting := none } })

/-- An orphan gate leaves the unpaired-gate place (R71 step 2, R73). -/
def orphanGate (st : StationId) (s : State) : State :=
  s.modStation st fun u => { u with loop := { u.loop with gate := none, orphans := bump16 u.loop.orphans } }

/-! ### Pairing (R70, R71) -/

/-- The mark replaces the waiting mark, if one is held, and waits; a threshold already reached expires it at once
(R70, steps 2 and 3). -/
def markWaits (st : StationId) (mark : Pos) (seq : BitVec 16) (slot : Nat) (s : State) : State :=
  let s := match (s.station st).loop.waiting with
    | some old => waitingExpired st old s
    | none => s
  let t := (s.station st).loop.tuning
  let w : WaitingMark := { pos := mark, seq, slot, expiry := posShift mark (t.capture - t.target) }
  let s := s.modStation st fun u => { u with loop := { u.loop with waiting := some w } }
  if reached s.ref.hw w.expiry then waitingExpired st w s else s

/-- The station matcher hands a mark to the register loop (R70). -/
def takeMark (st : StationId) (mark : Pos) (seq : BitVec 16) (slot : Nat) (s : State) : State :=
  let l := (s.station st).loop
  match l.gate with
  | some g =>
    if withinCapture l.tuning mark g.pos then
      pairUp st mark seq slot g.pos g.slot
        (s.modStation st fun u => { u with loop := { u.loop with gate := none } })
    else markWaits st mark seq slot s
  | none => markWaits st mark seq slot s

/-- The gate takes the unpaired-gate place; a gate held there is dropped as an orphan, and a threshold already
reached takes the new one out at once (R71, steps 2 and 3, R9, R73). -/
def gateWaits (st : StationId) (gate : Pos) (slot : Nat) (s : State) : State :=
  let s := match (s.station st).loop.gate with
    | some _ => orphanGate st s
    | none => s
  let t := (s.station st).loop.tuning
  let g : HeldGate := { pos := gate, slot, expiry := posShift gate (t.target + t.capture) }
  let s := s.modStation st fun u => { u with loop := { u.loop with gate := some g } }
  if reached s.ref.hw g.expiry then orphanGate st s else s

/-- A gate with a slot is taken (R71). -/
def takeGate (st : StationId) (gate : Pos) (slot : Nat) (s : State) : State :=
  let l := (s.station st).loop
  match l.waiting with
  | some w =>
    if withinCapture l.tuning w.pos gate then
      pairUp st w.pos w.seq w.slot gate slot
        (s.modStation st fun u => { u with loop := { u.loop with waiting := none } })
    else gateWaits st gate slot s
  | none => gateWaits st gate slot s

/-! ### Die gates (R68, R69) -/

/-- An edge is rewound and ignored: the rewound-edge count rises (R10). -/
def rewoundEdge (s : State) : State := { s with ref := { s.ref with rewound := bump16 s.ref.rewound } }

/-- The cursor one gate on, modulo the die slots (R68). -/
def Station.advance (u : Station) : Nat := (u.loop.cursor + 1) % u.setup.dieSlots

/-- A gate sets its slot and, when it has one, goes on to pairing (R68). -/
def gateTaken (st : StationId) (index : Bool) (s : State) : State :=
  let u := s.station st
  let next := u.advance
  let withCursor (c : Nat) (s : State) : State :=
    s.modStation st fun u => { u with loop := { u.loop with cursor := c, synced := u.loop.synced || index } }
  match index, u.loop.synced with
  | false, true => takeGate st s.web next (withCursor next s)
  | false, false => withCursor next s
  | true, false => takeGate st s.web 0 (withCursor 0 s)
  | true, true =>
    let s := withCursor 0 s
    let s := if next = 0 then s else raiseEvent .dieSlip st.number next s
    takeGate st s.web 0 s

/-- A gate on a station's die gate input (R10, R68). -/
def dieGate (st : StationId) (index : Bool) (s : State) : State :=
  if s.behind then rewoundEdge s
  else if s.enabled st then gateTaken st index s
  else s

/-- WAITING_MARK_EXPIRY: HW has reached the waiting mark's expiry threshold (R72). -/
def waitingMarkExpiry (st : StationId) (s : State) : State :=
  match (s.station st).loop.waiting with
  | some w => if reached s.ref.hw w.expiry then waitingExpired st w s else s
  | none => s

/-- UNPAIRED_GATE_EXPIRY: HW has reached the unpaired gate's expiry threshold (R73). -/
def unpairedGateExpiry (st : StationId) (s : State) : State :=
  match (s.station st).loop.gate with
  | some g => if reached s.ref.hw g.expiry then orphanGate st s else s
  | none => s

/-- A station mark that matches a visit (R45). -/
def stationMatch (st : StationId) (mark : Pos) (r : LabelRecord) (s : State) : State :=
  let lead := (s.station st).setup.lead
  let s := modVisit r.seq st
    (fun v => { v with state := .seen, markPos := some mark, strikePt := some (posShift mark lead) }) s
  let s := strikeIfReached r.seq st (decideVisit r.seq st (learnDrift r st mark s))
  takeMark st mark r.seq r.slot s

/-- A qualified mark is delivered to an enabled station's matcher (R45, R46). -/
def stationMark (st : StationId) (mark : Pos) (s : State) : State :=
  let stray := s.modStation st fun u => { u with channel := { u.channel with stray := bump16 u.channel.stray } }
  match s.oldestWaiting st with
  | some (r, v) => if v.contains mark then stationMatch st mark r s else stray
  | none => stray

end Sys2Proof.Machine
end

