-- ==== Sys2Proof/Machine/Heat.lean ====
section
/-! DEFINITION. Heat zones (R138 to R145), the press mode and STANDBY (R146 to R150). -/

namespace Sys2Proof.Machine

/-! ### Zones and the cause THERMAL (R95) -/

/-- The zone holds its station through THERMAL: it is enabled and neither READY nor in FAULT (R95). -/
def HeatZone.holds (z : HeatZone) : Bool := z.enabled && z.state != .ready && z.state != .fault

/-- A station's zone changes, and THERMAL is added or removed as its condition then stands (R95). -/
def setZone (st : StationId) (z : HeatZone) (s : State) : State :=
  let s := s.modStation st fun u => { u with zone := z }
  if z.holds then addSoft .thermal st s else dropCause .thermal st s

/-- A zone enters FAULT with the cause given (R141). -/
def zoneFaults (st : StationId) (cause : Nat) (s : State) : State :=
  let z := (s.station st).zone
  let s := s.modStation st fun u => { u with zone := { z with heater := false, soakTimer := none, state := .fault } }
  let s := raiseEvent .heatFault st.number cause s
  addHard .heatFault st (dropCause .thermal st s)

/-- HEATING, with the soak timer stopped (R148 step 5, R150 step 3). -/
def HeatZone.reheat (z : HeatZone) : HeatZone := { z with state := .heating, soakTimer := none }

/-- An enabled zone not in FAULT enters HEATING (R148 step 5, R150 step 3). -/
def reheatZone (st : StationId) (s : State) : State :=
  let z := (s.station st).zone
  if z.enabled && z.state != .fault then setZone st z.reheat s else s

/-- The zone's working target: the standby SP in STANDBY, SP otherwise (R139). -/
def HeatZone.target (z : HeatZone) (mode : PressMode) : Int :=
  match mode with
  | .standby => z.set.standbySp
  | _ => z.set.sp

/-- The hysteresis rule (R139). -/
def HeatZone.regulate (z : HeatZone) (mode : PressMode) (x : Int) : HeatZone :=
  let t := z.target mode
  if x < t - z.set.hysteresis then { z with heater := true }
  else if t ≤ x then { z with heater := false }
  else z

/-- The sample is in band of SP (R140). -/
def HeatZone.inBand (z : HeatZone) (x : Int) : Bool := decide ((x - z.set.sp).natAbs ≤ z.set.band)

/-- HEAT_READY, with the latest sample saturated to 0 to 65,535 (R140). -/
def heatReady (st : StationId) (s : State) : State :=
  raiseEvent .heatReady st.number (sat16 (s.station st).zone.latest.toNat) s

/-- The band test by the zone's state (R140). -/
def bandTest (st : StationId) (z : HeatZone) (x : Int) (s : State) : State :=
  match z.state, z.inBand x with
  | .heating, true =>
    if z.set.soak = 0 then heatReady st (setZone st { z with state := .ready } s)
    else setZone st { z with state := .soaking, soakTimer := some (z.set.soak * 1000) } s
  | .soaking, false => setZone st z.reheat s
  | .ready, false => setZone st { z with state := .drift } s
  | .drift, true => setZone st { z with state := .ready } s
  | _, _ => setZone st z s

/-- A temperature sample arrives at a zone (R138 to R141). -/
def temperatureSample (st : StationId) (x : Int) (s : State) : State :=
  let z : HeatZone := { (s.station st).zone with latest := x }
  let s := s.modStation st fun u => { u with zone := z }
  if !z.enabled || z.state == .off || z.state == .fault then s
  else if (z.set.sp : Int) + z.set.margin < x then zoneFaults st 1 s
  else
    let z := z.regulate s.mode x
    match s.mode with
    | .standby => s.modStation st fun u => { u with zone := z }
    | _ => bandTest st z x s

/-- A zone's sensor fault input takes a level; becoming active it faults an enabled zone not in FAULT (R141). -/
def sensorFault (st : StationId) (level : Bool) (s : State) : State :=
  let z := (s.station st).zone
  let s := s.modStation st fun u => { u with zone := { z with faultIn := level } }
  if level && !z.faultIn && z.enabled && z.state != .fault then zoneFaults st 2 s else s

/-- The soak timer expires in SOAKING (R140). -/
def soakExpired (st : StationId) (s : State) : State :=
  let z := (s.station st).zone
  if z.state = .soaking then heatReady st (setZone st { z with state := .ready, soakTimer := none } s) else s

/-! ### The press mode (R147 to R150) -/

/-- The IDLE cause at every enabled station (R95, R146). -/
def addIdle (s : State) : State := overStations allStations (addSoft .idle) s

/-- The IDLE cause leaves every station (R95, R146). -/
def dropIdle (s : State) : State := overStations allStations (dropCause .idle) s

/-- The press enters STANDBY (R148). -/
def enterStandby (s : State) : State :=
  let fromRun := s.mode == .run
  let s := { s with mode := .standby }
  let s := if fromRun then addIdle s else s
  let s := overStations allStations (fun st s => s.modStation st Station.lift) s
  let s := enterOff (flush s)
  let s := overStations allStations reheatZone s
  { s with wake := some (posShift s.ref.hw s.entry.wakeTravel) }

/-- The pending plan is READY (R158). -/
def State.planReady (s : State) : Bool :=
  match s.job.buffer with
  | .ready _ => true
  | _ => false

/-- The press leaves STANDBY for RUN or IDLE, with the cause given, 1 LINK or 2 MOTION (R150). -/
def leaveStandby (mode : PressMode) (cause : Nat) (s : State) : State :=
  let s := { s with mode, wake := none }
  let s := if mode = .run then dropIdle s else s
  let s := overStations allStations reheatZone s
  let s := if s.job.state = .armed ∨ s.planReady then enterSearch s else s
  raiseEvent .woke 0 cause s

/-- WAKE_THRESHOLD: HW has reached the wake threshold, and the press wakes to IDLE (R149). -/
def wakeThreshold (s : State) : State :=
  match s.wake with
  | some p => if s.mode = .standby ∧ reached s.ref.hw p then leaveStandby .idle 2 s else s
  | none => s

/-- An accepted SET MODE, by the mode before and the mode asked for (R147). -/
def changeMode (mode : PressMode) (s : State) : State :=
  match s.mode, mode with
  | .run, .idle => addIdle { s with mode := .idle }
  | .idle, .run => dropIdle { s with mode := .run }
  | .run, .standby => enterStandby s
  | .idle, .standby => enterStandby s
  | .standby, .run => leaveStandby .run 1 s
  | .standby, .idle => leaveStandby .idle 1 s
  | _, _ => s

end Sys2Proof.Machine
end

