-- ==== Sys2Proof/Machine/Entry.lean ====
section
/-! DEFINITION. Mark channels (R20 to R23), splice zones (R24 to R26, R56), the entry tracker with admission,
changeover and batch counting (R28 to R36, R166). -/

namespace Sys2Proof.Machine

/-! ### Splice zones (R24 to R26, R56) -/

/-- A record overlaps a zone (R26). -/
def SpliceZone.overlaps (z : SpliceZone) (entryPos : Pos) (pitch : Nat) : Bool :=
  decide (sdiff z.first (posShift entryPos pitch) < 0) && decide (0 ≤ sdiff z.last entryPos)

/-- The zone of a splice edge taken at `p` (R24). -/
def EntrySettings.zoneAt (e : EntrySettings) (p : Pos) : SpliceZone :=
  { first := posShift p ((e.spliceOffset : Int) - e.guard), last := posShift p ((e.spliceOffset : Int) + e.guard) }

/-- A zone joins the list at its end, the oldest leaving a full list first (R24). -/
def joinZones (zs : List SpliceZone) (z : SpliceZone) : List SpliceZone :=
  (if zs.length < Config.zoneCapacity then zs else zs.drop 1) ++ [z]

/-- A live record gains the SPLICE flag: its undelivered STRIKE visits are converted, in station order (R26, R56). -/
def flagSplice (r : LabelRecord) (s : State) : State :=
  let s := { s with queue := modRecord r.seq (fun r => { r with splice := true }) s.queue }
  overStations allStations
    (fun st s =>
      match r.visit st with
      | some v => if v.undelivered then convertVisit r.seq st .splice v.feeds s else s
      | none => s) s

/-- An edge of the splice input: rewound it is counted (R10); its leading edge makes a zone, against which every live
record not yet flagged is tested (R24, R26). The records hit are flagged, and their visits converted, one record after
the other in queue order, the head first: the model's choice (log 24); R56 gives the station order within a record. -/
def spliceEdge (leading : Bool) (s : State) : State :=
  if s.behind then rewoundEdge s
  else if leading then
    let z := s.entry.zoneAt s.web
    let hit := s.queue.filter fun r => !r.splice && z.overlaps r.entryPos r.pitch
    hit.foldl (fun s r => flagSplice r s) { s with zones := joinZones s.zones z }
  else s

/-- A zone's removal threshold (R25). -/
def SpliceZone.removal (z : SpliceZone) : Pos := posShift z.last Config.zoneTail

/-- Of two zones, the one whose removal threshold comes first (R9). DESIGN CHOICE: on a tie the older, listed first;
R9 leaves the order to the chapter, and chapter 2 gives none (log 26). -/
def earlierZone (a : SpliceZone) (b : Option SpliceZone) : Option SpliceZone :=
  match b with
  | none => some a
  | some b => if sdiff b.removal a.removal < 0 then some b else some a

/-- SPLICE_ZONE_REMOVAL: the zone whose removal threshold is the first that HW has reached leaves the list (R9, R25);
of two at the same position the older (DESIGN CHOICE, log 26). -/
def spliceZoneRemoval (s : State) : State :=
  match (s.zones.filter fun z => reached s.ref.hw z.removal).foldr earlierZone none with
  | some z => { s with zones := s.zones.erase z }
  | none => s

/-! ### The changeover (R34, R166) -/

/-- The pending plan becomes the active plan; the previous one drains while records of it are live (R166). -/
def JobStore.changeover (j : JobStore) (p : Plan) : JobStore :=
  let j := if 0 < j.activeLive then { j with draining := j.active, drainingLive := j.activeLive } else j
  { j with active := some p, activeLive := 0, buffer := .empty, state := .armed, endReason := none, admitted := 0,
           target := p.target }

/-- A slot-0 admission while the pending plan is READY is a changeover (R29 step 2, R34). -/
def changeover (k : Nat) (s : State) : State :=
  match k, s.job.buffer with
  | 0, .ready p => raiseEvent .planChanged 0 p.id { s with job := s.job.changeover p }
  | _, _ => s

/-! ### The batch (R35, R36) -/

/-- The record being admitted carries EXCESS (R35). -/
def JobStore.excess (j : JobStore) : Bool := j.target != 0 && j.admitted == j.target

/-- The admitted count after a record (R35). -/
def JobStore.counted (j : JobStore) (splice : Bool) : Nat :=
  if j.excess || splice then j.admitted else bump32 j.admitted

/-- The batch stop test applies: an ARMED job whose count has reached its non-zero target, with no plan READY (R36,
R164). -/
def State.batchStops (s : State) : Bool :=
  s.job.state == .armed && s.job.excess && !s.planReady

/-- The batch stops the job: DRAINING with reason BATCH, the tracker in SEARCH, and the test of R165 (R36, R164). -/
def batchStop (s : State) : State :=
  drainedTest (enterSearch { s with job := { s.job with state := .draining, endReason := some .batch } })

/-- The batch stop test (R36). -/
def batchTest (s : State) : State := if s.batchStops then batchStop s else s

/-! ### Admission (R29, R40, R41) -/

/-- A visit as it is created for a record at a station (R41, R44). -/
def newVisit (u : Station) (entryPos : Pos) (cmax : Nat) : Option Visit :=
  if u.setup.enabled then
    let expected := posShift entryPos ((u.setup.path : Int) + u.drift)
    some { state := .waiting, expected, swin := u.setup.swin,
           expiry := posShift expected ((u.setup.swin : Int) + cmax), markPos := none, strikePt := none,
           decision := none, error := none, regFlags := RegFlags.empty, feeds := [], outcome := none }
  else none

/-- The record of an admission of slot `k` at `e` under a plan (R29 step 3, R40, R41). -/
def State.newRecord (s : State) (plan : Plan) (k : Nat) (slot : PlanSlot) (e : Pos) (o : Origin)
    (cycleMark : Bool) : LabelRecord :=
  { seq := s.tracker.seqCounter, plan := plan.id, slot := k, motif := slot.motif, pitch := slot.pitch,
    entryPos := e, origin := o, splice := s.zones.any fun z => z.overlaps e slot.pitch, excess := s.job.excess,
    cycleMark,
    visits := ⟨newVisit s.stations.s1 e s.entry.cmax, newVisit s.stations.s2 e s.entry.cmax,
               newVisit s.stations.s3 e s.entry.cmax, newVisit s.stations.s4 e s.entry.cmax⟩ }

/-- Windows of a record just joined that are already reached expire at once, in web order (R9, R44): at most `fuel`
of them. -/
def expireReached (seq : BitVec 16) : Nat → State → State
  | 0, s => s
  | fuel + 1, s =>
    let windows := (queueThresholds (s.queue.filter fun r => r.seq == seq)).filter fun t => t.kind == .window
    match nextDue s.ref.hw windows with
    | some t => expireReached seq fuel (windowExpired seq t.station s)
    | none => s

/-- The record joins the tail of the queue: its plan's live count rises, windows already reached expire, and a record
with no present visit retires from an empty queue (R29 step 5, R41, R43, R44, R158). -/
def joinQueue (r : LabelRecord) (s : State) : State :=
  retire (expireReached r.seq 4
    { s with queue := s.queue ++ [r], job := { s.job with activeLive := s.job.activeLive + 1 } })

/-- The entry window about a next expected position (R29 step 6). -/
def EntrySettings.windowAt (e : EntrySettings) (p : Pos) : EntryWindow :=
  { expected := p, first := posShift p (-(e.ewin : Int)), last := posShift p e.ewin,
    expiry := posShift p ((e.ewin : Int) + e.cmax) }

/-- What brings an admission: a mark in SEARCH, a mark in the entry window, a CYCLE mark in the window of another
slot, or the window's expiry (R30, R31, R33). -/
inductive AdmitCase where
  | lock
  | inWindow
  | slip (expectedSlot : Nat)
  | predicted
  deriving DecidableEq, Repr

/-- The origin of the record an admission creates (R30, R31, R33). -/
def AdmitCase.origin : AdmitCase → Origin
  | .predicted => .predicted
  | _ => .detected

/-- What a successful admission does to the tracker besides step 6: locking, the miss run, and the events
ENTRY_LOCKED and SLOT_SLIP (R30, R31, R33; log 8, 9). -/
def afterTracking (c : AdmitCase) (planId : Nat) (s : State) : State :=
  match c with
  | .lock =>
    raiseEvent .entryLocked 0 planId { s with tracker := { s.tracker with state := .locked, missRun := 0 } }
  | .inWindow => { s with tracker := { s.tracker with missRun := 0 } }
  | .slip k => raiseEvent .slotSlip 0 k { s with tracker := { s.tracker with missRun := 0 } }
  | .predicted => s

/-- Steps 3 to 7 of an admission of slot `k` at `e`, under the active plan (R29). -/
def admitUnder (plan : Plan) (slot : PlanSlot) (k : Nat) (e : Pos) (c : AdmitCase) (cycleMark : Bool)
    (s : State) : State :=
  let r := s.newRecord plan k slot e c.origin cycleMark
  let s := { s with tracker := { s.tracker with seqCounter := s.tracker.seqCounter + 1 },
                    job := { s.job with admitted := s.job.counted r.splice } }
  let s := joinQueue r s
  let s := { s with tracker := { s.tracker with cursor := (k + 1) % plan.slots.length,
                                                window := some (s.entry.windowAt (posShift e slot.pitch)) } }
  batchTest (afterTracking c plan.id s)

/-- An admission of a record for slot `k` at entry position `e` (R29). -/
def admitLabel (k : Nat) (e : Pos) (c : AdmitCase) (cycleMark : Bool) (s : State) : State :=
  if Config.queueCapacity ≤ s.queue.length then enterSearch (raiseEvent .queueOverflow 0 k s)
  else
    let s := changeover k s
    match s.job.active with
    | none => s
    | some plan =>
      match plan.slots[k]? with
      | none => s
      | some slot => admitUnder plan slot k e c cycleMark s

/-! ### Marks at the entry (R30 to R33) -/

/-- The sync mode marks are judged under in SEARCH, absent when they are ignored (R30). -/
def State.searchSync (s : State) : Option Sync :=
  match s.job.buffer with
  | .ready p => some p.sync
  | _ => if s.job.state = .armed then s.job.active.map Plan.sync else none

/-- A qualified M0 mark in SEARCH (R30). -/
def searchMark (p : Pos) (c : MarkClass) (s : State) : State :=
  match s.searchSync, c with
  | none, _ => s
  | some .cycle, .normal => s
  | some _, c => admitLabel 0 p .lock (c == .cycle) s

/-- A position lies in the entry window, both ends included (R29 step 6, R31). -/
def EntryWindow.contains (w : EntryWindow) (p : Pos) : Bool :=
  decide (0 ≤ sdiff p w.first) && decide (0 ≤ sdiff w.last p)

/-- M0's stray count rises (R32). -/
def entryStray (s : State) : State := { s with m0 := { s.m0 with stray := bump16 s.m0.stray } }

/-- A qualified M0 mark in LOCKED (R31, R32). -/
def lockedMark (p : Pos) (c : MarkClass) (s : State) : State :=
  match s.tracker.window with
  | none => entryStray s
  | some w =>
    if w.contains p then
      match s.tracker.cursor, c with
      | 0, c => admitLabel 0 p .inWindow (c == .cycle) s
      | k + 1, .normal => admitLabel (k + 1) p .inWindow false s
      | k + 1, .cycle => admitLabel 0 p (.slip (k + 1)) true s
    else entryStray s

/-- A qualified M0 mark is delivered to the tracker (R23, R28, R36). -/
def entryMark (p : Pos) (c : MarkClass) (s : State) : State :=
  match s.tracker.state with
  | .off => s
  | .search => if s.batchStops then batchStop s else searchMark p c s
  | .locked => if s.batchStops then batchStop s else lockedMark p c s

/-- The entry window's expiry threshold is taken: the miss run rises at every expiry, and at its limit the tracker
searches with ENTRY_LOST; the batch stop test is made at the expiry, and where it applies nothing is admitted (R33,
R36; their order: log 10). -/
def entryExpired (w : EntryWindow) (s : State) : State :=
  let run := min 31 (s.tracker.missRun + 1)
  let cursor := s.tracker.cursor
  let s := { s with tracker := { s.tracker with missRun := run } }
  if run = s.entry.missLimit then batchTest (raiseEvent .entryLost 0 cursor (enterSearch s))
  else if s.batchStops then batchStop s
  else admitLabel cursor w.expected .predicted false s

/-- ENTRY_WINDOW_EXPIRY: HW has reached the entry window's expiry threshold (R33). -/
def entryWindowExpiry (s : State) : State :=
  match s.tracker.window with
  | some w => if s.tracker.state = .locked ∧ reached s.ref.hw w.expiry then entryExpired w s else s
  | none => s

/-! ### Mark channels (R20 to R23) -/

/-- The channel of a mark input. -/
def State.channel (s : State) : Channel → MarkChannel
  | .m0 => s.m0
  | .station st => (s.station st).channel

/-- The state with one channel replaced. -/
def State.setChannel (s : State) (ch : Channel) (c : MarkChannel) : State :=
  match ch with
  | .m0 => { s with m0 := c }
  | .station st => s.modStation st fun u => { u with channel := c }

/-- A mark is rejected: the count rises (R20 to R22). -/
def MarkChannel.reject (c : MarkChannel) : MarkChannel := { c with rejected := bump16 c.rejected }

/-- A leading edge at `p` enters IN_MARK, rejecting a mark left open (R20, R22). -/
def MarkChannel.leading (c : MarkChannel) (cmax : Nat) (p : Pos) : MarkChannel :=
  let c := match c.state with
    | .inMark _ _ => c.reject
    | _ => c
  { c with state := .inMark p (posShift p (cmax + 1)) }

/-- A leading edge on a mark channel (R10, R20). -/
def markLeadingEdge (ch : Channel) (s : State) : State :=
  if s.behind then rewoundEdge s
  else s.setChannel ch ((s.channel ch).leading s.entry.cmax s.web)

/-- The class of a mark of width `w`, absent when it is rejected (R21). -/
def EntrySettings.classify (e : EntrySettings) (w : Int) : Option MarkClass :=
  if (e.nmin : Int) ≤ w ∧ w ≤ e.nmax then some .normal
  else if (e.cmin : Int) ≤ w ∧ w ≤ e.cmax then some .cycle
  else none

/-- A qualified mark is handed on (R23). -/
def qualified (ch : Channel) (p : Pos) (c : MarkClass) (s : State) : State :=
  match ch with
  | .m0 => entryMark p c s
  | .station st => if s.enabled st then stationMark st p s else s

/-- A trailing edge on a mark channel (R10, R20, R21). -/
def markTrailingEdge (ch : Channel) (s : State) : State :=
  if s.behind then rewoundEdge s
  else
    let c := s.channel ch
    match c.state with
    | .out => s
    | .overwide => s.setChannel ch c.leave
    | .inMark lead _ =>
      match s.entry.classify (sdiff s.web lead) with
      | none => s.setChannel ch c.leave.reject
      | some k => qualified ch lead k (s.setChannel ch c.leave)

/-- OVERWIDTH_THRESHOLD: HW has reached an open mark's over-width threshold (R22). -/
def overwidthThreshold (ch : Channel) (s : State) : State :=
  let c := s.channel ch
  match c.state with
  | .inMark _ threshold =>
    if reached s.ref.hw threshold then s.setChannel ch { c.reject with state := .overwide } else s
  | _ => s

end Sys2Proof.Machine
end

