-- ==== Sys2Proof/Machine/StationRequests.lean ====
section
/-! DEFINITION. The requests of the reference unit, the entry, the stations, the register loops and the heat zones:
SET SOURCE, SETUP ENTRY, SETUP STATION, TUNE REGISTER, SET TRIM, NUDGE TRIM, SETUP HEAT, PAUSE, RESUME, CLEAR FAULT,
READ STATION and SET MODE. Each meaning takes the payload, whose length has passed the test of R191, and answers the
reply's payload and the state after the request. -/

namespace Sys2Proof.Machine

/-- What a request answers: the payload of its reply, and the state after it. -/
abbrev Answer := List Octet × State

/-- A refused request changes no state; its reply carries the status alone (R178, R193). -/
def refuse (st : Status) (s : State) : Answer := ([statusCode st], s)

/-- An accepted request: the reply carries the status and the fields given (R193). -/
def accept (st : Status) (body : List Octet) (s : State) : Answer := (statusCode st :: body, s)

/-! ### SET MODE (R147) -/

def reqSetMode (p : List Octet) (s : State) : Answer :=
  match modeOf (u8 p 0) with
  | none => refuse .badValue s
  | some m =>
    let s := changeMode m s
    accept .ok (octets 1 s.mode.code) s

/-! ### SET SOURCE (R17, R18) -/

/-- A source's enabled flag, its state and K, as the reply carries them (R18). -/
def sourceOctets (u : SourceUnit) : List Octet :=
  flagOctet (u.state != .off) ++ octets 1 u.state.code ++ octets 4 u.k

/-- The reply fields of SET SOURCE (section 10.4). -/
def sourceReply (s : State) : List Octet :=
  octets 1 s.ref.selected.code ++ sourceOctets s.ref.line ++ sourceOctets s.ref.wheel ++
  octets 2 s.ref.reverseLimit ++ octets 1 s.ref.tolerance

/-- ENABLE: from OFF the source enters STILL, or FAULT when its fault input is asserted (R3, R18). -/
def enableSource (x : Source) (s : State) : State :=
  let u := s.ref.source x
  if u.state = .off then
    if u.faultIn then sourceFaults x s
    else { s with ref := s.ref.withSource x { u with state := .still } }
  else s

/-- DISABLE of a source: OFF, its motion timer stopped, an open span abandoned (R3, R18). -/
def disableSource (x : Source) (s : State) : State :=
  let u := s.ref.source x
  if u.state = .off then s
  else { s with ref := (s.ref.withSource x { u with state := .off, motion := none }).abandonSpan }

/-- SELECT of the other source: the open span is abandoned and a new one opens at once when both sources are MOVING
(R6, R16). -/
def selectSource (x : Source) (s : State) : State :=
  if s.ref.selected = x then s
  else { s with ref := ({ s.ref with selected := x } : Reference).abandonSpan.openSpan }

/-- The action of SET SOURCE, by its code (R18, R192). -/
def sourceAction (action : Nat) (x : Source) (s : State) : State :=
  match action with
  | 1 => enableSource x s
  | 2 => disableSource x s
  | 3 => selectSource x s
  | _ => s

/-- A value given, clamped into its range, or the value in force when 0 is given (section 1.8, R18). -/
def givenOr (lo hi given inForce : Nat) : Nat := if given = 0 then inForce else clampNat lo hi given

/-- The values of an accepted SET SOURCE take their effect, the reverse limit with the test of R11 (R18). -/
def applySource (x : Source) (action scale limit tolerance : Nat) (s : State) : State :=
  let u := s.ref.source x
  let s := { s with ref := s.ref.withSource x { u with k := if scale = 0 then u.k else scale } }
  let s := sourceAction action x s
  let s := if limit = 0 then s
    else reverseTest { s with ref := { s.ref with reverseLimit := clampNat 100 50000 limit } }
  { s with ref := { s.ref with tolerance := givenOr 1 100 tolerance s.ref.tolerance } }

def reqSetSource (p : List Octet) (s : State) : Answer :=
  let action := u8 p 1
  let scale := u32 p 2
  let limit := u16 p 6
  let tolerance := u8 p 8
  match sourceOf (u8 p 0) with
  | none => refuse .badValue s
  | some x =>
    if 3 < action ∨ 1048575 < scale then refuse .badValue s
    else if (scale ≠ 0 ∨ limit ≠ 0 ∨ tolerance ≠ 0) ∧ s.job.state ≠ .none then refuse .busy s
    else if action = 2 ∧ x = s.ref.selected then refuse .inUse s
    else if action = 3 ∧ x ≠ s.ref.selected ∧ s.ref.bothMoving = false then refuse .notReady s
    else
      let clamped := (limit != 0 && limit != clampNat 100 50000 limit) ||
                     (tolerance != 0 && tolerance != clampNat 1 100 tolerance)
      let s := applySource x action scale limit tolerance s
      accept (okOr clamped) (sourceReply s) s

/-! ### SETUP ENTRY (R37, R38) -/

/-- The nine values of the reply (section 10.4). -/
def entryOctets (e : EntrySettings) : List Octet :=
  octets 2 e.nmin ++ octets 2 e.nmax ++ octets 2 e.cmin ++ octets 2 e.cmax ++ octets 2 e.ewin ++
  octets 1 e.missLimit ++ octets 4 e.spliceOffset ++ octets 2 e.guard ++ octets 4 e.wakeTravel

/-- The structural values of SETUP ENTRY are in range (R37). -/
def EntrySettings.valid (e : EntrySettings) : Bool :=
  let band (n : Nat) : Bool := decide (10 ≤ n) && decide (n ≤ 20000)
  band e.nmin && band e.nmax && band e.cmin && band e.cmax &&
  decide (e.nmin ≤ e.nmax) && decide (e.cmin ≤ e.cmax) && decide (e.nmax < e.cmin) &&
  decide (1 ≤ e.missLimit) && decide (e.missLimit ≤ 31) && decide (e.spliceOffset ≤ 200000)

/-- The tuning values of SETUP ENTRY clamped (R38). -/
def EntrySettings.clamped (e : EntrySettings) : EntrySettings :=
  { e with ewin := clampNat 50 30000 e.ewin, guard := clampNat 0 20000 e.guard,
           wakeTravel := clampNat 1000 100000 e.wakeTravel }

def reqSetupEntry (p : List Octet) (s : State) : Answer :=
  let e := entryFields p
  if s.job.state ≠ .none then refuse .busy s
  else if e.valid = false then refuse .badValue s
  else
    let c := e.clamped
    accept (okOr (c != e)) (entryOctets c)
      { s with entry := c, m0 := { s.m0 with rejected := 0, stray := 0 } }

/-! ### SETUP STATION (R91, R92, R97) -/

/-- The twelve values of a station's setup, as requests and replies carry them (section 10.4). -/
def setupOctets (st : StationId) (c : StationSetup) : List Octet :=
  octets 1 st.number ++ octets 1 c.kind.code ++ flagOctet c.enabled ++ octets 4 c.path ++ octets 4 c.lead ++
  octets 2 c.swin ++ octets 1 c.missLimit ++ flagOctet c.strikeOnPredicted ++ octets 1 c.dieSlots ++
  octets 2 c.engageMs ++ octets 2 c.actTimeout ++ octets 1 c.policy.code

/-- The geometry and counts of SETUP STATION are in range (R91). -/
def StationSetup.valid (c : StationSetup) : Bool :=
  decide (10000 ≤ c.path) && decide (c.path ≤ 2000000) && decide (5000 ≤ c.lead) && decide (c.lead ≤ 500000) &&
  decide (100 ≤ c.swin) && decide (c.swin ≤ 30000) && decide (1 ≤ c.missLimit) && decide (c.missLimit ≤ 31) &&
  decide (1 ≤ c.dieSlots) && decide (c.dieSlots ≤ 8)

/-- engage_ms and act_timeout clamped (R92). -/
def StationSetup.clamped (c : StationSetup) : StationSetup :=
  { c with engageMs := clampNat 5 500 c.engageMs, actTimeout := clampNat 10 2000 c.actTimeout }

/-- The gate cursor and synchronised flag after SETUP STATION (R69, R92). -/
def RegLoop.resync (l : RegLoop) (dieSlots : Nat) (changed : Bool) : RegLoop :=
  { l with cursor := if changed then 0 else l.cursor,
           synced := if dieSlots = 1 then true else if changed then false else l.synced }

/-- A station being disabled: its hold set emptied, its idle-lift point cancelled, a lift request made, its waiting
mark and unpaired gate dropped (R92, R75). -/
def Station.disable (u : Station) : Station :=
  let u := ({ u with hold := HoldSet.empty } : Station).cancelAndLift
  { u with loop := u.loop.drop }

/-- A cause whose condition holds at the enabling of a station (R97). -/
def State.conditionHolds (s : State) (st : StationId) : Cause → Bool
  | .reference => (s.ref.source s.ref.selected).state == .fault
  | .actuator => (s.station st).actuator == .jammed
  | .heatFault => (s.station st).zone.state == .fault
  | .foilDrive => (s.lanesOf st).any fun l => (s.lane l).state == .fault
  | .thermal => (s.station st).zone.holds
  | .foilOut => s.anyEmpty st
  | .idle => s.mode != .run
  | _ => false

/-- The hold set of a station being enabled is filled (R97). -/
def fillHold (st : StationId) (s : State) : State :=
  let hard (c : Cause) (s : State) : State := if s.conditionHolds st c then addHard c st s else s
  let soft (c : Cause) (s : State) : State := if s.conditionHolds st c then addSoft c st s else s
  soft .idle (soft .foilOut (soft .thermal (hard .foilDrive (hard .heatFault (hard .actuator
    (hard .reference s))))))

/-- An accepted SETUP STATION (R92). -/
def applySetup (st : StationId) (c : StationSetup) (s : State) : State :=
  let old := (s.station st).setup
  let enabling := !old.enabled && c.enabled
  let disabling := old.enabled && !c.enabled
  let s := s.modStation st fun u =>
    { u with setup := c, loop := u.loop.resync c.dieSlots (enabling || c.dieSlots != old.dieSlots) }
  if disabling then s.modStation st Station.disable
  else if enabling then fillHold st s
  else s

def reqSetupStation (p : List Octet) (s : State) : Answer :=
  match StationId.ofNumber (u8 p 0) with
  | none => refuse .badValue s
  | some st =>
    if s.job.state ≠ .none then refuse .busy s
    else
      match setupFields p with
      | none => refuse .badValue s
      | some c =>
        if c.valid = false then refuse .badValue s
        else if c.kind = .emboss ∧ s.lanesOf st ≠ [] then refuse .inUse s
        else
          let c' := c.clamped
          accept (okOr (c' != c)) (setupOctets st c') (applySetup st c' s)

/-! ### TUNE REGISTER, SET TRIM, NUDGE TRIM (R83 to R86) -/

/-- The tuning values of a loop, as requests and replies carry them (section 10.4). -/
def tuningOctets (t : Tuning) : List Octet :=
  signedOctets 4 t.target ++ octets 2 t.capture ++ octets 2 t.deadBand ++ octets 1 t.gain ++ octets 2 t.stepMax ++
  octets 4 t.trimLimit ++ octets 1 t.settle ++ octets 1 t.mode.code

/-- The tuning values clamped (R83). -/
def Tuning.clamped (t : Tuning) : Tuning :=
  { t with target := clampInt (-100000) 100000 t.target, capture := clampNat 100 50000 t.capture,
           deadBand := clampNat 0 500 t.deadBand, gain := clampNat 1 16 t.gain,
           stepMax := clampNat 1 5000 t.stepMax, trimLimit := clampNat 0 200000 t.trimLimit,
           settle := clampNat 0 7 t.settle }

/-- An accepted TUNE REGISTER: the values are taken, the settle counter lowered to the new setting, and a trim outside
the new limit re-saturated with detail 4 (R84, R67, R82). -/
def applyTuning (st : StationId) (t : Tuning) (s : State) : State :=
  let s := s.modStation st fun u =>
    { u with loop := { u.loop with tuning := t, settleCtr := min u.loop.settleCtr t.settle } }
  let trim := (s.station st).loop.trim
  if t.saturate trim = trim then s
  else setTrimTo st trim 4 s

/-- The trim in force and TRIM_SAT (R84 to R86). -/
def trimOctets (l : RegLoop) : List Octet := signedOctets 4 l.trim ++ flagOctet l.trimSat

def reqTuneRegister (p : List Octet) (s : State) : Answer :=
  match StationId.ofNumber (u8 p 0), tuningFields p with
  | some st, some t =>
    let t' := t.clamped
    let s := applyTuning st t' s
    accept (okOr (t' != t)) (octets 1 st.number ++ tuningOctets t' ++ trimOctets (s.station st).loop) s
  | _, _ => refuse .badValue s

def reqSetTrim (p : List Octet) (s : State) : Answer :=
  match StationId.ofNumber (u8 p 0) with
  | none => refuse .badValue s
  | some st =>
    let l := (s.station st).loop
    let trim := i32 p 1
    if l.tuning.mode = .auto then refuse .notReady s
    else
      let s := setTrimTo st trim 2 s
      accept (okOr (l.tuning.saturate trim != trim)) (trimOctets (s.station st).loop) s

def reqNudgeTrim (p : List Octet) (s : State) : Answer :=
  match StationId.ofNumber (u8 p 0) with
  | none => refuse .badValue s
  | some st =>
    let l := (s.station st).loop
    let trim := l.trim + i32 p 1
    let s := setTrimTo st trim 3 s
    accept (okOr (l.tuning.saturate trim != trim)) (trimOctets (s.station st).loop) s

/-! ### SETUP HEAT (R144, R145) -/

/-- The six heat settings, as requests and replies carry them (section 10.4). -/
def heatOctets (h : HeatSettings) : List Octet :=
  signedOctets 2 h.sp ++ signedOctets 2 h.standbySp ++ octets 2 h.band ++ octets 2 h.hysteresis ++
  octets 2 h.margin ++ octets 2 h.soak

/-- The settings of a SETUP HEAT payload, clamped, SP first and the standby SP to SP as clamped (R144). -/
def heatFields (p : List Octet) : HeatSettings :=
  let sp := clampNat 0 2500 (nonNegative (i16 p 2))
  { sp, standbySp := clampNat 0 sp (nonNegative (i16 p 4)), band := clampNat 5 200 (u16 p 6),
    hysteresis := clampNat 2 100 (u16 p 8), margin := clampNat 20 500 (u16 p 10), soak := clampNat 0 600 (u16 p 12) }

/-- Clamping changed a value of a SETUP HEAT payload (R144). -/
def heatClamped (p : List Octet) : Bool :=
  let h := heatFields p
  (h.sp : Int) != i16 p 2 || (h.standbySp : Int) != i16 p 4 || h.band != u16 p 6 || h.hysteresis != u16 p 8 ||
  h.margin != u16 p 10 || h.soak != u16 p 12

/-- An accepted SETUP HEAT, by the enabled flag before and after (R145). -/
def applyHeat (st : StationId) (enabled : Bool) (h : HeatSettings) (s : State) : State :=
  let z := (s.station st).zone
  match z.enabled, enabled with
  | false, true =>
    let z : HeatZone := { z with enabled := true, set := h, state := .heating, heater := false, soakTimer := none }
    if z.faultIn then zoneFaults st 2 (s.modStation st fun u => { u with zone := z }) else setZone st z s
  | true, false =>
    setZone st { z with enabled := false, set := h, state := .off, heater := false, soakTimer := none } s
  | _, _ => s.modStation st fun u => { u with zone := { z with set := h } }

def reqSetupHeat (p : List Octet) (s : State) : Answer :=
  match StationId.ofNumber (u8 p 0) with
  | none => refuse .badValue s
  | some st =>
    if 1 < u8 p 1 then refuse .badValue s
    else
      let s := applyHeat st (flagAt p 1) (heatFields p) s
      let z := (s.station st).zone
      accept (okOr (heatClamped p))
        (octets 1 st.number ++ flagOctet z.enabled ++ heatOctets z.set ++ octets 1 z.state.code ++
          signedOctets 2 z.latest ++ flagOctet z.heater) s

/-! ### PAUSE and RESUME (R98) -/

/-- The hold sets of stations 1 to 4 (R98). -/
def holdReply (s : State) : List Octet := allStations.flatMap fun st => octets 2 (s.station st).hold.bits

def reqPause (p : List Octet) (s : State) : Answer :=
  match stationsNamed (u8 p 0) with
  | none => refuse .badValue s
  | some sts =>
    if sts.any s.enabled then
      let s := overStations sts (addSoft .pause) s
      accept .ok (holdReply s) s
    else refuse .notReady s

def reqResume (p : List Octet) (s : State) : Answer :=
  match stationsNamed (u8 p 0) with
  | none => refuse .badValue s
  | some sts =>
    if u8 p 0 = 0 ∨ sts.any s.enabled then
      let s := overStations sts (dropCause .pause) s
      accept .ok (holdReply s) s
    else refuse .notReady s

/-! ### CLEAR FAULT (R99, R100, R134, R142) -/

/-- The condition of HEAT_FAULT has ended (R99). -/
def HeatZone.faultEnded (z : HeatZone) : Bool := decide (z.latest ≤ z.set.sp) && !z.faultIn

/-- The condition of a hard cause has ended, so that CLEAR FAULT can remove it (R99). -/
def State.removable (s : State) (st : StationId) : Cause → Bool
  | .reference => (s.ref.source s.ref.selected).state != .fault
  | .actuator => (s.station st).liftedIn
  | .heatFault => (s.station st).zone.faultEnded
  | .foilDrive => (s.lanesOf st).all fun l => !(s.lane l).faultIn
  | _ => false

/-- A zone in FAULT leaves it for HEATING, the heater off until its next sample (R139, R142). -/
def releaseZone (st : StationId) (s : State) : State :=
  let z := (s.station st).zone
  if z.state = .fault then setZone st { z with state := .heating, heater := false } s else s

/-- A lane in FAULT leaves it and becomes PARKED (R99, R134). -/
def releaseLane (l : LaneId) (s : State) : State :=
  s.modLane l fun u => if u.state = .fault then { u with state := .parked } else u

/-- The action CLEAR FAULT takes at the removal of a hard cause (R99). -/
def removalAction (c : Cause) (st : StationId) (s : State) : State :=
  match c with
  | .actuator => s.modStation st fun u => { u with actuator := .lifted, valve := .lift, stroke := none }
  | .heatFault => releaseZone st s
  | .foilDrive => overLanes (s.lanesOf st) releaseLane s
  | _ => s

/-- A hard cause present whose condition has ended is removed with its action (R99). -/
def clearCause (st : StationId) (c : Cause) (s : State) : State :=
  if (s.station st).hold.has c && s.removable st c then removalAction c st (dropCause c st s) else s

/-- A disabled station holds no cause; its faulted lanes whose inputs are inactive become PARKED, and its faulted zone
is released when its condition has ended (R134, R142; log 11). -/
def clearDisabled (st : StationId) (s : State) : State :=
  let s := overLanes ((s.lanesOf st).filter fun l => !(s.lane l).faultIn) releaseLane s
  if (s.station st).zone.faultEnded then releaseZone st s else s

/-- CLEAR FAULT at one named station (R99). -/
def clearStation (st : StationId) (s : State) : State :=
  let s := if s.enabled st then hardCauses.foldl (fun s c => clearCause st c s) s else clearDisabled st s
  s.modStation st fun u => { u with loop := { u.loop with trimSat := false } }

/-- A named enabled station holds a hard cause. -/
def State.holdsHard (s : State) (st : StationId) : Bool := s.enabled st && (s.station st).hold.anyHard

/-- Some hard cause of the station can be removed. -/
def State.anyRemovable (s : State) (st : StationId) : Bool :=
  s.enabled st && hardCauses.any fun c => (s.station st).hold.has c && s.removable st c

/-- The hold set and TRIM_SAT of each station (R100). -/
def faultReply (s : State) : List Octet :=
  allStations.flatMap fun st => octets 2 (s.station st).hold.bits ++ flagOctet (s.station st).loop.trimSat

def reqClearFault (p : List Octet) (s : State) : Answer :=
  match stationsNamed (u8 p 0) with
  | none => refuse .badValue s
  | some sts =>
    if sts.any s.holdsHard && !sts.any s.anyRemovable then accept .notReady (faultReply s) s
    else
      let s := overStations sts clearStation s
      accept .ok (faultReply s) s

/-! ### READ STATION (R88, R112, R152) -/

/-- A position, 0 when absent (section 10.4). -/
def posOctets : Option Pos → List Octet
  | some p => octets 4 p.toNat
  | none => octets 4 0

/-- The impression part of READ STATION, offsets 22 to 49 (R90, R112). -/
def stationReply (s : State) (st : StationId) : List Octet :=
  let u := s.station st
  octets 1 (s.stationState st).code ++ octets 2 u.hold.bits ++ octets 1 u.actuator.code ++ octets 1 u.valve.code ++
  flagOctet u.engagedIn ++ flagOctet u.liftedIn ++ flagOctet u.idleLift.isSome ++ posOctets u.idleLift ++
  octets 4 u.struck ++ octets 4 u.skipped ++ octets 4 u.missed ++ octets 4 u.marred

/-- The register part of READ STATION, offsets 50 to 113 (R88). -/
def registerReply (u : Station) : List Octet :=
  let l := u.loop
  tuningOctets l.tuning ++ trimOctets l ++ octets 1 l.settleCtr ++ octets 1 l.cursor ++ flagOctet l.synced ++
  flagOctet l.waiting.isSome ++ posOctets (l.waiting.map WaitingMark.pos) ++
  octets 2 (match l.waiting with | some w => w.seq.toNat | none => 0) ++
  flagOctet l.gate.isSome ++ posOctets (l.gate.map HeldGate.pos) ++
  octets 1 (match l.gate with | some g => g.slot | none => 0) ++
  signedOctets 4 u.drift ++ octets 1 u.unusable ++ octets 4 l.pairs ++ octets 4 l.corrections ++
  octets 2 l.largest ++ flagOctet l.last.isSome ++ signedOctets 4 (l.last.getD 0) ++ octets 2 l.orphans ++
  octets 2 u.channel.rejected ++ octets 2 u.channel.stray

/-- The heat part of READ STATION, offsets 114 to 135 (R152). -/
def zoneReply (z : HeatZone) : List Octet :=
  flagOctet z.enabled ++ heatOctets z.set ++ octets 1 z.state.code ++ signedOctets 2 z.latest ++
  flagOctet z.faultIn ++ flagOctet z.heater ++ octets 4 (z.soakTimer.getD 0)

/-- READ STATION's clear option (R88). -/
def Station.cleared (u : Station) : Station :=
  { u with
    loop := { u.loop with pairs := 0, corrections := 0, largest := 0, orphans := 0, last := none, trimSat := false }
    channel := { u.channel with rejected := 0, stray := 0 }
    struck := 0
    skipped := 0
    missed := 0
    marred := 0 }

def reqReadStation (p : List Octet) (s : State) : Answer :=
  match StationId.ofNumber (u8 p 0) with
  | none => refuse .badValue s
  | some st =>
    let u := s.station st
    accept .ok (setupOctets st u.setup ++ stationReply s st ++ registerReply u ++ zoneReply u.zone)
      (if flagAt p 1 then s.modStation st Station.cleared else s)

end Sys2Proof.Machine
end

