-- ==== Sys2Proof/Machine/LaneRequests.lean ====
section
/-! DEFINITION. The foil lanes' requests SETUP LANE, LOAD SPOOL and READ LANE (R116, R117, R132, R136), and the drive
fault input (R133). -/

namespace Sys2Proof.Machine

/-! ### A lane enters FAULT (R133) -/

/-- The lane enters FAULT: a full STOP, its pending feeds and its last feed gone (R133, step 1). -/
def Lane.fail (web : Pos) (l : Lane) : Lane := { l.stopAll web with state := .fault }

/-- FOIL_DRIVE_FAULT is raised for a lane of a station (R133, step 2). -/
def raiseDriveFault (l : LaneId) (st : StationId) (s : State) : State :=
  raiseEvent .foilDriveFault l.number st.number s

/-- A lane of a station faults (R133). -/
def laneFaults (l : LaneId) (st : StationId) (s : State) : State :=
  let wasEmpty := (s.lane l).state == .empty
  let s := raiseDriveFault l st (s.modLane l (Lane.fail s.web))
  let s := if wasEmpty then dropFoilOut st s else s
  addHard .foilDrive st s

/-- A lane's drive fault input takes a level; becoming active it faults a lane in PARKED, ACTIVE or EMPTY (R133). -/
def driveFault (l : LaneId) (level : Bool) (s : State) : State :=
  let lane := s.lane l
  let s := s.modLane l fun u => { u with faultIn := level }
  match level && !lane.faultIn, lane.station, lane.state with
  | true, some st, .parked => laneFaults l st s
  | true, some st, .active => laneFaults l st s
  | true, some st, .empty => laneFaults l st s
  | _, _, _ => s

/-! ### SETUP LANE (R116, R117) -/

/-- The lane's station field: 0 for none. -/
def stationCode : Option StationId → Nat
  | none => 0
  | some st => st.number

/-- The station a lane's station field names; absent when it names none of 0 to 4. -/
def laneStationOf : Nat → Option (Option StationId)
  | 0 => some none
  | n => (StationId.ofNumber n).map some

/-- The nine fields of SETUP LANE and the lane's state, as replies carry them (section 10.4). -/
def laneOctets (l : LaneId) (u : Lane) : List Octet :=
  octets 1 l.number ++ octets 1 (stationCode u.station) ++ octets 2 u.set.leadMargin ++ octets 2 u.set.tailMargin ++
  octets 4 u.set.jumpThreshold ++ octets 2 u.set.jumpMs ++ octets 1 u.set.parkAfter ++ octets 2 u.set.wakeMs ++
  octets 4 u.set.lowThreshold ++ octets 1 u.state.code

/-- The tuning values of a lane clamped (R117). -/
def LaneSettings.clamped (c : LaneSettings) : LaneSettings :=
  { c with leadMargin := clampNat 0 5000 c.leadMargin, tailMargin := clampNat 0 5000 c.tailMargin,
           jumpThreshold := clampNat 0 100000 c.jumpThreshold, jumpMs := clampNat 1 200 c.jumpMs,
           wakeMs := clampNat 1 1000 c.wakeMs, lowThreshold := clampNat 0 400000000 c.lowThreshold }

/-- park_after is one of its four values (R116). -/
def LaneSettings.parkValid (c : LaneSettings) : Bool :=
  c.parkAfter == 0 || c.parkAfter == 4 || c.parkAfter == 8 || c.parkAfter == 16

/-- The state a lane takes when its station changes (R117, step 3). -/
def Lane.stateAt (l : Lane) (target : Option StationId) : LaneState :=
  match target with
  | none => .unassigned
  | some _ =>
    if l.faultIn then .fault
    else if l.state = .empty ∨ l.remaining = 0 then .empty
    else .parked

/-- The lane's own part of a change of station (R117, steps 1 to 3). PARK is sent to a lane that was ACTIVE and to one
that enters EMPTY (R118), an EMPTY lane moved to another station among them (R131); one PARK where both hold (log 25). -/
def Lane.moveTo (web : Pos) (target : Option StationId) (l : Lane) : Lane :=
  let state := l.stateAt target
  let l := if l.state = .active ∨ state = .empty then l.park web else l
  let l := { l with lastFeed := none, idleRun := 0, station := target }
  match state with
  | .fault => l.fail web
  | state => { l with state }

/-- The cause a lane brings to its new station (R117, step 5; log 12). -/
def arrive (l : LaneId) (st : StationId) (s : State) : State :=
  match (s.lane l).state with
  | .empty => addSoft .foilOut st s
  | .fault => addHard .foilDrive st (raiseDriveFault l st s)
  | _ => s

/-- A change of the lane's station (R117). -/
def changeStation (l : LaneId) (target : Option StationId) (s : State) : State :=
  let old := (s.lane l).station
  let s := s.modLane l (Lane.moveTo s.web target)
  let s := match old with
    | some st => dropFoilOut st s
    | none => s
  match target with
  | some st => arrive l st s
  | none => s

/-- An accepted SETUP LANE (R117). -/
def applyLane (l : LaneId) (target : Option StationId) (c : LaneSettings) (s : State) : State :=
  let s := s.modLane l fun u => { u with set := c }
  if (s.lane l).station = target then s else changeStation l target s

/-- The refusals of SETUP LANE that concern the station named (R116). -/
def State.refusesLane (s : State) (l : LaneId) : Option StationId → Bool
  | none => false
  | some st =>
    (s.station st).setup.kind == .emboss || decide (3 ≤ ((s.lanesOf st).filter fun k => k != l).length)

def reqSetupLane (p : List Octet) (s : State) : Answer :=
  match LaneId.ofNumber (u8 p 0) with
  | none => refuse .badValue s
  | some l =>
    if s.job.state ≠ .none then refuse .busy s
    else
      match laneStationOf (u8 p 1) with
      | none => refuse .badValue s
      | some target =>
        let c := laneFields p
        if c.parkValid = false ∨ s.refusesLane l target = true then refuse .badValue s
        else
          let c' := c.clamped
          let s := applyLane l target c' s
          accept (okOr (c' != c)) (laneOctets l (s.lane l)) s

/-! ### LOAD SPOOL (R132) -/

/-- A lane's spool account as replies carry it (R136). -/
def spoolOctets (u : Lane) : List Octet :=
  octets 4 u.loaded ++ octets 4 u.used ++ octets 4 u.remaining ++ octets 4 u.saved

/-- The lane's own part of an accepted LOAD SPOOL (R132, steps 1 to 3). PARK is sent to a lane that was ACTIVE and to
one that a length of 0 takes into EMPTY (R118, R131); one PARK where both hold, and none to a lane that was EMPTY
already (log 25). -/
def Lane.load (web : Pos) (length : Nat) (l : Lane) : Lane :=
  let l := if l.state = .active ∨ (length = 0 ∧ l.state ≠ .empty) then l.park web else l
  { l with loaded := length, used := 0, saved := 0, lowWarned := false,
           state := if 0 < length then .parked else .empty }

/-- An accepted LOAD SPOOL at a lane of a station (R132). -/
def applySpool (l : LaneId) (st : StationId) (length : Nat) (s : State) : State :=
  let s := s.modLane l (Lane.load s.web length)
  if length = 0 then addSoft .foilOut st s else dropFoilOut st s

def reqLoadSpool (p : List Octet) (s : State) : Answer :=
  match LaneId.ofNumber (u8 p 0) with
  | none => refuse .badValue s
  | some l =>
    if 400000000 < u32 p 1 then refuse .badValue s
    else
      match (s.lane l).station, (s.lane l).state with
      | none, _ => refuse .notReady s
      | some _, .unassigned => refuse .notReady s
      | some _, .fault => refuse .notReady s
      | some st, _ =>
        let s := applySpool l st (u32 p 1) s
        accept .ok (spoolOctets (s.lane l) ++ octets 1 (s.lane l).state.code) s

/-! ### READ LANE (R136) -/

/-- A listed pending feed (section 10.4). -/
def feedOctets (f : PendingFeed) : List Octet :=
  octets 2 f.seq.toNat ++ octets 4 f.start.toNat ++ octets 4 f.length ++ octets 1 f.follow.code ++ octets 4 f.counted

/-- The last feed as READ LANE carries it: presence, seq, end position and follow (R136, section 10.4). DESIGN CHOICE:
with no last feed the three fields read 0; the spec gives them no value then (log 27). -/
def lastFeedOctets : Option LastFeed → List Octet
  | some f => flagOctet true ++ octets 2 f.seq.toNat ++ octets 4 f.endPos.toNat ++ octets 1 f.follow.code
  | none => octets 8 0

/-- The body of READ LANE (R136). -/
def laneReply (l : LaneId) (u : Lane) : List Octet :=
  let listed := u.pendingFeeds.take 8
  laneOctets l u ++ flagOctet u.faultIn ++ lastFeedOctets u.lastFeed ++ octets 1 u.idleRun ++ spoolOctets u ++
  flagOctet u.lowWarned ++ octets 4 u.feeds ++ octets 4 u.jumps ++ octets 2 u.late ++
  octets 2 u.pendingFeeds.length ++ octets 1 listed.length ++ listed.flatMap feedOctets

def reqReadLane (p : List Octet) (s : State) : Answer :=
  match LaneId.ofNumber (u8 p 0) with
  | none => refuse .badValue s
  | some l =>
    accept .ok (laneReply l (s.lane l))
      (if flagAt p 1 then s.modLane l fun u => { u with feeds := 0, jumps := 0, late := 0 } else s)

end Sys2Proof.Machine
end

