-- ==== Sys2Proof/Machine/JobRequests.lean ====
section
/-! DEFINITION. The job store's requests (R155 to R163, R168, R169) and READ QUEUE (R63, R64, R196). -/

namespace Sys2Proof.Machine

/-! ### The motif table (R154 to R157) -/

/-- The entry of a motif number. -/
def State.motif (s : State) (n : Nat) : Motif := (s.job.motifs[n]?).getD Motif.empty

/-- A slot of a plan names the motif. -/
def Plan.names (p : Plan) (n : Nat) : Bool := p.slots.any fun slot => slot.motif == n

/-- A plan place names the motif. -/
def placeNames (p : Option Plan) (n : Nat) : Bool :=
  match p with
  | some p => p.names n
  | none => false

/-- The pending buffer's plan while LOADED or READY (R157). -/
def PlanBuffer.plan : PlanBuffer → Option Plan
  | .empty => none
  | .loaded p => some p
  | .ready p => some p

/-- The holders that lock a motif (R157): the active plan, the pending plan, the draining plan, live records. -/
def State.holders (s : State) (n : Nat) : List Bool :=
  [placeNames s.job.active n, placeNames s.job.buffer.plan n, placeNames s.job.draining n,
   s.queue.any fun r => r.motif == n]

/-- The motif is locked (R157). -/
def State.locked (s : State) (n : Nat) : Bool := (s.holders n).any id

/-- The motif table with one entry replaced. -/
def setMotif (n : Nat) (m : Motif) (s : State) : State :=
  { s with job := { s.job with motifs := s.job.motifs.setIfInBounds n m } }

/-- A segment's own values are in range (R155). -/
def Segment.valid (g : Segment) : Bool :=
  decide (g.offset ≤ 65000) && decide (50 ≤ g.length) && decide (g.length ≤ 65000)

/-- The segments stand in order without overlap (R154). -/
def sortedSegments : List Segment → Bool
  | a :: b :: rest => decide (a.offset + a.length ≤ b.offset) && sortedSegments (b :: rest)
  | _ => true

/-- A lane's segment list is one R155 accepts. -/
def validSegments (gs : List Segment) : Bool :=
  decide (gs.length ≤ 4) && gs.all Segment.valid && sortedSegments gs

/-- The motif number and the valid flag (R155, R156). -/
def motifReply (n : Nat) (s : State) : List Octet := octets 1 n ++ flagOctet (s.motif n).valid

def reqDefineMotif (p : List Octet) (s : State) : Answer :=
  let n := u8 p 0
  match decide (n < Config.motifCount), maskOf (u8 p 1), motifGroups p with
  | true, some mask, some groups =>
    if s.locked n then refuse .inUse s
    else if (allLanes.all fun l => validSegments (groups.get l)) = false then refuse .badValue s
    else
      let s := setMotif n { valid := true, mask, segments := groups } s
      accept .ok (motifReply n s) s
  | _, _, _ => refuse .badValue s

def reqClearMotif (p : List Octet) (s : State) : Answer :=
  let n := u8 p 0
  if Config.motifCount ≤ n then refuse .badValue s
  else if s.locked n then refuse .inUse s
  else
    let s := setMotif n Motif.empty s
    accept .ok (motifReply n s) s

/-- A lane group: the count and the segments (section 10.4). -/
def groupOctets (gs : List Segment) : List Octet :=
  octets 1 gs.length ++ gs.flatMap fun g => octets 2 g.offset ++ octets 2 g.length

def reqReadMotif (p : List Octet) (s : State) : Answer :=
  let n := u8 p 0
  if Config.motifCount ≤ n then refuse .badValue s
  else
    let m := s.motif n
    accept .ok
      (octets 1 n ++ flagOctet m.valid ++ octets 1 (maskBits m.mask) ++ octets 1 (bitsToNat (s.holders n)) ++
        allLanes.flatMap fun l => groupOctets (m.segments.get l)) s

/-! ### LOAD PLAN and DROP PLAN (R159, R160) -/

/-- The id of a plan place, 0 when absent. -/
def placeId : Option Plan → Nat
  | some p => p.id
  | none => 0

/-- The pending buffer's state and plan id (R159). -/
def bufferReply (s : State) : List Octet := octets 1 s.job.buffer.code ++ octets 1 (placeId s.job.buffer.plan)

/-- The values of a plan are in range (R159). The slot count is that of the list, which LOAD PLAN's length gives. -/
def Plan.valid (p : Plan) : Bool :=
  decide (1 ≤ p.id) && decide (p.id ≤ 255) && decide (p.target ≤ 1000000) &&
  decide (1 ≤ p.slots.length) && decide (p.slots.length ≤ 8) &&
  p.slots.all fun t => decide (2000 ≤ t.pitch) && decide (t.pitch ≤ 65000) && decide (t.motif < Config.motifCount)

/-- Every slot names a valid motif (R159, R161 check 4). -/
def State.motifsValid (s : State) (p : Plan) : Bool := p.slots.all fun t => (s.motif t.motif).valid

def reqLoadPlan (p : List Octet) (s : State) : Answer :=
  if s.planReady then refuse .busy s
  else
    match planFields p with
    | none => refuse .badValue s
    | some plan =>
      if plan.valid = false ∨ s.motifsValid plan = false then refuse .badValue s
      else
        let s := { s with job := { s.job with buffer := .loaded plan } }
        accept .ok (bufferReply s) s

def reqDropPlan (s : State) : Answer :=
  let s := { s with job := { s.job with buffer := .empty } }
  accept .ok (octets 1 s.job.buffer.code) s

/-! ### COMMIT PLAN (R161 to R163, R193) -/

/-- The smallest pitch of a plan (R158). -/
def smallestPitch (slots : List PlanSlot) : Nat :=
  match slots with
  | [] => 0
  | x :: xs => xs.foldl (fun m t => min m t.pitch) x.pitch

/-- A refused commit: the failing check, the unit it names (0xFF for none, R193) and the status. -/
structure CommitFailure where
  check : Nat
  unit : Nat
  status : Status
  deriving DecidableEq, Repr

/-- Check `check` fails, naming no unit, when `b` holds. -/
def failsIf (b : Bool) (check : Nat) (status : Status) : Option CommitFailure :=
  if b then some { check, unit := 0xFF, status } else none

/-- Check `check` fails at the first unit of a list in order. -/
def failsAt (check : Nat) (status : Status) (unit : Option Nat) : Option CommitFailure :=
  unit.map fun unit => { check, unit, status }

/-- The number of the first slot for which a test holds, slots tested from 0. -/
def firstSlot (test : PlanSlot → Bool) (slots : List PlanSlot) : Option Nat := slots.findIdx? test

/-- The number of the first enabled station for which a test holds, stations tested from 1. -/
def State.firstStation (s : State) (test : StationSetup → Bool) : Option Nat :=
  (allStations.find? fun st => s.enabled st && test (s.station st).setup).map StationId.number

/-- Check 4: a slot names an invalid motif. -/
def State.check4 (s : State) (p : Plan) : Option CommitFailure :=
  failsAt 4 .badValue (firstSlot (fun t => !(s.motif t.motif).valid) p.slots)

/-- Check 6: an enabled station's die slots differ from the slot count. -/
def State.check6 (s : State) (p : Plan) : Option CommitFailure :=
  failsAt 6 .badValue (s.firstStation fun c => c.dieSlots != p.slots.length)

/-- Check 8: the entry window, or an enabled station's window, is too wide for the smallest pitch. -/
def State.check8 (s : State) (p : Plan) : Option CommitFailure :=
  let least := smallestPitch p.slots
  if least ≤ 2 * s.entry.ewin then some { check := 8, unit := 0, status := .badValue }
  else failsAt 8 .badValue (s.firstStation fun c => decide (least ≤ 2 * c.swin))

/-- Check 9: a segment ends past its slot's pitch. -/
def State.check9 (s : State) (p : Plan) : Option CommitFailure :=
  failsAt 9 .badValue
    (firstSlot
      (fun t => allLanes.any fun l => ((s.motif t.motif).segments.get l).any fun g =>
        decide (t.pitch < g.offset + g.length)) p.slots)

/-- Check 10 fails for a lane and a motif: the motif has segments on the lane, which is unassigned or assigned to a
station outside the mask. -/
def State.strayLane (s : State) (l : LaneId) (m : Motif) : Bool :=
  !(m.segments.get l).isEmpty &&
  match (s.lane l).station with
  | none => true
  | some st => !m.mask.get st

/-- Check 10: the lowest lane that fails for some slot. -/
def State.check10 (s : State) (p : Plan) : Option CommitFailure :=
  failsAt 10 .badValue
    ((allLanes.find? fun l => p.slots.any fun t => s.strayLane l (s.motif t.motif)).map LaneId.number)

/-- Check 11: an enabled station's path holds more records than the queue. -/
def State.check11 (s : State) (p : Plan) : Option CommitFailure :=
  failsAt 11 .pathTooLong
    (s.firstStation fun c =>
      decide (Config.queueCapacity < (c.path + c.lead + c.swin) / smallestPitch p.slots + 2))

/-- Checks 3 to 11 of a LOADED plan: the first that fails (R161). -/
def State.planChecks (s : State) (p : Plan) : Option CommitFailure :=
  (failsIf s.job.draining.isSome 3 .busy).or <|
  (s.check4 p).or <|
  (failsIf (p.sync == .any && p.slots.length != 1) 5 .badValue).or <|
  (s.check6 p).or <|
  (failsIf (s.job.state != .none && placeId s.job.active == p.id) 7 .badValue).or <|
  (s.check8 p).or <| (s.check9 p).or <| (s.check10 p).or (s.check11 p)

/-- The reply of a refused commit (R193). -/
def commitRefused (f : CommitFailure) (s : State) : Answer :=
  ([statusCode f.status] ++ octets 1 f.check ++ octets 1 f.unit, s)

/-- The plan is active at once (R162). -/
def armPlan (p : Plan) (s : State) : State :=
  let s := { s with job := { s.job with
    active := some p, activeLive := 0, buffer := .empty, state := .armed, endReason := none, admitted := 0,
    target := p.target } }
  let s := overStations allStations (fun st s => s.modStation st fun u => { u with drift := 0, unusable := 0 }) s
  enterSearch s

/-- The plan waits for the changeover (R163). -/
def readyPlan (p : Plan) (s : State) : State :=
  let s := { s with job := { s.job with buffer := .ready p } }
  if (s.job.state = .draining ∨ s.job.state = .ended) ∧ s.tracker.state = .off ∧ s.mode ≠ .standby
  then enterSearch s else s

/-- An accepted COMMIT PLAN, by the job state (R162, R163). -/
def commitPlan (p : Plan) (s : State) : State :=
  match s.job.state with
  | .none => armPlan p s
  | _ => readyPlan p s

/-- The reply of an accepted COMMIT PLAN (R162, R163). -/
def commitReply (s : State) : List Octet :=
  octets 1 s.job.state.code ++ octets 1 (placeId s.job.active) ++ octets 1 s.job.buffer.code

def reqCommitPlan (s : State) : Answer :=
  match s.job.buffer with
  | .empty => commitRefused { check := 1, unit := 0xFF, status := .notReady } s
  | .ready _ => commitRefused { check := 2, unit := 0xFF, status := .busy } s
  | .loaded p =>
    match s.planChecks p with
    | some f => commitRefused f s
    | none =>
      let s := commitPlan p s
      accept .ok (commitReply s) s

/-! ### END JOB (R168) -/

/-- END JOB from ARMED (R168). -/
def drainJob (s : State) : State :=
  drainedTest (enterSearch { s with job := { s.job with state := .draining, endReason := some .endRequest } })

/-- A READY plan returns to LOADED (R168). -/
def PlanBuffer.returned : PlanBuffer → PlanBuffer
  | .ready p => .loaded p
  | b => b

/-- END JOB from ENDED (R168). -/
def releaseJob (s : State) : State :=
  enterOff { s with job := { s.job with
    state := .none, endReason := none, active := none, activeLive := 0, admitted := 0, target := 0,
    buffer := s.job.buffer.returned } }

/-- The job state and the pending buffer's state (R168). -/
def jobReply (s : State) : List Octet := octets 1 s.job.state.code ++ octets 1 s.job.buffer.code

def reqEndJob (s : State) : Answer :=
  match s.job.state with
  | .none => refuse .notReady s
  | .armed =>
    let s := drainJob s
    accept .ok (jobReply s) s
  | .draining => refuse .busy s
  | .ended =>
    let s := releaseJob s
    accept .ok (jobReply s) s

/-! ### EXTEND BATCH (R169) -/

/-- The job returns to ARMED when its new target exceeds the admitted count, and a tracker in OFF enters SEARCH
(R169, R28). -/
def rearm (s : State) : State :=
  if (s.job.state = .draining ∨ s.job.state = .ended) ∧ s.job.admitted < s.job.target then
    let s := { s with job := { s.job with state := .armed, endReason := none } }
    if s.tracker.state = .off then enterSearch s else s
  else s

def reqExtendBatch (p : List Octet) (s : State) : Answer :=
  let n := u32 p 0
  if n < 1 ∨ 1000000 < n then refuse .badValue s
  else if s.job.state = .none then refuse .notReady s
  else if s.job.target = 0 then refuse .badValue s
  else if (s.job.state = .draining ∨ s.job.state = .ended) ∧ s.job.endReason ≠ some .batch then refuse .notReady s
  else
    let sum := s.job.target + n
    let s := rearm { s with job := { s.job with target := min 1000000 sum } }
    accept (okOr (decide (1000000 < sum))) (octets 4 s.job.target ++ octets 4 s.job.admitted ++
      octets 1 s.job.state.code) s

/-! ### READ QUEUE (R63, R64, R196) -/

/-- A visit summary; one of an absent visit is all 0 (R64, R196). -/
def visitOctets : Option Visit → List Octet
  | none => octets 15 0
  | some v =>
    octets 1 (v.state.code + 4 * decisionCode v.decision + 16 * outcomeCode v.outcome + 128) ++
    octets 1 (decisionReason v.decision + 16 * v.feeds.length + (if v.error.isSome then 64 else 0)) ++
    octets 1 v.regFlags.bits ++ octets 4 v.expected.toNat ++ posOctets v.strikePt ++
    signedOctets 4 (v.error.getD 0)

/-- A record as READ QUEUE carries it (R196). -/
def recordOctets (r : LabelRecord) : List Octet :=
  octets 2 r.seq.toNat ++ octets 1 r.plan ++ octets 1 r.slot ++ octets 1 r.motif ++ octets 2 r.pitch ++
  octets 4 r.entryPos.toNat ++ octets 1 r.origin.code ++ octets 1 r.flagBits ++
  allStations.flatMap fun st => visitOctets (r.visit st)

def reqReadQueue (p : List Octet) (s : State) : Answer :=
  let start := u8 p 0
  let n := u8 p 1
  if n < 1 ∨ 8 < n then refuse .badValue s
  else
    let records := (s.queue.drop start).take (min 3 n)
    accept .ok
      (octets 2 s.queue.length ++ octets 1 start ++ octets 1 records.length ++ records.flatMap recordOctets) s

end Sys2Proof.Machine
end

