-- ==== Sys2Proof/Machine/LinkRequests.lean ====
section
/-! DEFINITION. The link controller's own requests: IDENTIFY, READ STATUS (R188), READ TRACE (R187, R195), SET EVENT
MASK, CLEAR EVENTS and READ EVENTS (R183 to R185). RESET (R189) stands in Machine/Link.lean. -/

namespace Sys2Proof.Machine

/-! ### IDENTIFY (R188) -/

def reqIdentify (s : State) : Answer :=
  accept .ok
    (octets 2 Config.partCode ++ octets 1 Config.revision ++ octets 1 s.link.rate.toNat ++
      octets 2 Config.queueCapacity ++ octets 1 Config.motifCount ++ octets 1 Config.stationCount ++
      octets 1 Config.laneCount ++ octets 1 Config.traceCapacity) s

/-! ### READ STATUS (R188) -/

/-- The press and job part of READ STATUS, offsets 1 to 19 (R171). -/
def jobStatus (s : State) : List Octet :=
  octets 1 s.mode.code ++ octets 1 s.job.state.code ++ octets 1 (endReasonCode s.job.endReason) ++
  octets 1 (placeId s.job.active) ++ octets 4 s.job.target ++ octets 4 s.job.admitted ++ octets 2 s.job.activeLive ++
  octets 1 s.job.buffer.code ++ octets 1 (placeId s.job.buffer.plan) ++ octets 1 (placeId s.job.draining) ++
  octets 2 s.job.drainingLive

/-- A source's enabled flag and state. -/
def sourceStatus (u : SourceUnit) : List Octet := flagOctet (u.state != .off) ++ octets 1 u.state.code

/-- The reference, entry and queue part of READ STATUS, offsets 20 to 52. -/
def webStatus (s : State) : List Octet :=
  octets 1 s.ref.selected.code ++ sourceStatus s.ref.line ++ sourceStatus s.ref.wheel ++ octets 4 s.web.toNat ++
  octets 4 s.ref.hw.toNat ++ octets 2 s.ref.speed ++ octets 2 s.ref.rewound ++ octets 2 s.m0.rejected ++
  octets 2 s.m0.stray ++ octets 1 s.zones.length ++ octets 1 s.tracker.state.code ++ octets 1 s.tracker.cursor ++
  posOctets (s.tracker.window.map EntryWindow.expected) ++ octets 1 s.tracker.missRun ++
  octets 2 s.tracker.seqCounter.toNat ++ octets 2 s.queue.length

/-- The link part of READ STATUS, offsets 53 to 67. -/
def linkStatus (s : State) : List Octet :=
  flagOctet s.events.attn ++ octets 2 s.link.abandoned ++ octets 2 s.link.badLength ++ octets 2 s.link.badCrc ++
  flagOctet s.link.overrun ++ [s.link.lostKind, s.link.lostTag] ++ octets 2 s.link.overruns ++
  octets 1 s.trace.entries.length ++ octets 2 s.trace.dropped

/-- READ STATUS's clear option (R188). -/
def Link.cleared (l : Link) : Link :=
  { l with abandoned := 0, badLength := 0, badCrc := 0, overruns := 0, overrun := false, lostKind := 0,
           lostTag := 0 }

def reqReadStatus (p : List Octet) (s : State) : Answer :=
  accept .ok (jobStatus s ++ webStatus s ++ linkStatus s)
    (if flagAt p 0 then { s with link := s.link.cleared } else s)

/-! ### READ TRACE (R187, R195) -/

/-- A trace entry as READ TRACE carries it (R195). -/
def traceOctets (t : TraceEntry) : List Octet :=
  octets 2 t.seq.toNat ++ octets 1 t.plan ++ octets 1 t.slot ++ octets 1 t.station.number ++
  octets 1 (outcomeCode (some t.outcome)) ++ octets 1 (decisionReason (t.reason.map Decision.skip)) ++
  octets 1 (bitsToNat [t.error.isSome, t.origin == .predicted]) ++ signedOctets 4 (t.error.getD 0) ++
  signedOctets 4 t.trim ++ octets 1 t.regFlags.bits ++ octets 4 t.strikePt.toNat

/-- The watermark in force after READ TRACE gives `w` (R187, steps 1 and 5). -/
def TraceQueue.watermarkAfter (t : TraceQueue) (w : Nat) : Nat := if w = 0 then t.watermark else min 64 w

/-- READ TRACE's effect on the trace queue: `n` entries leave, the dropped count may be cleared, and a watermark given
is tested (R187, steps 2, 4 and 5). -/
def takeTrace (n : Nat) (clear : Bool) (w : Nat) (s : State) : State :=
  let t := s.trace
  let s := { s with trace := { entries := t.entries.drop n, dropped := if clear then 0 else t.dropped,
                               watermark := t.watermarkAfter w } }
  if w = 0 then s else watermarkTest s

def reqReadTrace (p : List Octet) (s : State) : Answer :=
  let n := u8 p 0
  let w := u8 p 2
  if n < 1 ∨ 8 < n then refuse .badValue s
  else
    let taken := s.trace.entries.take n
    accept (okOr (decide (64 < w)))
      (octets 1 taken.length ++ octets 1 (s.trace.entries.length - taken.length) ++ octets 2 s.trace.dropped ++
        octets 1 (s.trace.watermarkAfter w) ++ taken.flatMap traceOctets)
      (takeTrace n (flagAt p 1) w s)

/-! ### SET EVENT MASK, READ EVENTS, CLEAR EVENTS (R183 to R185) -/

/-- A set of event kinds as a 4-octet field (R192). -/
def eventOctets (b : BitVec 24) : List Octet := octets 4 b.toNat

/-- The mask is replaced, and the kinds masked out leave the notice-due list (R183). -/
def EventSet.setMask (e : EventSet) (m : BitVec 24) : EventSet :=
  { e with mask := m, due := e.due.filter fun k => k.isIn m }

def reqSetEventMask (p : List Octet) (s : State) : Answer :=
  match eventSetOf (u32 p 0) with
  | none => refuse .badValue s
  | some m =>
    let s := { s with events := s.events.setMask m }
    accept .ok (eventOctets s.events.mask) s

/-- A latest-raise record as READ EVENTS carries it (section 10.4). -/
def raiseOctets (r : RaiseRecord) : List Octet := octets 1 r.unit ++ octets 2 r.detail ++ octets 4 r.web.toNat

def reqReadEvents (s : State) : Answer :=
  accept .ok
    (eventOctets s.events.flags ++ eventOctets s.events.mask ++ s.events.records.toList.flatMap raiseOctets) s

/-- The kinds of a set are cleared and leave the notice-due list (R184). -/
def EventSet.clear (e : EventSet) (m : BitVec 24) : EventSet :=
  { e with flags := e.flags &&& ~~~m, due := e.due.filter fun k => !k.isIn m }

def reqClearEvents (p : List Octet) (s : State) : Answer :=
  match eventSetOf (u32 p 0) with
  | none => refuse .badValue s
  | some m =>
    let s := { s with events := s.events.clear m }
    accept .ok (eventOctets s.events.flags) s

end Sys2Proof.Machine
end

