-- ==== Sys2Proof/Machine/Link.lean ====
section
/-! DEFINITION. The link controller: carrying out a request (R177, R178, R190, R191), the receive queue (R176), the
dispatcher and the transmitter (R177, R179), the receiver (R174, R175), the end of a sent frame (R179) and the reset of
the part (R189, R19). -/

namespace Sys2Proof.Machine

/-! ### Carrying out a request (R177) -/

/-- RESET: accepted, and the dispatcher takes no further frame (R189). -/
def reqReset (s : State) : Answer := accept .ok [] { s with link := { s.link with resetPending := true } }

/-- A request of a known kind and a fitting length is carried out (R177, step 3). -/
def carryOut (k : ReqKind) (p : List Octet) (s : State) : Answer :=
  match k with
  | .identify => reqIdentify s
  | .reset => reqReset s
  | .setMode => reqSetMode p s
  | .readStatus => reqReadStatus p s
  | .setSource => reqSetSource p s
  | .setupEntry => reqSetupEntry p s
  | .setupStation => reqSetupStation p s
  | .tuneRegister => reqTuneRegister p s
  | .setTrim => reqSetTrim p s
  | .nudgeTrim => reqNudgeTrim p s
  | .setupHeat => reqSetupHeat p s
  | .setupLane => reqSetupLane p s
  | .loadSpool => reqLoadSpool p s
  | .pause => reqPause p s
  | .resume => reqResume p s
  | .clearFault => reqClearFault p s
  | .defineMotif => reqDefineMotif p s
  | .clearMotif => reqClearMotif p s
  | .readMotif => reqReadMotif p s
  | .loadPlan => reqLoadPlan p s
  | .commitPlan => reqCommitPlan s
  | .dropPlan => reqDropPlan s
  | .endJob => reqEndJob s
  | .extendBatch => reqExtendBatch p s
  | .readStation => reqReadStation p s
  | .readLane => reqReadLane p s
  | .readQueue => reqReadQueue p s
  | .readTrace => reqReadTrace p s
  | .setEventMask => reqSetEventMask p s
  | .readEvents => reqReadEvents s
  | .clearEvents => reqClearEvents p s

/-- The answer to a frame: the kind test, the length test, and the request (R177, steps 1 to 3, R190, R191). -/
def answer (kind : Octet) (p : List Octet) (s : State) : Answer :=
  match ReqKind.ofOctet kind with
  | none => refuse .unknownKind s
  | some k => if lengthFits k p then carryOut k p s else refuse .badLength s

/-- The reply of a frame stands in the reply slot (R177, step 4; R190). -/
def placeReply (f : Frame) (a : Answer) : State :=
  { a.2 with link := { a.2.link with
      slot := some { kind := f.kind + 0x80, tag := f.tag, payload := a.1, resets := a.2.link.resetPending } } }

/-- The dispatcher takes a frame from the head of the receive queue and answers it (R177). -/
def takeFrame (f : Frame) (rest : List Frame) (s : State) : State :=
  placeReply f (answer f.kind f.payload { s with link := { s.link with rxQueue := rest } })

/-- The dispatcher takes frames while the reply slot is free and no RESET has been accepted, at most `fuel`; the
transmitter starts what is due after each (R177, R179, R189). -/
def pump : Nat → State → State
  | 0, s => s
  | fuel + 1, s =>
    match s.link.slot, s.link.resetPending, s.link.rxQueue with
    | none, false, f :: rest => pump fuel (txChoose (takeFrame f rest s))
    | _, _, _ => s

/-- The transmitter and the dispatcher act until neither can (R177, R179; log 6). -/
def settle (s : State) : State :=
  let s := txChoose s
  pump s.link.rxQueue.length s

/-! ### The receive queue (R176) -/

/-- A good frame joins the receive queue, or is discarded with LINK_OVERRUN when it holds 2 (R176). -/
def Link.takeGood (f : Frame) (l : Link) : Link :=
  if l.rxQueue.length < Config.rxCapacity then { l with rxQueue := l.rxQueue ++ [f] }
  else
    let l := { l with overruns := bump16 l.overruns }
    if l.overrun then l else { l with overrun := true, lostKind := f.kind, lostTag := f.tag }

/-- A good frame is found, and the dispatcher acts (R176, R177; log 5). -/
def deliver (kind tag : Octet) (payload : List Octet) (s : State) : State :=
  settle { s with link := s.link.takeGood { kind, tag, payload } }

/-! ### The receiver (R174, R175) -/

/-- What the octets from a start octet on are: a candidate not yet complete, a bad length, a bad CRC, or a good frame
with the number of octets after its start octet. -/
inductive Candidate where
  | incomplete
  | badLength
  | badCrc
  | good (frame : Frame) (more : Nat)
  deriving DecidableEq, Repr

/-- The frame whose body, the octets from the length octet to the last payload octet, is given. -/
def frameOfBody : List Octet → Frame
  | _ :: kind :: tag :: payload => { kind, tag, payload }
  | _ => { kind := 0, tag := 0, payload := [] }

/-- The octets after a start octet are judged (R174, R175). -/
def judge (os : List Octet) : Candidate :=
  match os with
  | [] => .incomplete
  | len :: _ =>
    let n := len.toNat
    if n < 2 ∨ 250 < n then .badLength
    else if os.length < n + 3 then .incomplete
    else
      let body := os.take (n + 1)
      if (os.drop (n + 1)).take 2 = octets 2 (crc16 body).toNat then .good (frameOfBody body) (n + 3)
      else .badCrc

/-- The receiver takes octets from HUNT, the first `skip` of them being the rest of a good frame already taken; what
it still holds at the end is the candidate left incomplete (R174, R175). -/
def scan : Nat → List Octet → Link → Link
  | _, [], l => { l with held := [] }
  | skip + 1, _ :: os, l => scan skip os l
  | 0, o :: os, l =>
    if o = startOctet then
      match judge os with
      | .incomplete => { l with held := o :: os }
      | .badLength => scan 0 os { l with badLength := bump16 l.badLength }
      | .badCrc => scan 0 os { l with badCrc := bump16 l.badCrc }
      | .good f more => scan more os (l.takeGood f)
    else scan 0 os l

/-- The gap timer runs from the last octet received while a candidate is held, and is stopped in HUNT (R174, R175). -/
def Link.restartGap (l : Link) : Link := { l with gap := if l.held = [] then none else some Config.gapMs }

/-- An octet reaches the receiver: the candidate held, with it at its end, is followed on; good frames found go to the
receive queue, and the dispatcher acts (R174 to R177). -/
def octetReceived (o : Octet) (s : State) : State :=
  settle { s with link := (scan 0 (s.link.held ++ [o]) s.link).restartGap }

/-- The candidate frame is abandoned (R174). -/
def Link.abandon (l : Link) : Link :=
  if l.held = [] then l else { l with held := [], gap := none, abandoned := bump16 l.abandoned }

/-- The gap timer expires, or a character without its stop bit arrives (R174). -/
def gapExpired (s : State) : State := { s with link := s.link.abandon }

/-! ### Reset (R189) -/

/-- A source after a reset: its pins keep their levels (log 4). -/
def SourceUnit.restart (u : SourceUnit) (state : SourceState) : SourceUnit :=
  { SourceUnit.resetIn state with faultIn := u.faultIn, pairA := u.pairA, pairB := u.pairB }

/-- The reference unit after a reset (R19). -/
def Reference.restart (r : Reference) : Reference :=
  { Reference.reset with line := r.line.restart .still, wheel := r.wheel.restart .off }

/-- A station after a reset: its pins keep their levels (R113, log 4). -/
def Station.restart (u : Station) : Station :=
  { Station.reset with engagedIn := u.engagedIn, liftedIn := u.liftedIn,
                       zone := { HeatZone.reset with faultIn := u.zone.faultIn } }

/-- A lane after a reset: its pin keeps its level, and its drive is sent a full STOP (R137; log 4, 13). -/
def Lane.restart (u : Lane) : Lane := { Lane.reset with faultIn := u.faultIn, drive := u.drive ++ Lane.reset.drive }

/-- The stations of a table each changed. -/
def PerStation.map {α : Type} (p : PerStation α) (f : α → α) : PerStation α := ⟨f p.s1, f p.s2, f p.s3, f p.s4⟩

/-- The lanes of a table each changed. -/
def PerLane.map {α : Type} (p : PerLane α) (f : α → α) : PerLane α :=
  ⟨f p.l0, f p.l1, f p.l2, f p.l3, f p.l4, f p.l5⟩

/-- The part right after a reset with the cause and the line rate given (R189). The commands that wait are the
sender's and stay. -/
def State.restart (s : State) (cause : Nat) (rate : BitVec 2) : State :=
  { State.reset with
    pending := s.pending
    ref := s.ref.restart
    stations := s.stations.map Station.restart
    lanes := s.lanes.map Lane.restart
    link := Link.resetAt rate
    events := EventSet.resetFor cause }

/-- A reset of the part: the reset values, and LINE's fault when its input is asserted (R189, R19). -/
def partReset (cause : Nat) (rate : BitVec 2) (s : State) : State :=
  let s := s.restart cause rate
  if s.ref.line.faultIn then sourceFaults .line s else s

/-- The line rate of the strap levels (R172, R192). -/
def strapRate (strap1 strap0 : Bool) : BitVec 2 := BitVec.ofNat 2 (bitsToNat [strap0, strap1])

/-! ### The end of a sent frame (R179) -/

/-- The last octet of the frame being sent has left: after the reply to RESET the part resets; otherwise the
transmitter is idle and chooses its next frame, and the dispatcher acts (R179, R189). A frame already due while the
transmitter stands idle, as after a reset, is the one being sent (log 6). -/
def frameSent (s : State) : State :=
  let s := txChoose s
  match s.link.tx with
  | none => s
  | some f =>
    if f.resets then partReset 2 s.link.rate s
    else settle { s with link := { s.link with tx := none } }

end Sys2Proof.Machine
end

