-- ==== Sys2Proof/Machine/Time.lean ====
section
/-! DEFINITION. The passing of one millisecond, which is what a step does on an empty queue of commands (log 3): every
running timer counts down, and those that reach 0 expire, in the order of this file. -/

namespace Sys2Proof.Machine

/-- A timer one millisecond later. -/
def countDown (t : Option Nat) : Option Nat := t.map fun n => n - 1

/-- A source's motion timer one millisecond later (R3). -/
def SourceUnit.tick (u : SourceUnit) : SourceUnit := { u with motion := countDown u.motion }

/-- The reference unit's timers one millisecond later (R3, R13). -/
def Reference.tick (r : Reference) : Reference :=
  { r with line := r.line.tick, wheel := r.wheel.tick, sampleTimer := r.sampleTimer - 1 }

/-- A station's timers one millisecond later (R101, R140). -/
def Station.tick (u : Station) : Station :=
  { u with stroke := countDown u.stroke, zone := { u.zone with soakTimer := countDown u.zone.soakTimer } }

/-- Every timer of the part one millisecond later. -/
def State.tick (s : State) : State :=
  { s with ref := s.ref.tick, stations := s.stations.map Station.tick,
           link := { s.link with gap := countDown s.link.gap } }

/-- The motion timer of a source has run out. -/
def motionDue (x : Source) (s : State) : State := if (s.ref.source x).motion = some 0 then motionExpired x s else s

/-- The speed sample timer has run out. -/
def sampleDue (s : State) : State := if s.ref.sampleTimer = 0 then speedSample s else s

/-- The gap timer has run out. -/
def gapDue (s : State) : State := if s.link.gap = some 0 then gapExpired s else s

/-- The stroke timer of a station has run out. -/
def strokeDue (st : StationId) (s : State) : State := if (s.station st).stroke = some 0 then strokeExpired st s else s

/-- The soak timer of a zone has run out. -/
def soakDue (st : StationId) (s : State) : State :=
  if (s.station st).zone.soakTimer = some 0 then soakExpired st s else s

/-- One millisecond passes: the transmitter starts what is due, the timers count down, and those that have run out
expire (log 3). -/
def msTick (s : State) : State :=
  overStations allStations soakDue
    (overStations allStations strokeDue
      (gapDue (sampleDue (motionDue .wheel (motionDue .line (txChoose s).tick)))))

end Sys2Proof.Machine
end

