-- ==== Sys2Proof/Machine/Commands.lean ====
section
/-! DEFINITION. The meaning of each command, one definition per constructor of `Instr`, over the operations of the
other files. Every meaning answers a next state. -/

namespace Sys2Proof.Machine

/-- What a command answers. -/
abbrev Result := Host.Outcome State Fault Refusal

/-- A request frame of a known kind is found by the receiver and comes to the dispatcher (R176, R177). -/
def request (k : ReqKind) (tag : Octet) (payload : List Octet) (s : State) : Result :=
  .next (deliver (BitVec.ofNat 8 k.code) tag payload s)

/-! ### The 31 requests (R190) -/

/-- IDENTIFY (R188). -/
def execIdentify (tag : Octet) (payload : List Octet) (s : State) : Result := request .identify tag payload s

/-- RESET (R189). -/
def execReset (tag : Octet) (payload : List Octet) (s : State) : Result := request .reset tag payload s

/-- SET MODE (R147). -/
def execSetMode (tag : Octet) (payload : List Octet) (s : State) : Result := request .setMode tag payload s

/-- READ STATUS (R188). -/
def execReadStatus (tag : Octet) (payload : List Octet) (s : State) : Result := request .readStatus tag payload s

/-- SET SOURCE (R17, R18). -/
def execSetSource (tag : Octet) (payload : List Octet) (s : State) : Result := request .setSource tag payload s

/-- SETUP ENTRY (R37, R38). -/
def execSetupEntry (tag : Octet) (payload : List Octet) (s : State) : Result := request .setupEntry tag payload s

/-- SETUP STATION (R91, R92). -/
def execSetupStation (tag : Octet) (payload : List Octet) (s : State) : Result := request .setupStation tag payload s

/-- TUNE REGISTER (R83, R84). -/
def execTuneRegister (tag : Octet) (payload : List Octet) (s : State) : Result := request .tuneRegister tag payload s

/-- SET TRIM (R85). -/
def execSetTrim (tag : Octet) (payload : List Octet) (s : State) : Result := request .setTrim tag payload s

/-- NUDGE TRIM (R86). -/
def execNudgeTrim (tag : Octet) (payload : List Octet) (s : State) : Result := request .nudgeTrim tag payload s

/-- SETUP HEAT (R144, R145). -/
def execSetupHeat (tag : Octet) (payload : List Octet) (s : State) : Result := request .setupHeat tag payload s

/-- SETUP LANE (R116, R117). -/
def execSetupLane (tag : Octet) (payload : List Octet) (s : State) : Result := request .setupLane tag payload s

/-- LOAD SPOOL (R132). -/
def execLoadSpool (tag : Octet) (payload : List Octet) (s : State) : Result := request .loadSpool tag payload s

/-- PAUSE (R98). -/
def execPause (tag : Octet) (payload : List Octet) (s : State) : Result := request .pause tag payload s

/-- RESUME (R98). -/
def execResume (tag : Octet) (payload : List Octet) (s : State) : Result := request .resume tag payload s

/-- CLEAR FAULT (R99, R100). -/
def execClearFault (tag : Octet) (payload : List Octet) (s : State) : Result := request .clearFault tag payload s

/-- DEFINE MOTIF (R155). -/
def execDefineMotif (tag : Octet) (payload : List Octet) (s : State) : Result := request .defineMotif tag payload s

/-- CLEAR MOTIF (R156). -/
def execClearMotif (tag : Octet) (payload : List Octet) (s : State) : Result := request .clearMotif tag payload s

/-- READ MOTIF (R156). -/
def execReadMotif (tag : Octet) (payload : List Octet) (s : State) : Result := request .readMotif tag payload s

/-- LOAD PLAN (R159). -/
def execLoadPlan (tag : Octet) (payload : List Octet) (s : State) : Result := request .loadPlan tag payload s

/-- COMMIT PLAN (R161 to R163). -/
def execCommitPlan (tag : Octet) (payload : List Octet) (s : State) : Result := request .commitPlan tag payload s

/-- DROP PLAN (R160). -/
def execDropPlan (tag : Octet) (payload : List Octet) (s : State) : Result := request .dropPlan tag payload s

/-- END JOB (R168). -/
def execEndJob (tag : Octet) (payload : List Octet) (s : State) : Result := request .endJob tag payload s

/-- EXTEND BATCH (R169). -/
def execExtendBatch (tag : Octet) (payload : List Octet) (s : State) : Result := request .extendBatch tag payload s

/-- READ STATION (R88, R112, R152). -/
def execReadStation (tag : Octet) (payload : List Octet) (s : State) : Result := request .readStation tag payload s

/-- READ LANE (R136). -/
def execReadLane (tag : Octet) (payload : List Octet) (s : State) : Result := request .readLane tag payload s

/-- READ QUEUE (R63, R64). -/
def execReadQueue (tag : Octet) (payload : List Octet) (s : State) : Result := request .readQueue tag payload s

/-- READ TRACE (R187). -/
def execReadTrace (tag : Octet) (payload : List Octet) (s : State) : Result := request .readTrace tag payload s

/-- SET EVENT MASK (R183). -/
def execSetEventMask (tag : Octet) (payload : List Octet) (s : State) : Result := request .setEventMask tag payload s

/-- READ EVENTS (R185). -/
def execReadEvents (tag : Octet) (payload : List Octet) (s : State) : Result := request .readEvents tag payload s

/-- CLEAR EVENTS (R184). -/
def execClearEvents (tag : Octet) (payload : List Octet) (s : State) : Result := request .clearEvents tag payload s

/-! ### What the line, the plant, the timers and the thresholds bring -/

/-- The idle-lift point of a station is taken when HW has reached it (R9, R109). -/
def idleLiftDue (st : StationId) (s : State) : State :=
  match (s.station st).idleLift with
  | some p => if reached s.ref.hw p then idleLiftReached st s else s
  | none => s

/-- A frame whose kind octet names no request (R190). -/
def execUnknownKindRequest (kind tag : Octet) (payload : List Octet) (s : State) : Result :=
  .next (deliver kind tag payload s)

/-- An octet reaches the receiver (R174, R175). -/
def execOctetReceived (octet : Octet) (s : State) : Result := .next (octetReceived octet s)

/-- A character whose stop bit is absent: an expiry of the gap timer, ignored in HUNT (R174). -/
def execMissingStopBit (s : State) : Result := .next (gapExpired s)

/-- The gap timer expires; in HUNT it does not run, and nothing changes (R174, log 2). -/
def execGapTimerExpiry (s : State) : Result := .next (gapExpired s)

/-- The last octet of the frame being sent has left (R179, R189). -/
def execFrameSent (s : State) : Result := .next (frameSent s)

/-- The hardware reset input, with the straps as read at its end (R172, R189). -/
def execHardwareReset (strap1 strap0 : Bool) (s : State) : Result := .next (partReset 1 (strapRate strap1 strap0) s)

/-- Power-on, with the straps as read at it (R172, R189). -/
def execPowerOnReset (strap1 strap0 : Bool) (s : State) : Result := .next (partReset 1 (strapRate strap1 strap0) s)

/-- A source's quadrature pair takes new levels (R3 to R5). -/
def execSourceCount (source : Source) (levelA levelB : Bool) (s : State) : Result :=
  .next (pairChanges source levelA levelB s)

/-- A source's fault input is asserted (R3, R7). -/
def execSourceFaultInputAsserted (source : Source) (s : State) : Result := .next (sourceFaultAsserted source s)

/-- A source's fault input clears (R3). -/
def execSourceFaultInputClears (source : Source) (s : State) : Result := .next (sourceFaultClears source s)

/-- A source's motion timer expires (R3). -/
def execMotionTimerExpiry (source : Source) (s : State) : Result := .next (motionExpired source s)

/-- The speed sample timer expires (R13). -/
def execSpeedSampleTimerExpiry (s : State) : Result := .next (speedSample s)

/-- A leading edge on a mark channel (R20). -/
def execMarkLeadingEdge (channel : Channel) (s : State) : Result := .next (Machine.markLeadingEdge channel s)

/-- A trailing edge on a mark channel (R21, R23). -/
def execMarkTrailingEdge (channel : Channel) (s : State) : Result := .next (Machine.markTrailingEdge channel s)

/-- HW reaches an open mark's over-width threshold (R22). -/
def execOverwidthThreshold (channel : Channel) (s : State) : Result := .next (Machine.overwidthThreshold channel s)

/-- HW reaches the entry window's expiry threshold (R33). -/
def execEntryWindowExpiry (s : State) : Result := .next (Machine.entryWindowExpiry s)

/-- An edge of the splice input (R10, R24, R26). -/
def execSpliceEdge (leading : Bool) (s : State) : Result := .next (Machine.spliceEdge leading s)

/-- HW reaches a splice zone's removal threshold (R25). -/
def execSpliceZoneRemoval (s : State) : Result := .next (Machine.spliceZoneRemoval s)

/-- HW reaches a station window's expiry threshold (R47). -/
def execStationWindowExpiry (s : State) : Result := .next (Machine.stationWindowExpiry s)

/-- HW reaches a strike point (R58, R59). -/
def execStrikePoint (s : State) : Result := .next (Machine.strikePoint s)

/-- A gate on a die gate input (R68, R71). -/
def execDieGate (station : StationId) (index : Bool) (s : State) : Result := .next (Machine.dieGate station index s)

/-- HW reaches the waiting mark's expiry threshold (R72). -/
def execWaitingMarkExpiry (station : StationId) (s : State) : Result := .next (Machine.waitingMarkExpiry station s)

/-- HW reaches the unpaired gate's expiry threshold (R73). -/
def execUnpairedGateExpiry (station : StationId) (s : State) : Result := .next (Machine.unpairedGateExpiry station s)

/-- An ENGAGED confirm input takes a level (R101). -/
def execEngagedConfirm (station : StationId) (level : Bool) (s : State) : Result :=
  .next (s.modStation station fun u => u.engagedConfirm level)

/-- A LIFTED confirm input takes a level (R101). -/
def execLiftedConfirm (station : StationId) (level : Bool) (s : State) : Result :=
  .next (s.modStation station fun u => u.liftedConfirm level)

/-- A station's stroke timer expires (R102). -/
def execStrokeTimerExpiry (station : StationId) (s : State) : Result := .next (strokeExpired station s)

/-- HW reaches a station's idle-lift point (R109); nothing changes while it has not (log 2). -/
def execIdleLiftPoint (station : StationId) (s : State) : Result := .next (idleLiftDue station s)

/-- A lane's drive fault input takes a level (R133). -/
def execDriveFaultInput (lane : LaneId) (level : Bool) (s : State) : Result := .next (driveFault lane level s)

/-- A temperature sample arrives at a zone (R140, R141). -/
def execTemperatureSample (zone : StationId) (sample : BitVec 16) (s : State) : Result :=
  .next (Machine.temperatureSample zone sample.toInt s)

/-- A zone's sensor fault input takes a level (R141). -/
def execSensorFaultInput (zone : StationId) (level : Bool) (s : State) : Result := .next (sensorFault zone level s)

/-- A zone's soak timer expires (R140). -/
def execSoakTimerExpiry (zone : StationId) (s : State) : Result := .next (soakExpired zone s)

/-- HW reaches the wake threshold (R149). -/
def execWakeThreshold (s : State) : Result := .next (Machine.wakeThreshold s)

end Sys2Proof.Machine
end

