-- ==== Sys2Proof/Machine/Dispatch.lean ====
section
/-! DEFINITION. Each command and its meaning: one arm per constructor of `Instr`. -/

namespace Sys2Proof.Machine

/-- The effect of a command on everything but the queue of waiting commands. -/
def exec (i : Instr) (s : State) : Host.Outcome State Fault Refusal :=
  match i with
  | .identify tag payload => Sys2Proof.Machine.execIdentify tag payload s
  | .reset tag payload => Sys2Proof.Machine.execReset tag payload s
  | .setMode tag payload => Sys2Proof.Machine.execSetMode tag payload s
  | .readStatus tag payload => Sys2Proof.Machine.execReadStatus tag payload s
  | .setSource tag payload => Sys2Proof.Machine.execSetSource tag payload s
  | .setupEntry tag payload => Sys2Proof.Machine.execSetupEntry tag payload s
  | .setupStation tag payload => Sys2Proof.Machine.execSetupStation tag payload s
  | .tuneRegister tag payload => Sys2Proof.Machine.execTuneRegister tag payload s
  | .setTrim tag payload => Sys2Proof.Machine.execSetTrim tag payload s
  | .nudgeTrim tag payload => Sys2Proof.Machine.execNudgeTrim tag payload s
  | .setupHeat tag payload => Sys2Proof.Machine.execSetupHeat tag payload s
  | .setupLane tag payload => Sys2Proof.Machine.execSetupLane tag payload s
  | .loadSpool tag payload => Sys2Proof.Machine.execLoadSpool tag payload s
  | .pause tag payload => Sys2Proof.Machine.execPause tag payload s
  | .resume tag payload => Sys2Proof.Machine.execResume tag payload s
  | .clearFault tag payload => Sys2Proof.Machine.execClearFault tag payload s
  | .defineMotif tag payload => Sys2Proof.Machine.execDefineMotif tag payload s
  | .clearMotif tag payload => Sys2Proof.Machine.execClearMotif tag payload s
  | .readMotif tag payload => Sys2Proof.Machine.execReadMotif tag payload s
  | .loadPlan tag payload => Sys2Proof.Machine.execLoadPlan tag payload s
  | .commitPlan tag payload => Sys2Proof.Machine.execCommitPlan tag payload s
  | .dropPlan tag payload => Sys2Proof.Machine.execDropPlan tag payload s
  | .endJob tag payload => Sys2Proof.Machine.execEndJob tag payload s
  | .extendBatch tag payload => Sys2Proof.Machine.execExtendBatch tag payload s
  | .readStation tag payload => Sys2Proof.Machine.execReadStation tag payload s
  | .readLane tag payload => Sys2Proof.Machine.execReadLane tag payload s
  | .readQueue tag payload => Sys2Proof.Machine.execReadQueue tag payload s
  | .readTrace tag payload => Sys2Proof.Machine.execReadTrace tag payload s
  | .setEventMask tag payload => Sys2Proof.Machine.execSetEventMask tag payload s
  | .readEvents tag payload => Sys2Proof.Machine.execReadEvents tag payload s
  | .clearEvents tag payload => Sys2Proof.Machine.execClearEvents tag payload s
  | .unknownKindRequest kind tag payload => Sys2Proof.Machine.execUnknownKindRequest kind tag payload s
  | .octetReceived octet => Sys2Proof.Machine.execOctetReceived octet s
  | .missingStopBit => Sys2Proof.Machine.execMissingStopBit s
  | .gapTimerExpiry => Sys2Proof.Machine.execGapTimerExpiry s
  | .frameSent => Sys2Proof.Machine.execFrameSent s
  | .hardwareReset strap1 strap0 => Sys2Proof.Machine.execHardwareReset strap1 strap0 s
  | .powerOnReset strap1 strap0 => Sys2Proof.Machine.execPowerOnReset strap1 strap0 s
  | .sourceCount source levelA levelB => Sys2Proof.Machine.execSourceCount source levelA levelB s
  | .sourceFaultInputAsserted source => Sys2Proof.Machine.execSourceFaultInputAsserted source s
  | .sourceFaultInputClears source => Sys2Proof.Machine.execSourceFaultInputClears source s
  | .motionTimerExpiry source => Sys2Proof.Machine.execMotionTimerExpiry source s
  | .speedSampleTimerExpiry => Sys2Proof.Machine.execSpeedSampleTimerExpiry s
  | .markLeadingEdge channel => Sys2Proof.Machine.execMarkLeadingEdge channel s
  | .markTrailingEdge channel => Sys2Proof.Machine.execMarkTrailingEdge channel s
  | .overwidthThreshold channel => Sys2Proof.Machine.execOverwidthThreshold channel s
  | .entryWindowExpiry => Sys2Proof.Machine.execEntryWindowExpiry s
  | .spliceEdge leading => Sys2Proof.Machine.execSpliceEdge leading s
  | .spliceZoneRemoval => Sys2Proof.Machine.execSpliceZoneRemoval s
  | .stationWindowExpiry => Sys2Proof.Machine.execStationWindowExpiry s
  | .strikePoint => Sys2Proof.Machine.execStrikePoint s
  | .dieGate station index => Sys2Proof.Machine.execDieGate station index s
  | .waitingMarkExpiry station => Sys2Proof.Machine.execWaitingMarkExpiry station s
  | .unpairedGateExpiry station => Sys2Proof.Machine.execUnpairedGateExpiry station s
  | .engagedConfirm station level => Sys2Proof.Machine.execEngagedConfirm station level s
  | .liftedConfirm station level => Sys2Proof.Machine.execLiftedConfirm station level s
  | .strokeTimerExpiry station => Sys2Proof.Machine.execStrokeTimerExpiry station s
  | .idleLiftPoint station => Sys2Proof.Machine.execIdleLiftPoint station s
  | .driveFaultInput lane level => Sys2Proof.Machine.execDriveFaultInput lane level s
  | .temperatureSample zone sample => Sys2Proof.Machine.execTemperatureSample zone sample s
  | .sensorFaultInput zone level => Sys2Proof.Machine.execSensorFaultInput zone level s
  | .soakTimerExpiry zone => Sys2Proof.Machine.execSoakTimerExpiry zone s
  | .wakeThreshold => Sys2Proof.Machine.execWakeThreshold s

end Sys2Proof.Machine
end

