-- ==== Sys2Proof/WellFormed.lean ====
section
/-! DEFINITION. Which commands are well formed: a request's payload fits a frame (R173), and a kind that names no
request names none of the 31 (R190). The values of a payload are judged by the request's own meaning (R177). -/

namespace Sys2Proof

/-- The payload fits a frame (R173). -/
def payloadFits (payload : List Octet) : Bool := decide (payload.length ≤ Config.maxPayload)

/-- The check of a command. -/
def Instr.wellFormed : Instr → Bool
  | .identify _ payload => payloadFits payload
  | .reset _ payload => payloadFits payload
  | .setMode _ payload => payloadFits payload
  | .readStatus _ payload => payloadFits payload
  | .setSource _ payload => payloadFits payload
  | .setupEntry _ payload => payloadFits payload
  | .setupStation _ payload => payloadFits payload
  | .tuneRegister _ payload => payloadFits payload
  | .setTrim _ payload => payloadFits payload
  | .nudgeTrim _ payload => payloadFits payload
  | .setupHeat _ payload => payloadFits payload
  | .setupLane _ payload => payloadFits payload
  | .loadSpool _ payload => payloadFits payload
  | .pause _ payload => payloadFits payload
  | .resume _ payload => payloadFits payload
  | .clearFault _ payload => payloadFits payload
  | .defineMotif _ payload => payloadFits payload
  | .clearMotif _ payload => payloadFits payload
  | .readMotif _ payload => payloadFits payload
  | .loadPlan _ payload => payloadFits payload
  | .commitPlan _ payload => payloadFits payload
  | .dropPlan _ payload => payloadFits payload
  | .endJob _ payload => payloadFits payload
  | .extendBatch _ payload => payloadFits payload
  | .readStation _ payload => payloadFits payload
  | .readLane _ payload => payloadFits payload
  | .readQueue _ payload => payloadFits payload
  | .readTrace _ payload => payloadFits payload
  | .setEventMask _ payload => payloadFits payload
  | .readEvents _ payload => payloadFits payload
  | .clearEvents _ payload => payloadFits payload
  | .unknownKindRequest kind _ payload => payloadFits payload && (ReqKind.ofOctet kind).isNone
  | .octetReceived _ => true
  | .missingStopBit => true
  | .gapTimerExpiry => true
  | .frameSent => true
  | .hardwareReset _ _ => true
  | .powerOnReset _ _ => true
  | .sourceCount _ _ _ => true
  | .sourceFaultInputAsserted _ => true
  | .sourceFaultInputClears _ => true
  | .motionTimerExpiry _ => true
  | .speedSampleTimerExpiry => true
  | .markLeadingEdge _ => true
  | .markTrailingEdge _ => true
  | .overwidthThreshold _ => true
  | .entryWindowExpiry => true
  | .spliceEdge _ => true
  | .spliceZoneRemoval => true
  | .stationWindowExpiry => true
  | .strikePoint => true
  | .dieGate _ _ => true
  | .waitingMarkExpiry _ => true
  | .unpairedGateExpiry _ => true
  | .engagedConfirm _ _ => true
  | .liftedConfirm _ _ => true
  | .strokeTimerExpiry _ => true
  | .idleLiftPoint _ => true
  | .driveFaultInput _ _ => true
  | .temperatureSample _ _ => true
  | .sensorFaultInput _ _ => true
  | .soakTimerExpiry _ => true
  | .wakeThreshold => true

/-- The frame of a request command; the other commands come without one (R173, R190). -/
def Instr.frame? : Instr → Option Machine.Frame
  | .identify tag payload => some { kind := BitVec.ofNat 8 (ReqKind.code .identify), tag, payload }
  | .reset tag payload => some { kind := BitVec.ofNat 8 (ReqKind.code .reset), tag, payload }
  | .setMode tag payload => some { kind := BitVec.ofNat 8 (ReqKind.code .setMode), tag, payload }
  | .readStatus tag payload => some { kind := BitVec.ofNat 8 (ReqKind.code .readStatus), tag, payload }
  | .setSource tag payload => some { kind := BitVec.ofNat 8 (ReqKind.code .setSource), tag, payload }
  | .setupEntry tag payload => some { kind := BitVec.ofNat 8 (ReqKind.code .setupEntry), tag, payload }
  | .setupStation tag payload => some { kind := BitVec.ofNat 8 (ReqKind.code .setupStation), tag, payload }
  | .tuneRegister tag payload => some { kind := BitVec.ofNat 8 (ReqKind.code .tuneRegister), tag, payload }
  | .setTrim tag payload => some { kind := BitVec.ofNat 8 (ReqKind.code .setTrim), tag, payload }
  | .nudgeTrim tag payload => some { kind := BitVec.ofNat 8 (ReqKind.code .nudgeTrim), tag, payload }
  | .setupHeat tag payload => some { kind := BitVec.ofNat 8 (ReqKind.code .setupHeat), tag, payload }
  | .setupLane tag payload => some { kind := BitVec.ofNat 8 (ReqKind.code .setupLane), tag, payload }
  | .loadSpool tag payload => some { kind := BitVec.ofNat 8 (ReqKind.code .loadSpool), tag, payload }
  | .pause tag payload => some { kind := BitVec.ofNat 8 (ReqKind.code .pause), tag, payload }
  | .resume tag payload => some { kind := BitVec.ofNat 8 (ReqKind.code .resume), tag, payload }
  | .clearFault tag payload => some { kind := BitVec.ofNat 8 (ReqKind.code .clearFault), tag, payload }
  | .defineMotif tag payload => some { kind := BitVec.ofNat 8 (ReqKind.code .defineMotif), tag, payload }
  | .clearMotif tag payload => some { kind := BitVec.ofNat 8 (ReqKind.code .clearMotif), tag, payload }
  | .readMotif tag payload => some { kind := BitVec.ofNat 8 (ReqKind.code .readMotif), tag, payload }
  | .loadPlan tag payload => some { kind := BitVec.ofNat 8 (ReqKind.code .loadPlan), tag, payload }
  | .commitPlan tag payload => some { kind := BitVec.ofNat 8 (ReqKind.code .commitPlan), tag, payload }
  | .dropPlan tag payload => some { kind := BitVec.ofNat 8 (ReqKind.code .dropPlan), tag, payload }
  | .endJob tag payload => some { kind := BitVec.ofNat 8 (ReqKind.code .endJob), tag, payload }
  | .extendBatch tag payload => some { kind := BitVec.ofNat 8 (ReqKind.code .extendBatch), tag, payload }
  | .readStation tag payload => some { kind := BitVec.ofNat 8 (ReqKind.code .readStation), tag, payload }
  | .readLane tag payload => some { kind := BitVec.ofNat 8 (ReqKind.code .readLane), tag, payload }
  | .readQueue tag payload => some { kind := BitVec.ofNat 8 (ReqKind.code .readQueue), tag, payload }
  | .readTrace tag payload => some { kind := BitVec.ofNat 8 (ReqKind.code .readTrace), tag, payload }
  | .setEventMask tag payload => some { kind := BitVec.ofNat 8 (ReqKind.code .setEventMask), tag, payload }
  | .readEvents tag payload => some { kind := BitVec.ofNat 8 (ReqKind.code .readEvents), tag, payload }
  | .clearEvents tag payload => some { kind := BitVec.ofNat 8 (ReqKind.code .clearEvents), tag, payload }
  | .unknownKindRequest kind tag payload => some { kind, tag, payload }
  | .octetReceived _ => none
  | .missingStopBit => none
  | .gapTimerExpiry => none
  | .frameSent => none
  | .hardwareReset _ _ => none
  | .powerOnReset _ _ => none
  | .sourceCount _ _ _ => none
  | .sourceFaultInputAsserted _ => none
  | .sourceFaultInputClears _ => none
  | .motionTimerExpiry _ => none
  | .speedSampleTimerExpiry => none
  | .markLeadingEdge _ => none
  | .markTrailingEdge _ => none
  | .overwidthThreshold _ => none
  | .entryWindowExpiry => none
  | .spliceEdge _ => none
  | .spliceZoneRemoval => none
  | .stationWindowExpiry => none
  | .strikePoint => none
  | .dieGate _ _ => none
  | .waitingMarkExpiry _ => none
  | .unpairedGateExpiry _ => none
  | .engagedConfirm _ _ => none
  | .liftedConfirm _ _ => none
  | .strokeTimerExpiry _ => none
  | .idleLiftPoint _ => none
  | .driveFaultInput _ _ => none
  | .temperatureSample _ _ => none
  | .sensorFaultInput _ _ => none
  | .soakTimerExpiry _ => none
  | .wakeThreshold => none

end Sys2Proof
end

