-- ==== Sys2Proof/Safety.lean ====
section
/-! DEFINITION. The words in which statements about the part are made: a link at rest, a reply sent, an event raised, and
the laws of the device that every state of a run keeps. -/

namespace Sys2Proof.Machine

/-! ### The link at rest, replies and raises -/

/-- Neither the dispatcher nor the transmitter has anything to do: no reply waits, no frame waits, no RESET has been
accepted, and the transmitter is sending or has nothing due (R177, R179). -/
def State.atRest (s : State) : Bool :=
  s.link.slot.isNone && s.link.rxQueue.isEmpty && !s.link.resetPending &&
  (s.link.tx.isSome || s.events.due.isEmpty)

/-- A reply frame is placed in the reply slot, from which an idle transmitter starts it (R177, R179). -/
def State.answered (s : State) (kind tag : Octet) (payload : List Octet) : State :=
  txChoose { s with link := { s.link with slot := some { kind, tag, payload, resets := false } } }

/-- The reply to a request of kind `k`: the request's kind + 0x80, and its tag (R177). -/
def State.replied (s : State) (k : ReqKind) (tag : Octet) (payload : List Octet) : State :=
  s.answered (BitVec.ofNat 8 k.code + 0x80) tag payload

/-- The event set after a raise, but for a notice that an idle transmitter starts at once (R180). -/
def EventSet.raised (e : EventSet) (k : EventKind) (unit detail : Nat) (web : Pos) : EventSet :=
  { e with
    records := e.records.set k.index { unit, detail, web }
    flags := e.flags ||| k.bit
    due := if k.isIn e.flags || !k.isIn e.mask then e.due else e.due ++ [k] }

/-- The `n` octets of a payload from an offset on, as the tables of chapter 10 name its fields. -/
def field (payload : List Octet) (offset n : Nat) : List Octet := (payload.drop offset).take n

/-! ### The laws of the device -/

/-- The stores hold no more than their capacities (R24, R42, R176, R186). -/
structure State.Capacities (s : State) : Prop where
  queue : s.queue.length ≤ Config.queueCapacity
  trace : s.trace.entries.length ≤ Config.traceCapacity
  received : s.link.rxQueue.length ≤ Config.rxCapacity
  zones : s.zones.length ≤ Config.zoneCapacity

/-- The live records carry the last sequence numbers given, in order (R40, R42). -/
def State.Numbered (s : State) : Prop :=
  ∀ j r, s.queue[j]? = some r → r.seq = s.tracker.seqCounter - BitVec.ofNat 16 (s.queue.length - j)

/-- The notice-due list holds each kind at most once, and only kinds pending and masked in (R181, R183, R184). -/
structure EventSet.Consistent (e : EventSet) : Prop where
  once : e.due.Nodup
  pending : ∀ k ∈ e.due, k.isIn e.flags = true
  maskedIn : ∀ k ∈ e.due, k.isIn e.mask = true

/-- A lane's state agrees with its station and its last feed (R115). -/
structure Lane.Agrees (l : Lane) : Prop where
  assigned : l.station = none ↔ l.state = .unassigned
  lastFeed : l.lastFeed.isSome = true ↔ l.state = .active

/-- The tracker is LOCKED exactly while it has an entry window (R27, R29). -/
def Tracker.Windowed (t : Tracker) : Prop := t.state = .locked ↔ t.window.isSome = true

/-- A station's trim lies within its limit (R67). -/
def Station.TrimLaw (u : Station) : Prop := u.loop.trim.natAbs ≤ u.loop.tuning.trimLimit

/-- A zone is OFF exactly while it is disabled, its soak timer runs exactly in SOAKING, and its heater is off in OFF and
in FAULT (R138 to R141). -/
structure HeatZone.Regular (z : HeatZone) : Prop where
  off : z.state = .off ↔ z.enabled = false
  soak : z.soakTimer.isSome = true ↔ z.state = .soaking
  heater : z.state = .off ∨ z.state = .fault → z.heater = false

/-- An enabled station holds IDLE exactly outside RUN, and THERMAL exactly while its zone is enabled and neither READY
nor in FAULT (R95). -/
structure Station.SoftCauses (u : Station) (mode : PressMode) : Prop where
  idle : u.setup.enabled = true → (u.hold.idle = true ↔ mode ≠ .run)
  thermal : u.setup.enabled = true →
    (u.hold.thermal = true ↔ u.zone.enabled = true ∧ u.zone.state ≠ .ready ∧ u.zone.state ≠ .fault)

/-- A station's actuator, its valve and its stroke timer agree (R101, R102). -/
structure Station.Strokes (u : Station) : Prop where
  timer : u.stroke.isSome = true ↔ u.actuator = .engaging ∨ u.actuator = .lifting
  valve : u.valve = .engage ↔ u.actuator = .engaging ∨ u.actuator = .engaged

/-- A disabled station's hold set is empty (R94). -/
def Station.HoldLaw (u : Station) : Prop := u.setup.enabled = false → u.hold = HoldSet.empty

end Sys2Proof.Machine
end

