-- ==== Sys2Proof/Certificates/Slice0/Obligations.lean ====
section
/-! DEFINITION. The statements for the provers: what the spec's rules say that the part does. -/

open Sys2Proof Sys2Proof.Machine

/-! ### The step -/

/-- O1. A step takes the command at the front of the queue and runs it with the queue's rest. -/
def Obligations.StepTakesFrontCommand : Prop :=
  ∀ (s : State) (c : Instr) (rest : List Instr), s.pending = c :: rest →
    step s = exec c { s with pending := rest }

/-- O2. On an empty queue one millisecond passes (the model's choice, log 3): an idle transmitter starts what is due,
each running timer is one lower, and nothing else in the part moves; then the timers that have run out expire, each as
its own command does, in the order motion timers of LINE and WHEEL, speed sample, gap timer, stroke timers of stations
1 to 4, soak timers of zones 1 to 4. -/
def Obligations.EmptyQueueStepIsOneMillisecond : Prop :=
  ∀ s : State, s.pending = [] →
    let lower (n : Option Nat) : Option Nat := n.map (· - 1)
    let source (x : SourceUnit) : SourceUnit := { x with motion := lower x.motion }
    let t := txChoose s
    let u : State := { t with
      ref := { s.ref with line := source s.ref.line, wheel := source s.ref.wheel, sampleTimer := s.ref.sampleTimer - 1 }
      stations := s.stations.map fun x => { x with
        stroke := lower x.stroke, zone := { x.zone with soakTimer := lower x.zone.soakTimer } }
      link := { t.link with gap := lower s.link.gap } }
    let out : List Instr :=
      ([Source.line, .wheel].filter fun x => (u.ref.source x).motion == some 0).map Instr.motionTimerExpiry ++
      (if u.ref.sampleTimer = 0 then [Instr.speedSampleTimerExpiry] else []) ++
      (if u.link.gap = some 0 then [Instr.gapTimerExpiry] else []) ++
      (allStations.filter fun st => (u.station st).stroke == some 0).map Instr.strokeTimerExpiry ++
      (allStations.filter fun st => (u.station st).zone.soakTimer == some 0).map Instr.soakTimerExpiry
    (out = [] → step s = .next u) ∧
    step s = Host.Core.run core out.length { u with pending := out }

/-- O3. Every command answers a next state, and leaves the commands that wait as they are. -/
def Obligations.EveryCommandCompletesAndKeepsTheQueue : Prop :=
  ∀ (i : Instr) (s : State), ∃ t, exec i s = .next t ∧ t.pending = s.pending

/-! ### Requests: kinds, lengths, refusals -/

/-- O4. The 31 kind octets that name a request, and no other (R190). -/
def Obligations.KindOctetsAccepted : Prop :=
  ∀ kind : Octet, (ReqKind.ofOctet kind).isSome = true ↔
    (0x01 ≤ kind.toNat ∧ kind.toNat ≤ 0x04) ∨ (0x10 ≤ kind.toNat ∧ kind.toNat ≤ 0x1B) ∨
    (0x20 ≤ kind.toNat ∧ kind.toNat ≤ 0x26) ∨ (0x30 ≤ kind.toNat ∧ kind.toNat ≤ 0x34) ∨
    (0x38 ≤ kind.toNat ∧ kind.toNat ≤ 0x3A)

/-- O5. On a link at rest a frame of a kind that names no request gets the one-octet reply UNKNOWN_KIND, of kind +
0x80 with its tag, and nothing else changes (R190, R177, R178). -/
def Obligations.UnknownKindAnswered : Prop :=
  ∀ (s : State) (kind tag : Octet) (p : List Octet), s.atRest = true → ReqKind.ofOctet kind = none →
    exec (.unknownKindRequest kind tag p) s = .next (s.answered (kind + 0x80) tag [0x03])

/-- The payload's length does not fit the request (R191): the fixed lengths of section 10.4, LOAD PLAN's computed one,
and DEFINE MOTIF's six lane groups, which must end where the payload ends. -/
def lengthUnfit (k : ReqKind) (p : List Octet) : Prop :=
  match k with
  | .loadPlan => p.length < 7 ∨ p.length ≠ 7 + 3 * u8 p 6
  | .defineMotif => p.length < 2 ∨ readGroups 6 (p.drop 2) = none
  | k => k.fixedLength ≠ some p.length

/-- O6. On a link at rest a request whose payload length does not fit its kind gets the one-octet reply BAD_LENGTH,
and nothing else changes (R191, R193). -/
def Obligations.BadLengthAnswered : Prop :=
  ∀ (s : State) (i : Instr) (f : Frame) (k : ReqKind), s.atRest = true → i.frame? = some f →
    ReqKind.ofOctet f.kind = some k → lengthUnfit k f.payload →
    exec i s = .next (s.answered (f.kind + 0x80) f.tag [0x02])

/-- The status a reply carries is a refusal: any but OK and CLAMPED (R178). -/
def refusal (q : List Octet) : Prop := q.head? ≠ some 0x00 ∧ q.head? ≠ some 0x01

/-- O7. On a link at rest every request is answered in its own event: its reply, of kind + 0x80 with its tag, takes
the reply slot, and a refused request changes nothing else in the part. The reply of a refused request is one octet,
but for COMMIT PLAN's three and CLEAR FAULT's thirteen (R177, R178, R193). -/
def Obligations.RefusedRequestsChangeNothing : Prop :=
  ∀ (s : State) (i : Instr) (f : Frame), s.atRest = true → i.frame? = some f →
    ∃ q t, exec i s = .next (txChoose { t with link := { t.link with
        slot := some { kind := f.kind + 0x80, tag := f.tag, payload := q, resets := t.link.resetPending } } }) ∧
      q ≠ [] ∧
      (refusal q → t = s ∧
        (q.length = 1 ∨ (f.kind = 0x23 ∧ q.length = 3) ∨ (f.kind = 0x1B ∧ q.length = 13 ∧ q.head? = some 0x07)))

/-! ### The receiver (R174, R175) -/

/-- O8. The octets of a frame (R173), received one by one from HUNT on a link at rest, are the request whose frame
they are: what the receiver, the dispatcher and the transmitter do is what the request's command does. -/
def Obligations.ReceivedOctetsAreTheRequest : Prop :=
  ∀ (s : State) (i : Instr) (f : Frame), s.atRest = true → s.link.held = [] → s.link.gap = none →
    i.wellFormed = true → i.frame? = some f →
    Host.Core.run core (frameOctets f.kind f.tag f.payload).length
        { s with pending := (frameOctets f.kind f.tag f.payload).map Instr.octetReceived } =
      exec i { s with pending := [] }

/-- O9. An octet at the receiver of a link at rest, by the receiver's state (R174, R175): in HUNT, in LENGTH, in BODY
or CRC before the frame's last octet, and the last octet of a frame whose CRC is wrong. The bad CRC is counted and the
octets after the false start are taken again: with no start octet among them the receiver hunts, with one whose frame
they leave incomplete that candidate is held and its gap timer runs, and a good frame among them is the request it is. -/
def Obligations.ReceiverTakesOctets : Prop :=
  ∀ (s : State) (o : Octet), s.atRest = true →
    (s.link.held = [] → o = 0x7E →
      exec (.octetReceived o) s = .next { s with link := { s.link with held := [0x7E], gap := some 2 } }) ∧
    (s.link.held = [] → o ≠ 0x7E →
      exec (.octetReceived o) s = .next { s with link := { s.link with gap := none } }) ∧
    (s.link.held = [0x7E] → 2 ≤ o.toNat → o.toNat ≤ 250 →
      exec (.octetReceived o) s = .next { s with link := { s.link with held := [0x7E, o], gap := some 2 } }) ∧
    (s.link.held = [0x7E] → o.toNat < 2 ∨ 250 < o.toNat →
      exec (.octetReceived o) s =
        .next { s with link := { s.link with
          held := [], gap := none, badLength := min 65535 (s.link.badLength + 1) } }) ∧
    (∀ (l : Octet) (body : List Octet), s.link.held = 0x7E :: l :: body → 2 ≤ l.toNat → l.toNat ≤ 250 →
      (body.length + 1 < l.toNat + 2 →
        exec (.octetReceived o) s =
          .next { s with link := { s.link with held := s.link.held ++ [o], gap := some 2 } }) ∧
      (body.length + 1 = l.toNat + 2 →
        (body ++ [o]).drop l.toNat ≠ octets 2 (crc16 (l :: body.take l.toNat)).toNat →
        let again := l :: (body ++ [o])
        let hunting : State := { s with link := { s.link with
          held := [], gap := none, badCrc := min 65535 (s.link.badCrc + 1) } }
        (0x7E ∉ again → exec (.octetReceived o) s = .next hunting) ∧
        (∀ before after : List Octet, again = before ++ 0x7E :: after → 0x7E ∉ before →
          (∀ n rest, after = n :: rest → 2 ≤ n.toNat ∧ n.toNat ≤ 250 ∧ rest.length < n.toNat + 2) →
          exec (.octetReceived o) s =
            .next { hunting with link := { hunting.link with held := 0x7E :: after, gap := some 2 } }) ∧
        (∀ (i : Instr) (f : Frame) (before after : List Octet), i.wellFormed = true → i.frame? = some f →
          again = before ++ frameOctets f.kind f.tag f.payload ++ after → 0x7E ∉ before → 0x7E ∉ after →
          exec (.octetReceived o) s = exec i hunting)))

/-- O10. The gap timer's expiry, and a character without its stop bit, abandon the candidate frame. In HUNT the
character is ignored (R174), and the expiry, whose timer does not run there, changes nothing (the model's choice, log
20). -/
def Obligations.CandidateAbandoned : Prop :=
  ∀ (s : State) (i : Instr), i = .gapTimerExpiry ∨ i = .missingStopBit →
    (s.link.held = [] → exec i s = .next s) ∧
    (s.link.held ≠ [] →
      exec i s = .next { s with link := { s.link with
        held := [], gap := none, abandoned := min 65535 (s.link.abandoned + 1) } })

/-- O11. A good frame found while the reply slot is taken and a frame is being sent joins the receive queue; while
that holds 2 frames it is lost: the overrun count rises, the first lost frame is kept with the LINK_OVERRUN flag, and
nothing is answered (R176, R177). -/
def Obligations.WaitingFrameIsQueuedOrLost : Prop :=
  ∀ (s : State) (i : Instr) (f : Frame), i.frame? = some f → s.link.slot.isSome = true → s.link.tx.isSome = true →
    (s.link.rxQueue.length < 2 →
      exec i s = .next { s with link := { s.link with rxQueue := s.link.rxQueue ++ [f] } }) ∧
    (2 ≤ s.link.rxQueue.length →
      exec i s = .next { s with link := { s.link with
        overruns := min 65535 (s.link.overruns + 1), overrun := true,
        lostKind := if s.link.overrun then s.link.lostKind else f.kind,
        lostTag := if s.link.overrun then s.link.lostTag else f.tag } })

/-! ### The transmitter and the events (R179 to R185) -/

/-- O12. At the end of a frame that is no reply to RESET, the transmitter sends the reply if one is due, and the
dispatcher then answers the request that waits; with no request waiting it sends the reply, otherwise the notice of
the kind first in the notice-due list with its latest-raise record, and otherwise it is idle (R179, R177, R181, R194). -/
def Obligations.FrameSentChoosesTheNextFrame : Prop :=
  ∀ (s : State) (f : OutFrame), s.link.tx = some f → f.resets = false →
    (∀ (r : OutFrame) (i : Instr) (g : Frame), s.link.slot = some r → s.link.rxQueue = [g] → i.frame? = some g →
      s.link.resetPending = false →
      exec .frameSent s = exec i { s with link := { s.link with tx := some r, slot := none, rxQueue := [] } }) ∧
    (∀ r, s.link.slot = some r → s.link.rxQueue = [] →
      exec .frameSent s = .next { s with link := { s.link with tx := some r, slot := none } }) ∧
    (∀ k ks, s.link.slot = none → s.events.due = k :: ks → s.link.rxQueue = [] →
      exec .frameSent s = .next { s with
        link := { s.link with tx := some (OutFrame.mk 0xFF 0x00
          (octets 1 k.index.val ++ octets 1 (s.events.record k).unit ++
            octets 4 (s.events.record k).web.toNat ++ octets 2 (s.events.record k).detail) false) }
        events := { s.events with due := ks } }) ∧
    (s.link.slot = none → s.events.due = [] → s.link.rxQueue = [] →
      exec .frameSent s = .next { s with link := { s.link with tx := none } })

/-- O13. A raise while a frame is being sent writes the kind's latest-raise record with the web counter; a kind not
pending becomes pending and, when masked in, joins the tail of the notice-due list; nothing else changes (R180). ATTN
is active exactly while some kind is pending and masked in (R182). -/
def Obligations.RaiseWritesRecordFlagAndNotice : Prop :=
  ∀ (s : State) (k : EventKind) (unit detail : Nat), s.link.tx.isSome = true →
    (k.isIn s.events.flags = true →
      raiseEvent k unit detail s = { s with events := { s.events with
        records := s.events.records.set k.index { unit, detail, web := s.web } } }) ∧
    (k.isIn s.events.flags = false → k.isIn s.events.mask = true →
      ∃ flags, raiseEvent k unit detail s = { s with events := { s.events with
          records := s.events.records.set k.index { unit, detail, web := s.web },
          flags := flags, due := s.events.due ++ [k] } } ∧
        ∀ j : EventKind, j.isIn flags = (j.isIn s.events.flags || j == k)) ∧
    (k.isIn s.events.flags = false → k.isIn s.events.mask = false →
      ∃ flags, raiseEvent k unit detail s = { s with events := { s.events with
          records := s.events.records.set k.index { unit, detail, web := s.web }, flags := flags } } ∧
        ∀ j : EventKind, j.isIn flags = (j.isIn s.events.flags || j == k)) ∧
    (s.events.attn = true ↔ ∃ j : EventKind, j.isIn s.events.flags = true ∧ j.isIn s.events.mask = true)

/-- O14. SET EVENT MASK and CLEAR EVENTS on a link at rest (R183, R184): the mask is replaced, or the pending flags of
the kinds named are cleared; the kinds masked out or cleared leave the notice-due list; flags or mask, and the
records, are kept; a set that names a kind above 23 is refused with BAD_VALUE. After reset every kind is masked in. -/
def Obligations.MaskAndClearEvents : Prop :=
  State.reset.events.mask = BitVec.allOnes 24 ∧
  ∀ (s : State) (tag a b c d : Octet), s.atRest = true →
    (d = 0x00 →
      ∃ m : BitVec 24, m.toNat = u32 [a, b, c, d] 0 ∧
        exec (.setEventMask tag [a, b, c, d]) s = .next (({ s with events := { s.events with
            mask := m, due := s.events.due.filter fun k => k.isIn m } } : State).replied .setEventMask tag
          [0x00, a, b, c, 0x00]) ∧
        exec (.clearEvents tag [a, b, c, d]) s = .next (({ s with events := { s.events with
            flags := s.events.flags &&& ~~~m,
            due := s.events.due.filter fun k => !k.isIn m } } : State).replied .clearEvents tag
          (0x00 :: octets 4 (s.events.flags &&& ~~~m).toNat))) ∧
    (d ≠ 0x00 →
      exec (.setEventMask tag [a, b, c, d]) s = .next (s.replied .setEventMask tag [0x04]) ∧
      exec (.clearEvents tag [a, b, c, d]) s = .next (s.replied .clearEvents tag [0x04]))

/-- O15. A trace entry written (R186): it joins the tail while fewer than 64 are held, TRACE_WATERMARK being raised
with the depth when that reaches the watermark; with 64 held it is dropped, the dropped count rises and TRACE_OVERFLOW
is raised with the entry's station. -/
def Obligations.TraceEntryIsQueuedOrDropped : Prop :=
  ∀ (s : State) (e : TraceEntry),
    (s.trace.entries.length < 64 →
      let t : State := { s with trace := { s.trace with entries := s.trace.entries ++ [e] } }
      writeTrace e s = if s.trace.watermark ≤ s.trace.entries.length + 1
        then raiseEvent .traceWatermark 0 (s.trace.entries.length + 1) t else t) ∧
    (64 ≤ s.trace.entries.length →
      let dropped := min 65535 (s.trace.dropped + 1)
      writeTrace e s = raiseEvent .traceOverflow e.station.number dropped
        { s with trace := { s.trace with dropped := dropped } })

/-! ### Readouts (R63, R88, R136, R185, R187, R188) -/

/-- O16. IDENTIFY returns the part code 0x0410, the revision 0x01, the line rate in use and the capacities. READ
STATUS returns 68 octets with the fields of its table as they stand, and with the clear option set the link's counts
and the LINK_OVERRUN flag with its first lost frame are cleared, and nothing else (R188). -/
def Obligations.IdentifyAndReadStatus : Prop :=
  ∀ (s : State) (tag clear : Octet), s.atRest = true →
    exec (.identify tag []) s = .next (s.replied .identify tag
      [0x00, 0x10, 0x04, 0x01, s.link.rate.setWidth 8, 0x00, 0x01, 0x10, 0x04, 0x06, 0x40]) ∧
    ∃ q, exec (.readStatus tag [clear]) s = .next
        (({ s with link := if clear = 0x00 then s.link else { s.link with
          abandoned := 0, badLength := 0, badCrc := 0, overrun := false, lostKind := 0x00, lostTag := 0x00,
          overruns := 0 } } : State).replied .readStatus tag q) ∧
      q.length = 68 ∧ field q 0 1 = [0x00] ∧ field q 1 1 = octets 1 s.mode.code ∧
      field q 2 2 = octets 1 s.job.state.code ++ octets 1 (endReasonCode s.job.endReason) ∧
      field q 4 1 = octets 1 (placeId s.job.active) ∧ field q 5 4 = octets 4 s.job.target ∧
      field q 9 4 = octets 4 s.job.admitted ∧ field q 13 2 = octets 2 s.job.activeLive ∧
      field q 15 2 = octets 1 s.job.buffer.code ++ octets 1 (placeId s.job.buffer.plan) ∧
      field q 17 3 = octets 1 (placeId s.job.draining) ++ octets 2 s.job.drainingLive ∧
      field q 20 1 = octets 1 s.ref.selected.code ∧
      field q 21 4 = [if s.ref.line.state = .off then 0 else 1] ++ octets 1 s.ref.line.state.code ++
        [if s.ref.wheel.state = .off then 0 else 1] ++ octets 1 s.ref.wheel.state.code ∧
      field q 25 8 = octets 4 s.web.toNat ++ octets 4 s.ref.hw.toNat ∧
      field q 33 4 = octets 2 s.ref.speed ++ octets 2 s.ref.rewound ∧
      field q 37 5 = octets 2 s.m0.rejected ++ octets 2 s.m0.stray ++ octets 1 s.zones.length ∧
      field q 42 2 = octets 1 s.tracker.state.code ++ octets 1 s.tracker.cursor ∧
      field q 44 4 = (match s.tracker.window with | some w => octets 4 w.expected.toNat | none => octets 4 0) ∧
      field q 48 5 = octets 1 s.tracker.missRun ++ octets 2 s.tracker.seqCounter.toNat ++ octets 2 s.queue.length ∧
      field q 53 1 = [if s.events.attn then 1 else 0] ∧
      field q 54 6 = octets 2 s.link.abandoned ++ octets 2 s.link.badLength ++ octets 2 s.link.badCrc ∧
      field q 60 5 = [if s.link.overrun then 1 else 0, s.link.lostKind, s.link.lostTag] ++
        octets 2 s.link.overruns ∧
      field q 65 3 = octets 1 s.trace.entries.length ++ octets 2 s.trace.dropped

/-- O17. READ EVENTS returns the 24 pending flags, the mask and the 24 latest-raise records, and changes nothing
(R185). -/
def Obligations.ReadEventsReply : Prop :=
  ∀ (s : State) (tag : Octet), s.atRest = true →
    ∃ q, exec (.readEvents tag []) s = .next (s.replied .readEvents tag q) ∧ q.length = 177 ∧
      field q 0 1 = [0x00] ∧ field q 1 4 = octets 4 s.events.flags.toNat ∧ field q 5 4 = octets 4 s.events.mask.toNat ∧
      ∀ k : EventKind, field q (9 + 7 * k.index.val) 7 = octets 1 (s.events.record k).unit ++
        octets 2 (s.events.record k).detail ++ octets 4 (s.events.record k).web.toNat

/-- O18. READ QUEUE: refused with BAD_VALUE when the number asked for lies outside 1 to 8; otherwise the reply carries
the live count, the start position, the number returned (the smallest of 3, the number asked for and the records from
the start position on) and those records, 73 octets each, the record part and the four visit summaries, one of an
absent visit all 0, and nothing changes (R63, R64, R196). -/
def Obligations.ReadQueueReply : Prop :=
  ∀ (s : State) (tag start n : Octet), s.atRest = true →
    (n.toNat < 1 ∨ 8 < n.toNat → exec (.readQueue tag [start, n]) s = .next (s.replied .readQueue tag [0x04])) ∧
    (1 ≤ n.toNat → n.toNat ≤ 8 →
      ∃ q, exec (.readQueue tag [start, n]) s = .next (s.replied .readQueue tag q) ∧
        field q 0 5 = [0x00] ++ octets 2 s.queue.length ++ [start] ++
          octets 1 (min (min 3 n.toNat) (s.queue.length - start.toNat)) ∧
        q.length = 5 + 73 * min (min 3 n.toNat) (s.queue.length - start.toNat) ∧
        ∀ j r, j < min 3 n.toNat → s.queue[start.toNat + j]? = some r →
          field q (5 + 73 * j) 13 = octets 2 r.seq.toNat ++ octets 1 r.plan ++ octets 1 r.slot ++ octets 1 r.motif ++
            octets 2 r.pitch ++ octets 4 r.entryPos.toNat ++ octets 1 r.origin.code ++
            octets 1 ((if r.splice then 1 else 0) + (if r.excess then 2 else 0) + (if r.cycleMark then 4 else 0)) ∧
          ∀ st : StationId,
            let summary := field q (5 + 73 * j + 13 + 15 * (st.number - 1)) 15
            (r.visit st = none → summary = List.replicate 15 0x00) ∧
            ∀ v, r.visit st = some v → v.outcome ≠ some .void →
              let decision := match v.decision with
                | none => 0 | some .strike => 1 | some (.skip _) => 2
              let reason := match v.decision with
                | some (.skip x) => x.code | _ => 0
              let outcome := match v.outcome with
                | some .struck => 1 | some .skipped => 2 | some .missed => 3 | some .marred => 4 | _ => 0
              field summary 0 1 = octets 1 (v.state.code + 4 * decision + 16 * outcome + 128) ∧
              field summary 1 1 = octets 1 (reason + 16 * v.feeds.length + if v.error.isSome then 64 else 0) ∧
              field summary 2 1 = octets 1 v.regFlags.bits ∧ field summary 3 4 = octets 4 v.expected.toNat ∧
              field summary 7 4 = (match v.strikePt with | some p => octets 4 p.toNat | none => List.replicate 4 0x00) ∧
              field summary 11 4 = (match v.error with | some e => signedOctets 4 e | none => List.replicate 4 0x00))

/-- O19. READ TRACE (R187): refused with BAD_VALUE for a number of entries outside 1 to 8; otherwise up to that many
entries leave the head and are returned, with the depth left, the dropped count and the watermark in force; the clear
option clears the dropped count, and a watermark given, clamped to 64, is taken and tested. After reset the queue is
empty, the dropped count 0 and the watermark 48. An entry's 21 octets are those of R195. A TRACE_WATERMARK that the
request raises on an idle line is sent ahead of its reply (the model's inference, log 17). -/
def Obligations.ReadTraceTakesEntries : Prop :=
  (State.reset.trace.entries = [] ∧ State.reset.trace.dropped = 0 ∧ State.reset.trace.watermark = 48) ∧
  ∀ (s : State) (tag n clear w : Octet), s.atRest = true →
    (n.toNat < 1 ∨ 8 < n.toNat → exec (.readTrace tag [n, clear, w]) s = .next (s.replied .readTrace tag [0x04])) ∧
    (1 ≤ n.toNat → n.toNat ≤ 8 →
      ∃ q t, exec (.readTrace tag [n, clear, w]) s = .next (t.replied .readTrace tag q) ∧
        field q 0 1 = [if 64 < w.toNat then 0x01 else 0x00] ∧
        field q 1 5 = octets 1 (min n.toNat s.trace.entries.length) ++
          octets 1 (s.trace.entries.length - min n.toNat s.trace.entries.length) ++ octets 2 s.trace.dropped ++
          octets 1 (if w = 0x00 then s.trace.watermark else min 64 w.toNat) ∧
        q.length = 6 + 21 * min n.toNat s.trace.entries.length ∧
        (∀ j e, j < n.toNat → s.trace.entries[j]? = some e →
          let x := field q (6 + 21 * j) 21
          let outcome := match e.outcome with
            | .struck => 1 | .skipped => 2 | .missed => 3 | .marred => 4 | .void => 0
          field x 0 2 = octets 2 e.seq.toNat ∧ field x 2 1 = octets 1 e.plan ∧ field x 3 1 = octets 1 e.slot ∧
          field x 4 1 = octets 1 e.station.number ∧ field x 5 1 = octets 1 outcome ∧
          field x 6 1 = octets 1 (match e.reason with | some reason => reason.code | none => 0) ∧
          field x 7 1 = octets 1 ((if e.error.isSome then 1 else 0) + if e.origin = .predicted then 2 else 0) ∧
          field x 8 4 = (match e.error with | some v => signedOctets 4 v | none => List.replicate 4 0x00) ∧
          field x 12 4 = signedOctets 4 e.trim ∧ field x 16 1 = octets 1 e.regFlags.bits ∧
          field x 17 4 = octets 4 e.strikePt.toNat) ∧
        (let u : State := { s with trace := {
            entries := s.trace.entries.drop n.toNat
            dropped := if clear = 0x00 then s.trace.dropped else 0
            watermark := if w = 0x00 then s.trace.watermark else min 64 w.toNat } }
         t = if w ≠ 0x00 ∧ u.trace.watermark ≤ u.trace.entries.length
             then raiseEvent .traceWatermark 0 u.trace.entries.length u else u))

/-- O20. READ LANE: refused for a lane above 5; otherwise 61 + 15 n octets, n the pending feeds listed, at most 8, and
with the clear option set the feeds, jumps and late counts become 0 and nothing else changes (R136). With no last feed
its seq, end position and follow read 0 (the model's choice, log 27). -/
def Obligations.ReadLaneReply : Prop :=
  ∀ (s : State) (tag lane clear : Octet), s.atRest = true →
    (LaneId.ofNumber lane.toNat = none →
      exec (.readLane tag [lane, clear]) s = .next (s.replied .readLane tag [0x04])) ∧
    (∀ l, LaneId.ofNumber lane.toNat = some l →
      ∃ q, exec (.readLane tag [lane, clear]) s = .next
          ((if clear = 0x00 then s else s.modLane l fun u =>
            { u with feeds := 0, jumps := 0, late := 0 }).replied .readLane tag q) ∧
        q.length = 61 + 15 * min 8 (s.lane l).pendingFeeds.length ∧
        field q 0 3 = [0x00, lane] ++ octets 1 (match (s.lane l).station with | none => 0 | some st => st.number) ∧
        field q 20 2 = octets 1 (s.lane l).state.code ++ [if (s.lane l).faultIn then 1 else 0] ∧
        (let c := (s.lane l).set
         field q 3 17 = octets 2 c.leadMargin ++ octets 2 c.tailMargin ++ octets 4 c.jumpThreshold ++
           octets 2 c.jumpMs ++ octets 1 c.parkAfter ++ octets 2 c.wakeMs ++ octets 4 c.lowThreshold) ∧
        field q 22 8 = (match (s.lane l).lastFeed with
          | some f => [0x01] ++ octets 2 f.seq.toNat ++ octets 4 f.endPos.toNat ++ octets 1 f.follow.code
          | none => List.replicate 8 0x00) ∧
        field q 47 1 = [if (s.lane l).lowWarned then 1 else 0] ∧
        field q 30 1 = octets 1 (s.lane l).idleRun ∧
        field q 31 16 = octets 4 (s.lane l).loaded ++ octets 4 (s.lane l).used ++
          octets 4 ((s.lane l).loaded - (s.lane l).used) ++ octets 4 (s.lane l).saved ∧
        field q 48 10 = octets 4 (s.lane l).feeds ++ octets 4 (s.lane l).jumps ++ octets 2 (s.lane l).late ∧
        field q 58 3 = octets 2 (s.lane l).pendingFeeds.length ++ octets 1 (min 8 (s.lane l).pendingFeeds.length) ∧
        ∀ j f, j < 8 → (s.lane l).pendingFeeds[j]? = some f →
          field q (61 + 15 * j) 15 = octets 2 f.seq.toNat ++ octets 4 f.start.toNat ++ octets 4 f.length ++
            octets 1 f.follow.code ++ octets 4 f.counted)

/-- O21. READ STATION: refused outside stations 1 to 4; otherwise 136 octets, at the offsets of its table the setup,
the station state (DISABLED, STANDBY without a job, RUN or HELD as the hold set is empty or not), the hold set, the
actuator with its confirms, the idle-lift point, the outcome counts, the tuning, the trim and the gate cursor, the
waiting mark, the unpaired gate, the drift and the run, the statistics, the counts of the channel and the heat zone,
each field of an absent item 0. With the clear option set the register statistics, TRIM_SAT, the mark counts and the
outcome counts are cleared and nothing else changes (R88, R90, R112, R152). -/
def Obligations.ReadStationReply : Prop :=
  ∀ (s : State) (tag n clear : Octet), s.atRest = true →
    (StationId.ofNumber n.toNat = none →
      exec (.readStation tag [n, clear]) s = .next (s.replied .readStation tag [0x04])) ∧
    (∀ st, StationId.ofNumber n.toNat = some st →
      ∃ q, exec (.readStation tag [n, clear]) s = .next
          ((if clear = 0x00 then s else s.modStation st fun u => { u with
            loop := { u.loop with pairs := 0, corrections := 0, largest := 0, last := none, orphans := 0,
                                  trimSat := false }
            channel := { u.channel with rejected := 0, stray := 0 }
            struck := 0, skipped := 0, missed := 0, marred := 0 }).replied .readStation tag q) ∧
        (let u := s.station st
         let flag (b : Bool) : Octet := if b then 1 else 0
         q.length = 136 ∧ field q 0 2 = [0x00, n] ∧
         (let c := u.setup
          field q 2 1 = octets 1 c.kind.code ∧ field q 3 1 = [flag c.enabled] ∧ field q 4 4 = octets 4 c.path ∧
          field q 8 4 = octets 4 c.lead ∧ field q 12 2 = octets 2 c.swin ∧ field q 14 1 = octets 1 c.missLimit ∧
          field q 15 1 = [flag c.strikeOnPredicted] ∧ field q 16 1 = octets 1 c.dieSlots ∧
          field q 17 2 = octets 2 c.engageMs ∧ field q 19 2 = octets 2 c.actTimeout ∧
          field q 21 1 = octets 1 c.policy.code) ∧
         field q 22 1 = octets 1 (if u.setup.enabled = false then 0 else if s.job.state = .none then 1
           else if u.hold = HoldSet.empty then 2 else 3) ∧
         field q 23 2 = octets 2 u.hold.bits ∧
         field q 25 4 = octets 1 u.actuator.code ++ octets 1 u.valve.code ++ [flag u.engagedIn, flag u.liftedIn] ∧
         field q 29 5 = (match u.idleLift with | some p => 0x01 :: octets 4 p.toNat | none => List.replicate 5 0x00) ∧
         field q 34 16 = octets 4 u.struck ++ octets 4 u.skipped ++ octets 4 u.missed ++ octets 4 u.marred ∧
         (let c := u.loop.tuning
          field q 50 4 = signedOctets 4 c.target ∧ field q 54 2 = octets 2 c.capture ∧
          field q 56 2 = octets 2 c.deadBand ∧ field q 58 1 = octets 1 c.gain ∧ field q 59 2 = octets 2 c.stepMax ∧
          field q 61 4 = octets 4 c.trimLimit ∧ field q 65 1 = octets 1 c.settle ∧ field q 66 1 = octets 1 c.mode.code) ∧
         field q 67 4 = signedOctets 4 u.loop.trim ∧
         field q 71 4 = [flag u.loop.trimSat] ++ octets 1 u.loop.settleCtr ++ octets 1 u.loop.cursor ++
           [flag u.loop.synced] ∧
         field q 75 7 = (match u.loop.waiting with
           | some w => 0x01 :: (octets 4 w.pos.toNat ++ octets 2 w.seq.toNat) | none => List.replicate 7 0x00) ∧
         field q 82 6 = (match u.loop.gate with
           | some g => 0x01 :: (octets 4 g.pos.toNat ++ octets 1 g.slot) | none => List.replicate 6 0x00) ∧
         field q 88 5 = signedOctets 4 u.drift ++ octets 1 u.unusable ∧
         field q 93 10 = octets 4 u.loop.pairs ++ octets 4 u.loop.corrections ++ octets 2 u.loop.largest ∧
         field q 103 5 = (match u.loop.last with | some e => 0x01 :: signedOctets 4 e | none => List.replicate 5 0x00) ∧
         field q 108 2 = octets 2 u.loop.orphans ∧
         field q 110 4 = octets 2 u.channel.rejected ++ octets 2 u.channel.stray ∧
         (let c := u.zone.set
          field q 114 1 = [flag u.zone.enabled] ∧ field q 115 4 = signedOctets 2 c.sp ++ signedOctets 2 c.standbySp ∧
          field q 119 8 = octets 2 c.band ++ octets 2 c.hysteresis ++ octets 2 c.margin ++ octets 2 c.soak) ∧
         field q 127 5 = octets 1 u.zone.state.code ++ signedOctets 2 u.zone.latest ++
           [flag u.zone.faultIn, flag u.zone.heater] ∧
         field q 132 4 = (match u.zone.soakTimer with | some n => octets 4 n | none => List.replicate 4 0x00)))

/-- A plan place holds a plan that names the motif. -/
def refersTo (place : Option Plan) (n : Nat) : Bool := place.any fun p => p.slots.any fun t => t.motif == n

/-- The plan of the pending buffer, LOADED or READY. -/
def pendingPlan (s : State) : Option Plan :=
  match s.job.buffer with
  | .loaded p | .ready p => some p
  | .empty => none

/-- A motif is locked while the active, the pending or the draining plan, or a live record, refers to it (R157). -/
def motifLocked (s : State) (n : Nat) : Bool :=
  refersTo s.job.active n || refersTo (pendingPlan s) n || refersTo s.job.draining n ||
    s.queue.any fun r => r.motif == n

/-- O22. READ MOTIF returns the entry with its holders and changes nothing; CLEAR MOTIF empties an entry that is not
locked; both refuse a number above 15 with BAD_VALUE, and CLEAR MOTIF refuses a locked entry with IN_USE (R156, R157). -/
def Obligations.ReadAndClearMotif : Prop :=
  ∀ (s : State) (tag n : Octet), s.atRest = true →
    (15 < n.toNat →
      exec (.readMotif tag [n]) s = .next (s.replied .readMotif tag [0x04]) ∧
      exec (.clearMotif tag [n]) s = .next (s.replied .clearMotif tag [0x04])) ∧
    (n.toNat ≤ 15 →
      (∃ q, exec (.readMotif tag [n]) s = .next (s.replied .readMotif tag q) ∧
        field q 0 3 = [0x00, n, if (s.motif n.toNat).valid then 1 else 0] ∧
        (let m := (s.motif n.toNat).mask
         field q 3 1 = octets 1 ((if m.s1 then 1 else 0) + (if m.s2 then 2 else 0) + (if m.s3 then 4 else 0) +
           (if m.s4 then 8 else 0))) ∧
        q.drop 5 = (allLanes.flatMap fun l => let gs := (s.motif n.toNat).segments.get l
          octets 1 gs.length ++ gs.flatMap fun g => octets 2 g.offset ++ octets 2 g.length) ∧
        field q 4 1 = octets 1
          ((if refersTo s.job.active n.toNat then 1 else 0) +
           (if refersTo (pendingPlan s) n.toNat then 2 else 0) +
           (if refersTo s.job.draining n.toNat then 4 else 0) +
           (if s.queue.any fun r => r.motif == n.toNat then 8 else 0)) ∧
        q.length = 11 + 4 * (allLanes.map fun l => ((s.motif n.toNat).segments.get l).length).sum) ∧
      (motifLocked s n.toNat = true →
        exec (.clearMotif tag [n]) s = .next (s.replied .clearMotif tag [0x06])) ∧
      (motifLocked s n.toNat = false →
        exec (.clearMotif tag [n]) s = .next (({ s with job := { s.job with
          motifs := s.job.motifs.setIfInBounds n.toNat Motif.empty } } : State).replied .clearMotif tag
            [0x00, n, 0x00])))

/-- O23. DEFINE MOTIF: a number above 15 or a mask with a bit above bit 3 is refused with BAD_VALUE, then a locked
entry with IN_USE, then lists that are not in order and in range with BAD_VALUE; otherwise the entry is replaced whole
and valid is set (R155, R157). A lane's group is a count and that many segments of offset and length, two octets each
(section 10.4); its list is sorted without overlap, of at most 4 segments of offset at most 65,000 and length 50 to
65,000. -/
def Obligations.DefineMotifReplacesTheEntry : Prop :=
  ∀ (s : State) (tag n mask : Octet) (a b c d e f : List Segment), s.atRest = true →
    let group (gs : List Segment) : List Octet :=
      octets 1 gs.length ++ gs.flatMap fun g => octets 2 g.offset ++ octets 2 g.length
    let os := group a ++ group b ++ group c ++ group d ++ group e ++ group f
    os.length ≤ 246 → (∀ gs ∈ [a, b, c, d, e, f], ∀ g ∈ gs, g.offset ≤ 65535 ∧ g.length ≤ 65535) →
    let good (gs : List Segment) : Prop := gs.length ≤ 4 ∧
      (∀ g ∈ gs, g.offset ≤ 65000 ∧ 50 ≤ g.length ∧ g.length ≤ 65000) ∧
      ∀ j g h, gs[j]? = some g → gs[j + 1]? = some h → g.offset + g.length ≤ h.offset
    (15 < n.toNat ∨ 15 < mask.toNat →
      exec (.defineMotif tag (n :: mask :: os)) s = .next (s.replied .defineMotif tag [0x04])) ∧
    (n.toNat ≤ 15 → mask.toNat ≤ 15 → motifLocked s n.toNat = true →
      exec (.defineMotif tag (n :: mask :: os)) s = .next (s.replied .defineMotif tag [0x06])) ∧
    (n.toNat ≤ 15 → mask.toNat ≤ 15 → motifLocked s n.toNat = false → ¬ (∀ gs ∈ [a, b, c, d, e, f], good gs) →
      exec (.defineMotif tag (n :: mask :: os)) s = .next (s.replied .defineMotif tag [0x04])) ∧
    (n.toNat ≤ 15 → mask.toNat ≤ 15 → motifLocked s n.toNat = false → (∀ gs ∈ [a, b, c, d, e, f], good gs) →
      exec (.defineMotif tag (n :: mask :: os)) s = .next (({ s with job := { s.job with
        motifs := s.job.motifs.setIfInBounds n.toNat
          { valid := true, mask := ⟨mask[0], mask[1], mask[2], mask[3]⟩,
            segments := ⟨a, b, c, d, e, f⟩ } } } : State).replied .defineMotif tag [0x00, n, 0x01]))

/-! ### Plans and batches (chapter 8) -/

/-- O24. LOAD PLAN: BUSY while a plan is READY, then BAD_VALUE for a value out of range or a motif that is not valid;
otherwise the plan is LOADED in the pending buffer and nothing else changes. DROP PLAN empties the buffer (R159,
R160). -/
def Obligations.LoadAndDropPlan : Prop :=
  ∀ (s : State) (tag : Octet) (p : List Octet), s.atRest = true → p.length ≤ 248 → 7 ≤ p.length →
    p.length = 7 + 3 * u8 p 6 →
    let slots := (List.range (u8 p 6)).map fun j => PlanSlot.mk (u16 p (7 + 3 * j)) (u8 p (9 + 3 * j))
    let inRange : Prop := 1 ≤ u8 p 0 ∧ u8 p 1 ≤ 1 ∧ u32 p 2 ≤ 1000000 ∧ 1 ≤ u8 p 6 ∧ u8 p 6 ≤ 8 ∧
      ∀ t ∈ slots, 2000 ≤ t.pitch ∧ t.pitch ≤ 65000 ∧ t.motif ≤ 15 ∧ (s.motif t.motif).valid = true
    (s.planReady = true → exec (.loadPlan tag p) s = .next (s.replied .loadPlan tag [0x05])) ∧
    (s.planReady = false → ¬ inRange → exec (.loadPlan tag p) s = .next (s.replied .loadPlan tag [0x04])) ∧
    (s.planReady = false → inRange →
      exec (.loadPlan tag p) s = .next (({ s with job := { s.job with
          buffer := .loaded (Plan.mk (u8 p 0) (if u8 p 1 = 0 then .cycle else .any) (u32 p 2) slots) } } :
            State).replied .loadPlan tag ([0x00, 0x01] ++ octets 1 (u8 p 0)))) ∧
    exec (.dropPlan tag []) s = .next
      (({ s with job := { s.job with buffer := .empty } } : State).replied .dropPlan tag [0x00, 0x00])

/-- O25. COMMIT PLAN refused (R161, R193): with the buffer EMPTY, with a plan READY, and with a LOADED plan at the
first of the checks 3 to 11 that fails, it answers the status, the check and the unit at fault, the lowest-numbered
one, and changes nothing. The checks are spelled out here, each under all before it passed, and a plan for which all
pass is one the model's own test, by which O26 is stated, lets pass. -/
def Obligations.CommitPlanRefused : Prop :=
  ∀ (s : State) (tag : Octet) (p : Plan), s.atRest = true →
    let answers (q : List Octet) : Prop := exec (.commitPlan tag []) s = .next (s.replied .commitPlan tag q)
    let invalid (t : PlanSlot) : Prop := (s.motif t.motif).valid = false
    let otherSlots (st : StationId) : Prop := s.enabled st = true ∧ (s.station st).setup.dieSlots ≠ p.slots.length
    let pastPitch (t : PlanSlot) : Prop :=
      ∃ l, ∃ g ∈ (s.motif t.motif).segments.get l, t.pitch < g.offset + g.length
    let strayLane (l : LaneId) : Prop := ∃ t ∈ p.slots, (s.motif t.motif).segments.get l ≠ [] ∧
      ∀ st, (s.lane l).station = some st → (s.motif t.motif).mask.get st = false
    let pass3 : Prop := s.job.draining = none
    let pass4 : Prop := pass3 ∧ ∀ t ∈ p.slots, ¬ invalid t
    let pass5 : Prop := pass4 ∧ (p.sync = .any → p.slots.length = 1)
    let pass6 : Prop := pass5 ∧ ∀ st, ¬ otherSlots st
    let pass7 : Prop := pass6 ∧ (s.job.state = .none ∨ placeId s.job.active ≠ p.id)
    (s.job.buffer = .empty → answers [0x07, 0x01, 0xFF]) ∧
    (s.job.buffer = .ready p → answers [0x05, 0x02, 0xFF]) ∧
    (s.job.buffer = .loaded p →
      (¬ pass3 → answers [0x05, 0x03, 0xFF]) ∧
      (∀ j t, p.slots[j]? = some t → pass3 → invalid t → (∀ x ∈ p.slots.take j, ¬ invalid x) →
        answers ([0x04, 0x04] ++ octets 1 j)) ∧
      (pass4 → ¬ pass5 → answers [0x04, 0x05, 0xFF]) ∧
      (∀ st, pass5 → otherSlots st → (∀ x : StationId, x.number < st.number → ¬ otherSlots x) →
        answers ([0x04, 0x06] ++ octets 1 st.number)) ∧
      (pass6 → ¬ pass7 → answers [0x04, 0x07, 0xFF])) ∧
    (∀ least, (∃ t ∈ p.slots, t.pitch = least) → (∀ t ∈ p.slots, least ≤ t.pitch) →
      let wide (st : StationId) : Prop := s.enabled st = true ∧ least ≤ 2 * (s.station st).setup.swin
      let long (st : StationId) : Prop := s.enabled st = true ∧
        256 < ((s.station st).setup.path + (s.station st).setup.lead + (s.station st).setup.swin) / least + 2
      let pass8 : Prop := pass7 ∧ 2 * s.entry.ewin < least ∧ ∀ st, ¬ wide st
      let pass9 : Prop := pass8 ∧ ∀ t ∈ p.slots, ¬ pastPitch t
      let pass10 : Prop := pass9 ∧ ∀ l, ¬ strayLane l
      let pass11 : Prop := pass10 ∧ ∀ st, ¬ long st
      (s.planChecks p = none ↔ pass11) ∧
      (s.job.buffer = .loaded p →
        (pass7 → least ≤ 2 * s.entry.ewin → answers [0x04, 0x08, 0x00]) ∧
        (∀ st, pass7 → 2 * s.entry.ewin < least → wide st → (∀ x : StationId, x.number < st.number → ¬ wide x) →
          answers ([0x04, 0x08] ++ octets 1 st.number)) ∧
        (∀ j t, p.slots[j]? = some t → pass8 → pastPitch t → (∀ x ∈ p.slots.take j, ¬ pastPitch x) →
          answers ([0x04, 0x09] ++ octets 1 j)) ∧
        (∀ l : LaneId, pass9 → strayLane l → (∀ x : LaneId, x.number < l.number → ¬ strayLane x) →
          answers ([0x04, 0x0A] ++ octets 1 l.number)) ∧
        (∀ st, pass10 → long st → (∀ x : StationId, x.number < st.number → ¬ long x) →
          answers ([0x08, 0x0B] ++ octets 1 st.number))))

/-- O26. COMMIT PLAN accepted: a LOADED plan that passes every check becomes active at once in job state NONE, the job
ARMED with its count at 0, the drift and the unusable run of every station 0 and the tracker in SEARCH; in any other
job state it becomes READY, and a tracker in OFF outside STANDBY with the job DRAINING or ENDED enters SEARCH (R162,
R163). -/
def Obligations.CommitPlanAccepted : Prop :=
  ∀ (s : State) (tag : Octet) (p : Plan), s.atRest = true → s.job.buffer = .loaded p → s.planChecks p = none →
    (s.job.state = .none →
      exec (.commitPlan tag []) s = .next (({ s with
        job := { s.job with active := some p, activeLive := 0, buffer := .empty, state := .armed, endReason := none,
                            admitted := 0, target := p.target }
        stations := s.stations.map fun u => { u with drift := 0, unusable := 0 }
        tracker := { s.tracker with state := .search, cursor := 0, window := none } } : State).replied .commitPlan tag
          ([0x00, 0x01] ++ octets 1 p.id ++ [0x00]))) ∧
    (s.job.state ≠ .none →
      let wakes := (s.job.state = .draining ∨ s.job.state = .ended) ∧ s.tracker.state = .off ∧ s.mode ≠ .standby
      exec (.commitPlan tag []) s = .next (({ s with
        job := { s.job with buffer := .ready p }
        tracker := if wakes then { s.tracker with state := .search, cursor := 0, window := none }
          else s.tracker } : State).replied .commitPlan tag
          ([0x00] ++ octets 1 s.job.state.code ++ octets 1 (placeId s.job.active) ++ [0x02])))

/-- O27. END JOB (R168, R165): NOT_READY in NONE and BUSY in DRAINING; from ARMED the job drains, and ends at once
with JOB_ENDED when no record of its plan is live; from ENDED it returns to NONE with its plan released. On an idle
line the JOB_ENDED is sent ahead of the reply (the model's inference, log 17). -/
def Obligations.EndJobByState : Prop :=
  ∀ (s : State) (tag : Octet), s.atRest = true →
    (s.job.state = .none → exec (.endJob tag []) s = .next (s.replied .endJob tag [0x07])) ∧
    (s.job.state = .draining → exec (.endJob tag []) s = .next (s.replied .endJob tag [0x05])) ∧
    (s.job.state = .armed → 0 < s.job.activeLive →
      exec (.endJob tag []) s = .next (({ s with
        job := { s.job with state := .draining, endReason := some .endRequest }
        tracker := { s.tracker with state := .search, cursor := 0, window := none } } : State).replied .endJob tag
          ([0x00, 0x02] ++ octets 1 s.job.buffer.code))) ∧
    (s.job.state = .armed → s.job.activeLive = 0 →
      exec (.endJob tag []) s = .next ((raiseEvent .jobEnded 0 (2 * 256 + placeId s.job.active) ({ s with
        job := { s.job with state := .ended, endReason := some .endRequest }
        tracker := { s.tracker with state := .search, cursor := 0, window := none } } : State)).replied .endJob tag
          ([0x00, 0x03] ++ octets 1 s.job.buffer.code))) ∧
    (s.job.state = .ended →
      ∃ buffer, exec (.endJob tag []) s = .next (({ s with
          job := { s.job with state := .none, endReason := none, active := none, activeLive := 0, admitted := 0,
                              target := 0, buffer := buffer }
          tracker := { s.tracker with state := .off, window := none } } : State).replied .endJob tag
            ([0x00, 0x00] ++ octets 1 buffer.code)) ∧
        buffer.plan = s.job.buffer.plan ∧ buffer.code = min 1 s.job.buffer.code)

/-- O28. EXTEND BATCH (R169): its four refusals in order; otherwise the target rises by n, saturated at 1,000,000, and
a job DRAINING or ENDED by its batch returns to ARMED when the new target exceeds the admitted count, a tracker in OFF
then entering SEARCH. -/
def Obligations.ExtendBatchRaisesTheTarget : Prop :=
  ∀ (s : State) (tag a b c d : Octet), s.atRest = true →
    let n := u32 [a, b, c, d] 0
    let out := exec (.extendBatch tag [a, b, c, d]) s
    let stopped := s.job.state = .draining ∨ s.job.state = .ended
    (n < 1 ∨ 1000000 < n → out = .next (s.replied .extendBatch tag [0x04])) ∧
    (1 ≤ n → n ≤ 1000000 → s.job.state = .none → out = .next (s.replied .extendBatch tag [0x07])) ∧
    (1 ≤ n → n ≤ 1000000 → s.job.state ≠ .none → s.job.target = 0 →
      out = .next (s.replied .extendBatch tag [0x04])) ∧
    (1 ≤ n → n ≤ 1000000 → s.job.target ≠ 0 → stopped → s.job.endReason ≠ some .batch →
      out = .next (s.replied .extendBatch tag [0x07])) ∧
    (1 ≤ n → n ≤ 1000000 → s.job.target ≠ 0 → s.job.state ≠ .none → (stopped → s.job.endReason = some .batch) →
      let target := min 1000000 (s.job.target + n)
      let status : Octet := if 1000000 < s.job.target + n then 0x01 else 0x00
      let armed := stopped ∧ s.job.admitted < target
      out = .next (({ s with
        job := { s.job with target := target, state := if armed then .armed else s.job.state,
                            endReason := if armed then none else s.job.endReason }
        tracker := if armed ∧ s.tracker.state = .off then
            { s.tracker with state := .search, cursor := 0, window := none } else s.tracker } : State).replied
          .extendBatch tag ([status] ++ octets 4 target ++ octets 4 s.job.admitted ++
            octets 1 (if armed then JobState.armed.code else s.job.state.code))))

/-! ### Settings (chapters 1, 2, 4, 5) -/

/-- O29. SETUP ENTRY (R37, R38): BUSY outside job state NONE, then BAD_VALUE; otherwise the nine values are taken,
three of them clamped, and M0's counts start again at 0. -/
def Obligations.SetupEntryTakesTheValues : Prop :=
  ∀ (s : State) (tag : Octet) (p : List Octet), s.atRest = true → p.length = 21 →
    let band (n : Nat) : Prop := 10 ≤ n ∧ n ≤ 20000
    let valid : Prop := band (u16 p 0) ∧ band (u16 p 2) ∧ band (u16 p 4) ∧ band (u16 p 6) ∧ u16 p 0 ≤ u16 p 2 ∧
      u16 p 4 ≤ u16 p 6 ∧ u16 p 2 < u16 p 4 ∧ 1 ≤ u8 p 10 ∧ u8 p 10 ≤ 31 ∧ u32 p 11 ≤ 200000
    let ewin := max 50 (min 30000 (u16 p 8))
    let guard := max 0 (min 20000 (u16 p 15))
    let travel := max 1000 (min 100000 (u32 p 17))
    (s.job.state ≠ .none → exec (.setupEntry tag p) s = .next (s.replied .setupEntry tag [0x05])) ∧
    (s.job.state = .none → ¬ valid → exec (.setupEntry tag p) s = .next (s.replied .setupEntry tag [0x04])) ∧
    (s.job.state = .none → valid →
      exec (.setupEntry tag p) s = .next (({ s with
        entry := { nmin := u16 p 0, nmax := u16 p 2, cmin := u16 p 4, cmax := u16 p 6, ewin := ewin,
                   missLimit := u8 p 10, spliceOffset := u32 p 11, guard := guard, wakeTravel := travel }
        m0 := { s.m0 with rejected := 0, stray := 0 } } : State).replied .setupEntry tag
          ((if ewin = u16 p 8 ∧ guard = u16 p 15 ∧ travel = u32 p 17 then 0x00 else 0x01) ::
            (octets 2 (u16 p 0) ++ octets 2 (u16 p 2) ++ octets 2 (u16 p 4) ++ octets 2 (u16 p 6) ++ octets 2 ewin ++
             octets 1 (u8 p 10) ++ octets 4 (u32 p 11) ++ octets 2 guard ++ octets 4 travel))))

/-- O30. SET TRIM and NUDGE TRIM (R85, R86, R67, R82): the trim is the value given, or the trim moved by the delta,
clamped to the trim limit; the settle counter is reloaded; a clamp sets TRIM_SAT and raises TRIM_SATURATED with detail
2 or 3, sent ahead of the reply on an idle line (the model's inference, log 17). SET TRIM is refused with NOT_READY in
AUTO. -/
def Obligations.SetAndNudgeTrim : Prop :=
  ∀ (s : State) (tag n a b c d : Octet), s.atRest = true →
    let v := i32 [n, a, b, c, d] 1
    (StationId.ofNumber n.toNat = none →
      exec (.setTrim tag [n, a, b, c, d]) s = .next (s.replied .setTrim tag [0x04]) ∧
      exec (.nudgeTrim tag [n, a, b, c, d]) s = .next (s.replied .nudgeTrim tag [0x04])) ∧
    (∀ st, StationId.ofNumber n.toNat = some st →
      let l := (s.station st).loop
      let clamp (x : Int) : Int := max (-l.tuning.trimLimit) (min l.tuning.trimLimit x)
      let moved (x : Int) (source : Nat) : State :=
        if clamp x = x then s.modStation st fun u => { u with loop := { u.loop with
          trim := x, settleCtr := l.tuning.settle } }
        else raiseEvent .trimSaturated st.number source (s.modStation st fun u => { u with loop := { u.loop with
          trim := clamp x, settleCtr := l.tuning.settle, trimSat := true } })
      let reply (x : Int) : List Octet := [if clamp x = x then 0x00 else 0x01] ++ signedOctets 4 (clamp x) ++
        [if clamp x = x ∧ l.trimSat = false then 0 else 1]
      (l.tuning.mode = .auto → exec (.setTrim tag [n, a, b, c, d]) s = .next (s.replied .setTrim tag [0x07])) ∧
      (l.tuning.mode = .measure →
        exec (.setTrim tag [n, a, b, c, d]) s = .next ((moved v 2).replied .setTrim tag (reply v))) ∧
      exec (.nudgeTrim tag [n, a, b, c, d]) s =
        .next ((moved (l.trim + v) 3).replied .nudgeTrim tag (reply (l.trim + v))))

/-- O31. TUNE REGISTER (R83, R84): BAD_VALUE for a station or a mode that is none; otherwise the clamped values are
taken, the settle counter is lowered to the new setting, and a trim that lies outside the new limit is clamped with
the settle counter reloaded, TRIM_SAT set and TRIM_SATURATED raised with detail 4, ahead of the reply on an idle line
(the model's inference, log 17). The reply is CLAMPED when a value
was changed, and carries the station, the values in force, the trim and TRIM_SAT. -/
def Obligations.TuneRegisterTakesTheValues : Prop :=
  ∀ (s : State) (tag : Octet) (p : List Octet), s.atRest = true → p.length = 18 →
    (StationId.ofNumber (u8 p 0) = none ∨ 1 < u8 p 17 →
      exec (.tuneRegister tag p) s = .next (s.replied .tuneRegister tag [0x04])) ∧
    (∀ st, StationId.ofNumber (u8 p 0) = some st → u8 p 17 ≤ 1 →
      let t : Tuning := {
        target := max (-100000) (min 100000 (i32 p 1)), capture := max 100 (min 50000 (u16 p 5)),
        deadBand := min 500 (u16 p 7), gain := max 1 (min 16 (u8 p 9)), stepMax := max 1 (min 5000 (u16 p 10)),
        trimLimit := min 200000 (u32 p 12), settle := min 7 (u8 p 16),
        mode := if u8 p 17 = 0 then .auto else .measure }
      let l := (s.station st).loop
      let trim : Int := max (-t.trimLimit) (min t.trimLimit l.trim)
      let t' := if trim = l.trim then
          s.modStation st fun u => { u with loop := { u.loop with
            tuning := t, settleCtr := min u.loop.settleCtr t.settle } }
        else raiseEvent .trimSaturated st.number 4 (s.modStation st fun u => { u with loop := { u.loop with
            tuning := t, settleCtr := t.settle, trim := trim, trimSat := true } })
      let kept : Prop := t.target = i32 p 1 ∧ t.capture = u16 p 5 ∧ t.deadBand = u16 p 7 ∧ t.gain = u8 p 9 ∧
        t.stepMax = u16 p 10 ∧ t.trimLimit = u32 p 12 ∧ t.settle = u8 p 16
      ∃ q, exec (.tuneRegister tag p) s = .next (t'.replied .tuneRegister tag q) ∧ q.length = 24 ∧
        field q 0 2 = (if kept then 0x00 else 0x01) :: octets 1 st.number ∧
        field q 2 8 = signedOctets 4 t.target ++ octets 2 t.capture ++ octets 2 t.deadBand ∧
        field q 10 8 = octets 1 t.gain ++ octets 2 t.stepMax ++ octets 4 t.trimLimit ++ octets 1 t.settle ∧
        field q 18 6 = octets 1 t.mode.code ++ signedOctets 4 trim ++
          [if trim = l.trim ∧ l.trimSat = false then 0 else 1])

/-- O32. SETUP STATION (R91, R92, R97, R96, R69): BAD_VALUE for a station that is none, BUSY outside job state NONE,
BAD_VALUE for a code or a value out of range, IN_USE for kind EMBOSS while lanes are assigned; otherwise the setup is
taken with two values clamped, and the gate cursor restarts. Enabling adds to the hold set each of the seven causes of
R97 whose condition holds; a hard cause that enters takes the fault actions, so that the idle-lift point is cancelled,
a lift request made, and, with no record live, each ACTIVE or PARKED lane of the station is sent a full STOP for each
such cause and is PARKED. Disabling empties the hold set, cancels the idle-lift point, makes a lift request and drops
the waiting mark and the unpaired gate. -/
def Obligations.SetupStationAppliesTheSetup : Prop :=
  ∀ (s : State) (tag : Octet) (p : List Octet), s.atRest = true → p.length = 21 →
    let coded : Prop := u8 p 1 ≤ 1 ∧ u8 p 20 ≤ 2
    let ranged : Prop := 10000 ≤ u32 p 3 ∧ u32 p 3 ≤ 2000000 ∧ 5000 ≤ u32 p 7 ∧ u32 p 7 ≤ 500000 ∧
      100 ≤ u16 p 11 ∧ u16 p 11 ≤ 30000 ∧ 1 ≤ u8 p 13 ∧ u8 p 13 ≤ 31 ∧ 1 ≤ u8 p 15 ∧ u8 p 15 ≤ 8
    (StationId.ofNumber (u8 p 0) = none →
      exec (.setupStation tag p) s = .next (s.replied .setupStation tag [0x04])) ∧
    ∀ st, StationId.ofNumber (u8 p 0) = some st →
      (s.job.state ≠ .none → exec (.setupStation tag p) s = .next (s.replied .setupStation tag [0x05])) ∧
      (s.job.state = .none → ¬ (coded ∧ ranged) →
        exec (.setupStation tag p) s = .next (s.replied .setupStation tag [0x04])) ∧
      (s.job.state = .none → coded → ranged → u8 p 1 = 0 → s.lanesOf st ≠ [] →
        exec (.setupStation tag p) s = .next (s.replied .setupStation tag [0x06])) ∧
      (s.job.state = .none → coded → ranged → (u8 p 1 = 0 → s.lanesOf st = []) →
        let engage := max 5 (min 500 (u16 p 16))
        let timeout := max 10 (min 2000 (u16 p 18))
        let c : StationSetup := {
          kind := if u8 p 1 = 0 then .emboss else .foil, enabled := u8 p 2 != 0, path := u32 p 3, lead := u32 p 7,
          swin := u16 p 11, missLimit := u8 p 13, strikeOnPredicted := u8 p 14 != 0, dieSlots := u8 p 15,
          engageMs := engage, actTimeout := timeout,
          policy := if u8 p 20 = 0 then .off else if u8 p 20 = 1 then .exceptions else .all }
        let u := s.station st
        let restarts : Prop := c.dieSlots ≠ u.setup.dieSlots ∨ (u.setup.enabled = false ∧ c.enabled = true)
        let loop : RegLoop := { u.loop with
          cursor := if restarts then 0 else u.loop.cursor
          synced := if c.dieSlots = 1 then true else if restarts then false else u.loop.synced }
        let reply := (if engage = u16 p 16 ∧ timeout = u16 p 18 then 0x00 else 0x01) :: setupOctets st c
        (u.setup.enabled = c.enabled →
          exec (.setupStation tag p) s =
            .next ((s.setStation st { u with setup := c, loop := loop }).replied .setupStation tag reply)) ∧
        (u.setup.enabled = true → c.enabled = false →
          exec (.setupStation tag p) s = .next ((s.setStation st
            { ({ u with setup := c, hold := HoldSet.empty, idleLift := none } : Station).lift with
              loop := { loop with waiting := none, gate := none } }).replied .setupStation tag reply)) ∧
        (u.setup.enabled = false → c.enabled = true → (∀ l, (s.lane l).Agrees) →
          let holds (x : Cause) : Bool := match x with
            | .reference => (s.ref.source s.ref.selected).state == .fault
            | .actuator => u.actuator == .jammed
            | .heatFault => u.zone.state == .fault
            | .foilDrive => (s.lanesOf st).any fun l => (s.lane l).state == .fault
            | .thermal => u.zone.enabled && u.zone.state != .ready && u.zone.state != .fault
            | .foilOut => (s.lanesOf st).any fun l => (s.lane l).state == .empty
            | .idle => s.mode != .run
            | .marksLost | .pause => false
          let entering : List Cause := hardCauses.filter fun x => holds x && !u.hold.has x
          let v : Station := { u with setup := c, loop := loop }
          ∃ t : State, exec (.setupStation tag p) s = .next (t.replied .setupStation tag reply) ∧
            (∀ x, (t.station st).hold.has x = (u.hold.has x || holds x)) ∧
            t.station st = { (if entering = [] then v else ({ v with idleLift := none } : Station).lift) with
              hold := (t.station st).hold } ∧
            (∀ st', st' ≠ st → t.station st' = s.station st') ∧
            { t with stations := s.stations, lanes := s.lanes, queue := s.queue } = s ∧
            (s.queue = [] ∨ entering = [] → t.queue = s.queue ∧ ∀ l,
              let x := s.lane l
              t.lane l =
                if x.station = some st ∧ (x.state = .active ∨ x.state = .parked) ∧ entering ≠ [] then
                  { x with
                    state := .parked
                    pendingFeeds := []
                    lastFeed := none
                    drive := x.drive ++ List.replicate entering.length
                      { kind := .stopAll, start := s.web, length := 0, follow := .jump } }
                else x)))

/-! ### Heat, lanes, holds and faults (chapters 5 to 7) -/

/-- O33. SETUP HEAT (R144, R145, R141, R95): BAD_VALUE for a zone or an enabled value that is none; otherwise the
settings are taken clamped, and a zone enabled from disabled enters HEATING, or FAULT with cause SENSOR while its
sensor fault input is active, while a zone disabled from enabled enters OFF; THERMAL follows the zone. On an idle line
the HEAT_FAULT is sent ahead of the reply (the model's inference, log 17). -/
def Obligations.SetupHeatEnablesTheZone : Prop :=
  ∀ (s : State) (tag : Octet) (p : List Octet), s.atRest = true → p.length = 14 →
    (StationId.ofNumber (u8 p 0) = none ∨ 1 < u8 p 1 →
      exec (.setupHeat tag p) s = .next (s.replied .setupHeat tag [0x04])) ∧
    ∀ st, StationId.ofNumber (u8 p 0) = some st → u8 p 1 ≤ 1 →
      let sp := min 2500 (i16 p 2).toNat
      let h : HeatSettings := {
        sp := sp, standbySp := min sp (i16 p 4).toNat, band := max 5 (min 200 (u16 p 6)),
        hysteresis := max 2 (min 100 (u16 p 8)), margin := max 20 (min 500 (u16 p 10)), soak := min 600 (u16 p 12) }
      let kept : Prop := i16 p 2 = h.sp ∧ i16 p 4 = h.standbySp ∧ u16 p 6 = h.band ∧ u16 p 8 = h.hysteresis ∧
        u16 p 10 = h.margin ∧ u16 p 12 = h.soak
      let u := s.station st
      let reply (z : HeatZone) : List Octet := (if kept then 0x00 else 0x01) :: (octets 1 st.number ++
        octets 1 (u8 p 1) ++ signedOctets 2 h.sp ++ signedOctets 2 h.standbySp ++ octets 2 h.band ++
        octets 2 h.hysteresis ++ octets 2 h.margin ++ octets 2 h.soak ++ octets 1 z.state.code ++
        signedOctets 2 z.latest ++ [if z.heater then 1 else 0])
      (u.zone.enabled = (u8 p 1 == 1) →
        let z : HeatZone := { u.zone with set := h }
        exec (.setupHeat tag p) s = .next ((s.setStation st { u with zone := z }).replied .setupHeat tag (reply z))) ∧
      (u.zone.enabled = true → u8 p 1 = 0 →
        let z : HeatZone := { u.zone with
          enabled := false, set := h, state := .off, heater := false, soakTimer := none }
        exec (.setupHeat tag p) s = .next ((s.setStation st { u with
          zone := z, hold := { u.hold with thermal := false } }).replied .setupHeat tag (reply z))) ∧
      (u.zone.enabled = false → u8 p 1 = 1 → u.zone.faultIn = false →
        let z : HeatZone := { u.zone with
          enabled := true, set := h, state := .heating, heater := false, soakTimer := none }
        exec (.setupHeat tag p) s = .next ((s.setStation st { u with
          zone := z
          hold := { u.hold with thermal := u.hold.thermal || u.setup.enabled } }).replied .setupHeat tag (reply z))) ∧
      (u.zone.enabled = false → u8 p 1 = 1 → u.zone.faultIn = true →
        let z : HeatZone := { u.zone with
          enabled := true, set := h, state := .fault, heater := false, soakTimer := none }
        exec (.setupHeat tag p) s = .next ((addHard .heatFault st
          ((raiseEvent .heatFault st.number 2 (s.setStation st { u with zone := z })).modStation st fun u =>
            { u with hold := { u.hold with thermal := false } })).replied .setupHeat tag (reply z)))

/-- FOIL_OUT leaves a lane's old station when no lane of it is EMPTY any longer (R95). -/
def leavesFoilOut (old : Option StationId) (s : State) : State :=
  match old with
  | none => s
  | some st =>
    if allLanes.any fun l => (s.lane l).station == some st && (s.lane l).state == .empty then s
    else s.modStation st fun u => { u with hold := { u.hold with foilOut := false } }

/-- FOIL_OUT enters the hold set of an enabled station (R94, R95). -/
def entersFoilOut (st : StationId) (s : State) : State :=
  if (s.station st).setup.enabled then s.modStation st fun u => { u with hold := { u.hold with foilOut := true } }
  else s

/-- The drive's log after the one PARK of a lane that is ACTIVE or enters EMPTY, from the end of its last feed if it has
one, otherwise from the web counter (R118, R131; log 25). -/
def parkedDrive (web : Pos) (entersEmpty : Bool) (u : Lane) : List DriveCommand :=
  if u.state = .active ∨ entersEmpty then
    u.drive ++ [{ kind := .park, start := (match u.lastFeed with | some f => f.endPos | none => web), length := 0,
                  follow := .jump }]
  else u.drive

/-- O34. SETUP LANE (R116, R117, R95): its refusals in order; otherwise the settings are taken clamped. A lane whose
station changes loses its last feed and its idle run, and enters UNASSIGNED, FAULT, EMPTY or PARKED; PARK is sent if it
was ACTIVE or enters EMPTY (R118, R131), one PARK where both hold (the model's inference, log 25); FOIL_OUT leaves the
old station with its last EMPTY lane and enters the new one with an EMPTY lane, and a lane whose drive fault input is
active faults (log 12), its FOIL_DRIVE_FAULT sent ahead of the reply on an idle line (the model's inference, log 17). -/
def Obligations.SetupLaneAssignsTheLane : Prop :=
  ∀ (s : State) (tag : Octet) (p : List Octet), s.atRest = true → p.length = 19 →
    (LaneId.ofNumber (u8 p 0) = none → exec (.setupLane tag p) s = .next (s.replied .setupLane tag [0x04])) ∧
    ∀ l, LaneId.ofNumber (u8 p 0) = some l →
      let parkValid : Prop := u8 p 12 = 0 ∨ u8 p 12 = 4 ∨ u8 p 12 = 8 ∨ u8 p 12 = 16
      let takes (st : StationId) : Prop := (s.station st).setup.kind = .foil ∧
        ((s.lanesOf st).filter fun k => k != l).length ≤ 2
      let target := StationId.ofNumber (u8 p 1)
      let accepted : Prop := s.job.state = .none ∧ u8 p 1 ≤ 4 ∧ parkValid ∧ ∀ st, target = some st → takes st
      let c : LaneSettings := {
        leadMargin := min 5000 (u16 p 2), tailMargin := min 5000 (u16 p 4), jumpThreshold := min 100000 (u32 p 6),
        jumpMs := max 1 (min 200 (u16 p 10)), parkAfter := u8 p 12, wakeMs := max 1 (min 1000 (u16 p 13)),
        lowThreshold := min 400000000 (u32 p 15) }
      let kept : Prop := c.leadMargin = u16 p 2 ∧ c.tailMargin = u16 p 4 ∧ c.jumpThreshold = u32 p 6 ∧
        c.jumpMs = u16 p 10 ∧ c.wakeMs = u16 p 13 ∧ c.lowThreshold = u32 p 15
      let u := s.lane l
      let reply (t : State) : List Octet := (if kept then 0x00 else 0x01) :: laneOctets l (t.lane l)
      (s.job.state ≠ .none → exec (.setupLane tag p) s = .next (s.replied .setupLane tag [0x05])) ∧
      (s.job.state = .none → ¬ accepted → exec (.setupLane tag p) s = .next (s.replied .setupLane tag [0x04])) ∧
      (accepted → u.station = target →
        let t := s.setLane l { u with set := c }
        exec (.setupLane tag p) s = .next (t.replied .setupLane tag (reply t))) ∧
      (accepted → u.station ≠ target → target = none →
        let t := leavesFoilOut u.station (s.setLane l { u with
          set := c, drive := parkedDrive s.web false u, lastFeed := none, idleRun := 0, station := none,
          state := .unassigned })
        exec (.setupLane tag p) s = .next (t.replied .setupLane tag (reply t))) ∧
      (∀ st, accepted → u.station ≠ target → target = some st → u.faultIn = false →
        let empty : Prop := u.state = .empty ∨ u.loaded - u.used = 0
        let v : Lane := { u with
          set := c, drive := parkedDrive s.web (decide empty) u, lastFeed := none, idleRun := 0, station := some st,
          state := if empty then .empty else .parked }
        let left := leavesFoilOut u.station (s.setLane l v)
        let t := if empty then entersFoilOut st left else left
        exec (.setupLane tag p) s = .next (t.replied .setupLane tag (reply t))) ∧
      (∀ st, accepted → u.station ≠ target → target = some st → u.faultIn = true →
        let t := addHard .foilDrive st (raiseEvent .foilDriveFault l.number st.number
          (leavesFoilOut u.station (s.setLane l { u with
            set := c
            drive := parkedDrive s.web false u ++ [{ kind := .stopAll, start := s.web, length := 0, follow := .jump }]
            lastFeed := none
            pendingFeeds := []
            idleRun := 0
            station := some st
            state := .fault })))
        exec (.setupLane tag p) s = .next (t.replied .setupLane tag (reply t)))

/-- O35. LOAD SPOOL (R132, R95): BAD_VALUE for a lane that is none or a length above 400,000,000, NOT_READY for a lane
in UNASSIGNED or FAULT; otherwise the spool account starts again, and the lane is PARKED, or EMPTY for a length of 0,
with FOIL_OUT following it. PARK is sent if it was ACTIVE or enters EMPTY (R118, R131): one PARK where both hold, and
none for a lane that was EMPTY already (the model's inference, log 25). -/
def Obligations.LoadSpoolStartsTheAccount : Prop :=
  ∀ (s : State) (tag n a b c d : Octet), s.atRest = true →
    let length := u32 [n, a, b, c, d] 1
    (LaneId.ofNumber n.toNat = none ∨ 400000000 < length →
      exec (.loadSpool tag [n, a, b, c, d]) s = .next (s.replied .loadSpool tag [0x04])) ∧
    ∀ l, LaneId.ofNumber n.toNat = some l → length ≤ 400000000 →
      let u := s.lane l
      (u.state = .unassigned ∨ u.state = .fault →
        exec (.loadSpool tag [n, a, b, c, d]) s = .next (s.replied .loadSpool tag [0x07])) ∧
      (∀ st, u.station = some st → u.state ≠ .unassigned → u.state ≠ .fault →
        let empties : Bool := length == 0 && u.state != .empty
        let v : Lane := { u with
          drive := parkedDrive s.web empties u
          lastFeed := if u.state = .active ∨ empties then none else u.lastFeed
          loaded := length, used := 0, saved := 0, lowWarned := false
          state := if length = 0 then .empty else .parked }
        let t := if length = 0 then entersFoilOut st (s.setLane l v) else leavesFoilOut (some st) (s.setLane l v)
        exec (.loadSpool tag [n, a, b, c, d]) s = .next (t.replied .loadSpool tag
          ([0x00] ++ octets 4 length ++ octets 4 0 ++ octets 4 length ++ octets 4 0 ++ octets 1 v.state.code)))

/-- O36. PAUSE and RESUME (R98): PAUSE enters the hold set of each named enabled station and leaves that of each named
station; BAD_VALUE for a station above 4; NOT_READY for one that is disabled, and for PAUSE of all with none enabled.
The reply carries the four hold sets. -/
def Obligations.PauseAndResume : Prop :=
  ∀ (s : State) (tag n : Octet), s.atRest = true →
    let named (st : StationId) : Prop := n.toNat = 0 ∨ n.toNat = st.number
    let reply (t : State) : List Octet := [0x00] ++ octets 2 (t.station .s1).hold.bits ++
      octets 2 (t.station .s2).hold.bits ++ octets 2 (t.station .s3).hold.bits ++ octets 2 (t.station .s4).hold.bits
    (4 < n.toNat →
      exec (.pause tag [n]) s = .next (s.replied .pause tag [0x04]) ∧
      exec (.resume tag [n]) s = .next (s.replied .resume tag [0x04])) ∧
    (n.toNat ≤ 4 → (∀ st, named st → s.enabled st = false) →
      exec (.pause tag [n]) s = .next (s.replied .pause tag [0x07])) ∧
    (1 ≤ n.toNat → n.toNat ≤ 4 → (∀ st, named st → s.enabled st = false) →
      exec (.resume tag [n]) s = .next (s.replied .resume tag [0x07])) ∧
    (n.toNat ≤ 4 → (∃ st, named st ∧ s.enabled st = true) →
      ∃ t : State, exec (.pause tag [n]) s = .next (t.replied .pause tag (reply t)) ∧
        { t with stations := s.stations } = s ∧
        ∀ st, t.station st = if named st ∧ s.enabled st = true
          then { s.station st with hold := { (s.station st).hold with pause := true } } else s.station st) ∧
    (n.toNat ≤ 4 → (n.toNat = 0 ∨ ∃ st, named st ∧ s.enabled st = true) →
      ∃ t : State, exec (.resume tag [n]) s = .next (t.replied .resume tag (reply t)) ∧
        { t with stations := s.stations } = s ∧
        ∀ st, t.station st = if named st
          then { s.station st with hold := { (s.station st).hold with pause := false } } else s.station st)

/-- O37. CLEAR FAULT (R99, R100, R134, R142): NOT_READY, with the eight fields of its reply, when a named enabled
station holds a hard cause and none of them can be removed; otherwise each hard cause whose condition has ended leaves
with its action, TRIM_SAT is cleared, and at a disabled station the faulted lanes and the zone whose conditions have
ended are released (log 11). -/
def Obligations.ClearFaultRemovesEndedCauses : Prop :=
  ∀ (s : State) (tag n : Octet), s.atRest = true →
    let named (st : StationId) : Prop := n.toNat = 0 ∨ n.toNat = st.number
    let fields (u : Station) : List Octet := octets 2 u.hold.bits ++ [if u.loop.trimSat then 1 else 0]
    let reply (t : State) : List Octet := fields (t.station .s1) ++ fields (t.station .s2) ++ fields (t.station .s3) ++
      fields (t.station .s4)
    let sourceOk : Prop := (s.ref.source s.ref.selected).state ≠ .fault
    let zoneOk (st : StationId) : Prop := (s.station st).zone.latest ≤ (s.station st).zone.set.sp ∧
      (s.station st).zone.faultIn = false
    let lanesOk (st : StationId) : Prop :=
      (allLanes.all fun l => (s.lane l).station != some st || !(s.lane l).faultIn) = true
    let removable (st : StationId) : Prop :=
      ((s.station st).hold.reference = true ∧ sourceOk) ∨
      ((s.station st).hold.actuator = true ∧ (s.station st).liftedIn = true) ∨
      ((s.station st).hold.heatFault = true ∧ zoneOk st) ∨ ((s.station st).hold.foilDrive = true ∧ lanesOk st)
    let hard (st : StationId) : Prop := (s.station st).hold.reference = true ∨ (s.station st).hold.actuator = true ∨
      (s.station st).hold.heatFault = true ∨ (s.station st).hold.foilDrive = true
    let stuck : Prop := (∃ st, named st ∧ s.enabled st = true ∧ hard st) ∧
      ∀ st, named st → s.enabled st = true → ¬ removable st
    (4 < n.toNat → exec (.clearFault tag [n]) s = .next (s.replied .clearFault tag [0x04])) ∧
    (n.toNat ≤ 4 → stuck → exec (.clearFault tag [n]) s = .next (s.replied .clearFault tag (0x07 :: reply s))) ∧
    (n.toNat ≤ 4 → ¬ stuck →
      ∃ t : State, exec (.clearFault tag [n]) s = .next (t.replied .clearFault tag (0x00 :: reply t)) ∧
        { t with stations := s.stations, lanes := s.lanes } = s ∧
        (∀ st, ¬ named st → t.station st = s.station st) ∧
        (∀ st, named st → s.enabled st = true →
          let u := s.station st
          let lifts : Prop := u.hold.actuator = true ∧ u.liftedIn = true
          let cools : Prop := u.hold.heatFault = true ∧ zoneOk st
          t.station st = { u with
            hold := { u.hold with
              reference := u.hold.reference && !decide sourceOk
              actuator := u.hold.actuator && !u.liftedIn
              heatFault := if cools then false else u.hold.heatFault
              foilDrive := if lanesOk st then false else u.hold.foilDrive
              thermal := if cools ∧ u.zone.state = .fault then u.zone.enabled else u.hold.thermal }
            actuator := if lifts then .lifted else u.actuator
            valve := if lifts then .lift else u.valve
            stroke := if lifts then none else u.stroke
            zone := if cools ∧ u.zone.state = .fault then { u.zone with state := .heating, heater := false } else u.zone
            loop := { u.loop with trimSat := false } }) ∧
        (∀ st, named st → s.enabled st = false →
          let u := s.station st
          let cools : Prop := zoneOk st ∧ u.zone.state = .fault
          t.station st = { u with
            hold := if cools ∧ u.zone.enabled = false then { u.hold with thermal := false } else u.hold
            zone := if cools then { u.zone with state := .heating, heater := false } else u.zone
            loop := { u.loop with trimSat := false } }) ∧
        ∀ l,
          let released : Prop := ∃ st, (s.lane l).station = some st ∧ named st ∧ (s.lane l).state = .fault ∧
            ((s.enabled st = true ∧ (s.station st).hold.foilDrive = true ∧ lanesOk st) ∨
              (s.enabled st = false ∧ (s.lane l).faultIn = false))
          (released → t.lane l = { s.lane l with state := .parked }) ∧ (¬ released → t.lane l = s.lane l))

/-! ### Press modes, sources, reset (chapters 1, 7, 9) -/

/-- An enabled zone not in FAULT enters HEATING with its soak timer stopped, and THERMAL is added (R148, R150, R95). -/
def reheated (u : Station) : Station :=
  if u.zone.enabled = true ∧ u.zone.state ≠ .fault then
    { u with zone := { u.zone with state := .heating, soakTimer := none }
             hold := { u.hold with thermal := u.hold.thermal || u.setup.enabled } }
  else u

/-- The press leaves STANDBY (R150). -/
def leftStandby (mode : PressMode) (cause : Nat) (s : State) : State :=
  raiseEvent .woke 0 cause { s with
    mode := mode
    wake := none
    stations := s.stations.map fun u =>
      reheated { u with hold := { u.hold with idle := if mode = .run then false else u.hold.idle } }
    tracker := if s.job.state = .armed ∨ s.planReady = true
      then { s.tracker with state := .search, cursor := 0, window := none } else s.tracker }

/-- O38. SET MODE and the wake threshold (R146 to R150): BAD_VALUE for a mode that is none; the mode in force changes
nothing; between RUN and IDLE the IDLE cause is added or removed; entering STANDBY lifts every station, flushes (O44),
turns the tracker OFF, reheats the zones and sets the wake threshold; leaving it reheats, removes IDLE for RUN, puts the
tracker in SEARCH for an ARMED job or a READY plan, and raises WOKE with the cause. What the request raises is sent
ahead of its reply on an idle line (the model's inference, log 17). With no threshold set, or one not
reached, WAKE_THRESHOLD changes nothing (the model's choice, log 2). -/
def Obligations.PressModes : Prop :=
  ∀ (s : State) (tag m : Octet), s.atRest = true →
    (2 < m.toNat → exec (.setMode tag [m]) s = .next (s.replied .setMode tag [0x04])) ∧
    (m.toNat = s.mode.code → exec (.setMode tag [m]) s = .next (s.replied .setMode tag [0x00, m])) ∧
    (m = 0x01 → s.mode = .run →
      exec (.setMode tag [m]) s = .next (({ s with
        mode := .idle
        stations := s.stations.map fun u => if u.setup.enabled then
          { u with hold := { u.hold with idle := true } } else u } : State).replied .setMode tag [0x00, m])) ∧
    (m = 0x00 → s.mode = .idle →
      exec (.setMode tag [m]) s = .next (({ s with
        mode := .run
        stations := s.stations.map fun u =>
          { u with hold := { u.hold with idle := false } } } : State).replied .setMode tag [0x00, m])) ∧
    (m = 0x02 → s.mode ≠ .standby →
      let f := flush { s with
        mode := .standby
        stations := s.stations.map fun u => ({ u with
          hold := { u.hold with idle := u.hold.idle || (s.mode == .run && u.setup.enabled) } } : Station).lift }
      exec (.setMode tag [m]) s = .next (({ f with
        tracker := { f.tracker with state := .off, window := none }
        stations := f.stations.map reheated
        wake := some (s.web + BitVec.ofNat 32 s.entry.wakeTravel) } : State).replied .setMode tag [0x00, m])) ∧
    (m = 0x00 → s.mode = .standby →
      exec (.setMode tag [m]) s = .next ((leftStandby .run 1 s).replied .setMode tag [0x00, m])) ∧
    (m = 0x01 → s.mode = .standby →
      exec (.setMode tag [m]) s = .next ((leftStandby .idle 1 s).replied .setMode tag [0x00, m])) ∧
    (∀ p, s.mode = .standby → s.wake = some p → 0 ≤ sdiff s.ref.hw p →
      exec .wakeThreshold s = .next (leftStandby .idle 2 s)) ∧
    (s.mode ≠ .standby ∨ s.wake = none ∨ (∃ p, s.wake = some p ∧ sdiff s.ref.hw p < 0) →
      exec .wakeThreshold s = .next s)

/-- An open agreement span is abandoned, its tally set to 0 (R16). -/
def abandoned (r : Reference) : Reference :=
  { r with spanOrigin := none, tally := if r.spanOrigin.isSome then 0 else r.tally }

/-- A span opens at the web counter once both sources are MOVING and none is open (R15). -/
def spanOpened (r : Reference) : Reference :=
  if r.spanOrigin = none ∧ r.line.state = .moving ∧ r.wheel.state = .moving
  then { r with spanOrigin := some r.web, tally := 0 } else r

/-- What SET SOURCE's action does to source `x` (R3, R6, R15, R16, R18): ENABLE takes it from OFF to STILL, or to FAULT
with the actions of R7 while its fault input is asserted, DISABLE takes it to OFF, and SELECT selects it, the last two
abandoning an open span. -/
def sourceActed (action : Nat) (x : Source) (s : State) : State :=
  let u := s.ref.source x
  if action = 1 ∧ u.state = .off ∧ u.faultIn = false then
    { s with ref := s.ref.withSource x { u with state := .still } }
  else if action = 1 ∧ u.state = .off then
    let t : State := { s with ref := abandoned (s.ref.withSource x { u with state := .fault, motion := none }) }
    raiseEvent .sourceFault 0 x.code (if s.ref.selected = x then flush (addReference t) else t)
  else if action = 2 ∧ u.state ≠ .off then
    { s with ref := abandoned (s.ref.withSource x { u with state := .off, motion := none }) }
  else if action = 3 ∧ s.ref.selected ≠ x then
    { s with ref := spanOpened (abandoned { s.ref with selected := x }) }
  else s

/-- A reverse limit is taken, and a web already further behind HW starts the actions of R11: REFERENCE at the enabled
stations, REVERSE_LIMIT, and the flush (R11, R18). -/
def limitTaken (limit : Nat) (s : State) : State :=
  let t : State := { s with ref := { s.ref with reverseLimit := limit } }
  let lag := sdiff s.ref.hw s.web
  if limit < lag then flush (raiseEvent .reverseLimit 0 (min 65535 lag.toNat) (addReference t)) else t

/-- O39. SET SOURCE (R17, R18, R3, R6, R11): its four refusals in order; otherwise the scale given becomes the source's
K, the action acts, the reverse limit given, clamped, is taken with the test of R11, and the tolerance given, clamped,
is taken, a value not given staying as it is. With no value given, NONE, and an ENABLE, DISABLE or SELECT of a source
already so, change nothing. The reply is the 17 octets of section 10.4, and the notices the request raises on an idle
line are sent ahead of it (the model's inference, log 17). -/
def Obligations.SetSourceActs : Prop :=
  ∀ (s : State) (tag : Octet) (p : List Octet), s.atRest = true → p.length = 9 →
    let action := u8 p 1
    let scale := u32 p 2
    let limit := u16 p 6
    let tolerance := u8 p 8
    let out := exec (.setSource tag p) s
    let given : Prop := scale ≠ 0 ∨ limit ≠ 0 ∨ tolerance ≠ 0
    let both : Prop := s.ref.line.state = .moving ∧ s.ref.wheel.state = .moving
    let source (u : SourceUnit) : List Octet :=
      [if u.state = .off then 0x00 else 0x01] ++ octets 1 u.state.code ++ octets 4 u.k
    let answers (status : Octet) (t : State) : State := t.replied .setSource tag (status ::
      (octets 1 t.ref.selected.code ++ source t.ref.line ++ source t.ref.wheel ++ octets 2 t.ref.reverseLimit ++
        octets 1 t.ref.tolerance))
    (u8 p 0 ≠ 1 ∧ u8 p 0 ≠ 2 → out = .next (s.replied .setSource tag [0x04])) ∧
    ∀ x, sourceOf (u8 p 0) = some x →
      let u := s.ref.source x
      (3 < action ∨ 1048575 < scale → out = .next (s.replied .setSource tag [0x04])) ∧
      (action ≤ 3 → scale ≤ 1048575 → given → s.job.state ≠ .none →
        out = .next (s.replied .setSource tag [0x05])) ∧
      (action = 2 → scale ≤ 1048575 → (given → s.job.state = .none) → s.ref.selected = x →
        out = .next (s.replied .setSource tag [0x06])) ∧
      (action = 3 → scale ≤ 1048575 → (given → s.job.state = .none) → s.ref.selected ≠ x → ¬ both →
        out = .next (s.replied .setSource tag [0x07])) ∧
      (¬ given → action = 0 ∨ (action = 1 ∧ u.state ≠ .off) ∨ (action = 2 ∧ s.ref.selected ≠ x ∧ u.state = .off) ∨
          (action = 3 ∧ s.ref.selected = x) →
        out = .next (answers 0x00 s)) ∧
      (action ≤ 3 → scale ≤ 1048575 → (given → s.job.state = .none) → (action = 2 → s.ref.selected ≠ x) →
        (action = 3 → s.ref.selected ≠ x → both) →
        let limit' := max 100 (min 50000 limit)
        let tolerance' := max 1 (min 100 tolerance)
        let status : Octet := if (limit = 0 ∨ limit' = limit) ∧ (tolerance = 0 ∨ tolerance' = tolerance)
          then 0x00 else 0x01
        let scaled : State := { s with ref := s.ref.withSource x { u with k := if scale = 0 then u.k else scale } }
        let acted := sourceActed action x scaled
        let t := if limit = 0 then acted else limitTaken limit' acted
        out = .next (answers status
          (if tolerance = 0 then t else { t with ref := { t.ref with tolerance := tolerance' } })))

/-- What a reset of the part leaves in every block but the reference unit, the link and the event set: the reset
values, with each input pin at the level it has (log 4) and each drive sent a full STOP (R113, R137, R153, R171,
R187). -/
def resetBlocks (s t : State) : Prop :=
  t.pending = s.pending ∧ t.entry = EntrySettings.reset ∧ t.m0 = MarkChannel.reset ∧ t.zones = [] ∧
  t.tracker = Tracker.reset ∧ t.queue = [] ∧ t.job = JobStore.reset ∧ t.mode = .idle ∧ t.wake = none ∧
  t.trace = TraceQueue.reset ∧
  (∀ st, t.station st = { Station.reset with
    engagedIn := (s.station st).engagedIn, liftedIn := (s.station st).liftedIn,
    zone := { HeatZone.reset with faultIn := (s.station st).zone.faultIn } }) ∧
  ∀ l, t.lane l = { Lane.reset with
    faultIn := (s.lane l).faultIn
    drive := (s.lane l).drive ++ [{ kind := .stopAll, start := 0, length := 0, follow := .jump }] }

/-- A source after a reset (R19): its pins keep their levels (log 4). -/
def resetSource (u : SourceUnit) (state : SourceState) : SourceUnit :=
  { state, k := 65536, motion := none, faultIn := u.faultIn, pairA := u.pairA, pairB := u.pairB }

/-- The reference unit after a reset (R19), with LINE in the state given. -/
def resetReference (r : Reference) (state : SourceState) : Reference :=
  { line := resetSource r.line state, wheel := resetSource r.wheel .off, selected := .line, acc := 0, hw := 0,
    speed := 0, sampleBase := 0, sampleTimer := 10, reverseLimit := 5000, tolerance := 20, spanOrigin := none,
    tally := 0, rewound := 0 }

/-- O40. RESET is answered OK and holds the dispatcher until its reply has been sent, at which FRAME_SENT resets the
part with cause 2 and the line rate kept, a good frame found in between waiting untaken in the receive queue;
HARDWARE_RESET and POWER_ON_RESET reset it with cause 1 and the straps' rate (R189, R172, R19). RESTART alone is then
pending, in the notice-due list; with LINE's fault input asserted, LINE enters FAULT, and RESTART is sent first,
QUEUE_FLUSHED and SOURCE_FAULT due after it (log 6). -/
def Obligations.ResetsOfThePart : Prop :=
  ∀ (s : State) (tag : Octet) (f : OutFrame) (strap1 strap0 : Bool),
    let rate := BitVec.ofNat 2 (2 * strap1.toNat + strap0.toNat)
    (s.atRest = true →
      exec (.reset tag []) s = .next (txChoose { s with link := { s.link with
        resetPending := true, slot := some { kind := 0x82, tag := tag, payload := [0x00], resets := true } } })) ∧
    (∀ (i : Instr) (g : Frame), i.frame? = some g → s.link.resetPending = true → s.link.tx.isSome = true →
      s.link.rxQueue.length < 2 →
      exec i s = .next { s with link := { s.link with rxQueue := s.link.rxQueue ++ [g] } }) ∧
    (s.ref.line.faultIn = false →
      (s.link.tx = some f → f.resets = true →
        ∃ t, exec .frameSent s = .next t ∧ resetBlocks s t ∧ t.ref = resetReference s.ref .still ∧
          t.link = Link.resetAt s.link.rate ∧ t.events = EventSet.resetFor 2) ∧
      (∃ t, exec (.hardwareReset strap1 strap0) s = .next t ∧ resetBlocks s t ∧
        t.ref = resetReference s.ref .still ∧ t.link = Link.resetAt rate ∧ t.events = EventSet.resetFor 1) ∧
      (∃ t, exec (.powerOnReset strap1 strap0) s = .next t ∧ resetBlocks s t ∧
        t.ref = resetReference s.ref .still ∧ t.link = Link.resetAt rate ∧ t.events = EventSet.resetFor 1)) ∧
    (s.ref.line.faultIn = true →
      ∃ t, exec (.hardwareReset strap1 strap0) s = .next t ∧ exec (.powerOnReset strap1 strap0) s = .next t ∧
        resetBlocks s t ∧ t.ref = resetReference s.ref .fault ∧
        t.link = { Link.resetAt rate with tx := some (OutFrame.mk 0xFF 0x00 [0, 0, 0, 0, 0, 0, 1, 0] false) } ∧
        t.events.due = [.queueFlushed, .sourceFault] ∧ t.events.flags = 0b10011#24) ∧
    (s.ref.line.faultIn = true → s.link.tx = some f → f.resets = true →
      ∃ t, exec .frameSent s = .next t ∧ resetBlocks s t ∧ t.ref = resetReference s.ref .fault ∧
        t.link = { Link.resetAt s.link.rate with
          tx := some (OutFrame.mk 0xFF 0x00 [0, 0, 0, 0, 0, 0, 2, 0] false) } ∧
        t.events.due = [.queueFlushed, .sourceFault] ∧ t.events.flags = 0b10011#24)

/-- O41. The part right after power-on holds, in every unit, the reset values of R19, R39, R65, R89, R113, R137, R153,
R171, R187 and R189, with the settings they name (R83, R93, R117, R144); the units' reset values, which O40 compares
with, are spelled out here. The levels of the input pins and of the straps, all low, are the model's choice (log 4). -/
def Obligations.ResetValues : Prop :=
  let s := State.reset
  let source (state : SourceState) : SourceUnit :=
    { state := state, k := 65536, motion := none, faultIn := false, pairA := false, pairB := false }
  s.pending = [] ∧ s.queue = [] ∧ s.zones = [] ∧ s.mode = .idle ∧ s.wake = none ∧
  s.ref = { line := source .still, wheel := source .off, selected := .line, acc := 0, hw := 0, speed := 0,
            sampleBase := 0, sampleTimer := 10, reverseLimit := 5000, tolerance := 20, spanOrigin := none, tally := 0,
            rewound := 0 } ∧
  s.entry = EntrySettings.reset ∧ EntrySettings.reset =
    { nmin := 150, nmax := 450, cmin := 600, cmax := 1200, ewin := 500, missLimit := 4, spliceOffset := 0,
      guard := 1000, wakeTravel := 10000 } ∧
  s.m0 = MarkChannel.reset ∧ MarkChannel.reset = { state := .out, rejected := 0, stray := 0 } ∧
  s.tracker = Tracker.reset ∧
  Tracker.reset = { state := .off, cursor := 0, window := none, missRun := 0, seqCounter := 0 } ∧
  (∀ st, s.station st = Station.reset) ∧ Station.reset =
    { setup := { kind := .emboss, enabled := false, path := 100000, lead := 20000, swin := 1000, missLimit := 4,
                 strikeOnPredicted := false, dieSlots := 1, engageMs := 40, actTimeout := 200, policy := .exceptions }
      hold := { reference := false, actuator := false, heatFault := false, foilDrive := false, thermal := false,
                foilOut := false, marksLost := false, pause := false, idle := false }
      actuator := .lifted, valve := .lift, stroke := none, engagedIn := false, liftedIn := false, idleLift := none
      struck := 0, skipped := 0, missed := 0, marred := 0, drift := 0, unusable := 0
      loop := { cursor := 0, synced := true, waiting := none, gate := none, trim := 0, settleCtr := 0,
                trimSat := false, pairs := 0, corrections := 0, largest := 0, last := none, orphans := 0
                tuning := { target := 0, capture := 2000, deadBand := 10, gain := 8, stepMax := 300,
                            trimLimit := 10000, settle := 1, mode := .auto } }
      channel := { state := .out, rejected := 0, stray := 0 }
      zone := HeatZone.reset } ∧
  HeatZone.reset =
    { enabled := false, state := .off, latest := 0, heater := false, soakTimer := none, faultIn := false
      set := { sp := 1200, standbySp := 600, band := 50, hysteresis := 20, margin := 100, soak := 30 } } ∧
  (∀ l, s.lane l = Lane.reset) ∧ Lane.reset =
    { station := none, state := .unassigned, lastFeed := none, idleRun := 0, pendingFeeds := [], loaded := 0,
      used := 0, saved := 0, lowWarned := false, feeds := 0, jumps := 0, late := 0, faultIn := false
      set := { leadMargin := 100, tailMargin := 100, jumpThreshold := 2000, jumpMs := 20, parkAfter := 8,
               wakeMs := 50, lowThreshold := 5000000 }
      drive := [{ kind := .stopAll, start := 0, length := 0, follow := .jump }] } ∧
  s.job = JobStore.reset ∧ JobStore.reset =
    { motifs := Vector.replicate 16 { valid := false, mask := ⟨false, false, false, false⟩,
                                      segments := ⟨[], [], [], [], [], []⟩ }
      active := none, activeLive := 0, buffer := .empty, draining := none, drainingLive := 0, state := .none,
      endReason := none, target := 0, admitted := 0 } ∧
  s.trace = TraceQueue.reset ∧ TraceQueue.reset = { entries := [], dropped := 0, watermark := 48 } ∧
  s.link = Link.resetAt 0 ∧ (∀ rate, Link.resetAt rate =
    { held := [], gap := none, abandoned := 0, badLength := 0, badCrc := 0, rxQueue := [], overrun := false,
      lostKind := 0, lostTag := 0, overruns := 0, resetPending := false, slot := none, tx := none, rate := rate }) ∧
  s.events = EventSet.resetFor 1 ∧ ∀ cause,
    let e := EventSet.resetFor cause
    (∀ k : EventKind, k.isIn e.flags = (k == .restart) ∧ k.isIn e.mask = true ∧
      e.record k = { unit := 0, detail := if k = .restart then cause else 0, web := 0 }) ∧ e.due = [.restart]

/-! ### The web position and the flush (chapter 1) -/

/-- The levels of a pair change one step forward: low low, high low, high high, low high, and round again (R4). -/
def forwardStep (a b a' b' : Bool) : Prop :=
  (a, b, a', b') ∈ [(false, false, true, false), (true, false, true, true), (true, true, false, true),
    (false, true, false, false)]

/-- A count of the selected source: the accumulator moves by `k`, and HW follows the web counter when it lies after it
(R5, R8). -/
def movedWeb (r : Reference) (forward : Bool) (k : Nat) : Reference :=
  let acc := if forward then r.acc + BitVec.ofNat 48 k else r.acc - BitVec.ofNat 48 k
  let web := acc.extractLsb' 16 32
  { r with acc := acc, hw := if 0 < sdiff web r.hw then web else r.hw }

/-- The counting source is MOVING, its motion timer started anew, and its pair at the new levels (R3). -/
def sourceMoves (r : Reference) (x : Source) (a b : Bool) : Reference :=
  r.withSource x { r.source x with state := .moving, motion := some 200, pairA := a, pairB := b }

/-- An agreement span with origin `o` at a count of the selected source: once the web is 100,000 ticks from it the span
closes, SOURCE_DISAGREE being raised past the tolerance, and a new one opens at the same count (R15). -/
def spanTested (o : Pos) (s : State) : State :=
  if sdiff s.web o < 100000 then s
  else
    let dev := ((roundDiv s.ref.tally.toInt 65536 : Int) - 100000).natAbs * 1000
    let t : State := { s with ref := { s.ref with spanOrigin := some s.web, tally := 0 } }
    if s.ref.tolerance * 100000 < dev then raiseEvent .sourceDisagree 0 (min 65535 (dev / 100000)) t else t

/-- O42. SOURCE_COUNT (R3, R4, R5, R8, R11, R15): a change of both levels or of neither, or at a source in OFF or
FAULT, moves only the levels; a count of the selected source moves the accumulator by its scale and HW with it, and
one of the unselected source the tally of an open span; the source is then MOVING and a span may open. A span closes
once the web is 100,000 ticks from its origin, SOURCE_DISAGREE raised past the tolerance, and a reverse past the limit
adds REFERENCE, raises REVERSE_LIMIT and flushes. The order of these acts within one count is the model's (log 7). -/
def Obligations.SourceCountMovesTheWeb : Prop :=
  ∀ (s : State) (x : Source) (a b : Bool),
    let u := s.ref.source x
    let forward : Prop := forwardStep u.pairA u.pairB a b
    let reverse : Prop := forwardStep a b u.pairA u.pairB
    let counts : Prop := u.state = .still ∨ u.state = .moving
    (¬ counts ∨ (¬ forward ∧ ¬ reverse) →
      exec (.sourceCount x a b) s = .next { s with ref := s.ref.withSource x { u with pairA := a, pairB := b } }) ∧
    (∀ fwd : Bool, counts → (if fwd then forward else reverse) →
      let r := movedWeb s.ref fwd u.k
      let after (r : Reference) : Reference := spanOpened (sourceMoves r x a b)
      (s.ref.selected = x →
        let moved : State :=
          if fwd = false ∧ r.reverseLimit < sdiff r.hw r.web then
            flush (raiseEvent .reverseLimit 0 (min 65535 (sdiff r.hw r.web).toNat) (addReference { s with ref := r }))
          else { s with ref := r }
        let t := match s.ref.spanOrigin with
          | some o => spanTested o moved
          | none => moved
        exec (.sourceCount x a b) s = .next { t with ref := after t.ref }) ∧
      (s.ref.selected ≠ x →
        let tally := if s.ref.spanOrigin = none then s.ref.tally
          else if fwd then s.ref.tally + BitVec.ofNat 48 u.k else s.ref.tally - BitVec.ofNat 48 u.k
        exec (.sourceCount x a b) s = .next { s with ref := after { s.ref with tally := tally } }))

/-- O43. A source's fault input, its motion timer and the speed sample (R3, R7, R13, R16, R198): asserted in STILL or
MOVING the source enters FAULT, its timer stopped and an open span abandoned, and for the selected source REFERENCE is
added and the flush runs before SOURCE_FAULT is raised; clearing takes FAULT to STILL; the motion timer takes MOVING
to STILL, and changes nothing in a source that is not MOVING, whose timer does not run (the model's choice, log 20);
the sample sets the speed to the forward ticks of the last 10 ms, and also just after a fault of the selected source
reads what the web moved in them (the model's choice, log 23). -/
def Obligations.SourceFaultMotionAndSpeed : Prop :=
  ∀ (s : State) (x : Source),
    let u := s.ref.source x
    let moves : Prop := u.state = .still ∨ u.state = .moving
    let faulted := abandoned (s.ref.withSource x { u with faultIn := true, state := .fault, motion := none })
    let fault : State := { s with ref := faulted }
    (moves → s.ref.selected ≠ x →
      exec (.sourceFaultInputAsserted x) s = .next (raiseEvent .sourceFault 0 x.code fault)) ∧
    (moves → s.ref.selected = x →
      exec (.sourceFaultInputAsserted x) s = .next (raiseEvent .sourceFault 0 x.code (flush (addReference fault)))) ∧
    (¬ moves →
      exec (.sourceFaultInputAsserted x) s = .next { s with ref := s.ref.withSource x { u with faultIn := true } }) ∧
    exec (.sourceFaultInputClears x) s = .next { s with ref := s.ref.withSource x { u with
      faultIn := false, state := if u.state = .fault then .still else u.state } } ∧
    (u.state = .moving → exec (.motionTimerExpiry x) s =
      .next { s with ref := abandoned (s.ref.withSource x { u with state := .still, motion := none }) }) ∧
    (u.state ≠ .moving → exec (.motionTimerExpiry x) s = .next s) ∧
    exec .speedSampleTimerExpiry s = .next { s with ref := { s.ref with
      speed := min 65535 (sdiff s.web s.ref.sampleBase).toNat, sampleBase := s.web, sampleTimer := 10 } }

/-- O44. The flush (R12, R62, R75, R109, R119, R129, R165, R198): the queue is emptied and the draining plan released,
every station's pairing places, idle-lift point and open mark are dropped, every lane's pending feeds are emptied and
an ACTIVE or PARKED lane is sent a full STOP and PARKED, the tracker enters SEARCH for an ARMED job and OFF otherwise,
a DRAINING job ends with reason FLUSH, HW becomes the web counter, and QUEUE_FLUSHED is raised last, after JOB_ENDED
(the model's inference, log 16), with the number of records removed. -/
def Obligations.FlushEmptiesTheQueue : Prop :=
  ∀ s : State,
    let ended : Prop := s.job.state = .draining
    let lane (l : Lane) : Lane :=
      if l.state = .active ∨ l.state = .parked then
        { l with pendingFeeds := [], lastFeed := none, state := .parked
                 drive := l.drive ++ [{ kind := .stopAll, start := s.web, length := 0, follow := .jump }] }
      else { l with pendingFeeds := [] }
    let t : State := { s with
      queue := []
      m0 := { s.m0 with state := .out }
      stations := s.stations.map fun u => { u with
        idleLift := none, channel := { u.channel with state := .out },
        loop := { u.loop with waiting := none, gate := none } }
      lanes := s.lanes.map lane
      tracker := if s.job.state = .armed then { s.tracker with state := .search, cursor := 0, window := none }
        else { s.tracker with state := .off, window := none }
      job := { s.job with
        activeLive := 0, draining := none, drainingLive := 0,
        state := if ended then .ended else s.job.state,
        endReason := if ended then some .flush else s.job.endReason }
      ref := { s.ref with hw := s.web }
      wake := s.wake.map fun _ => s.web + BitVec.ofNat 32 s.entry.wakeTravel }
    flush s = raiseEvent .queueFlushed 0 s.queue.length
      (if ended then
        { raiseEvent .jobEnded 0 (3 * 256 + placeId s.job.active) s with
          queue := t.queue, m0 := t.m0, stations := t.stations, lanes := t.lanes, tracker := t.tracker, job := t.job,
          ref := t.ref, wake := t.wake }
       else t)

/-- The record holds an undelivered STRIKE at the station: a visit decided STRIKE whose strike point has not been
reached (section 3.7). -/
def undeliveredAt (r : LabelRecord) (st : StationId) : Bool :=
  (r.visit st).any fun v => v.decision == some .strike && v.state != .final

/-- The sequence numbers, in queue order, of the records that withdraw a feed from a lane when their undelivered STRIKE
decisions at the stations given are converted (R57). -/
def withdrawing (q : List LabelRecord) (sts : List StationId) (l : LaneId) : List (BitVec 16) :=
  (q.filter fun r => sts.any fun st => undeliveredAt r st &&
    (r.visit st).any fun v => v.feeds.any fun f => f.lane == l).map LabelRecord.seq

/-- A lane after the one-feed STOPs of the records given: each feed still pending is stopped by a command with its
start and its length and leaves the list, and a lane whose last feed is one of them discards it and is PARKED (R57,
R118, R129). -/
def withdrawn (u : Lane) (seqs : List (BitVec 16)) : Lane :=
  let stopped := seqs.filterMap fun seq => u.pendingFeeds.find? fun f => f.seq == seq
  let parks : Bool := u.lastFeed.any fun g => stopped.any fun f => f.seq == g.seq
  { u with
    drive := u.drive ++ stopped.map fun f =>
      { kind := .stopOne, start := f.start, length := f.length, follow := .jump }
    pendingFeeds := u.pendingFeeds.filter fun f => !seqs.contains f.seq
    lastFeed := if parks then none else u.lastFeed
    state := if parks then .parked else u.state }

/-- O45. A hard cause (R94, R96, R55, R57, R129): at a disabled station, or present already, it changes nothing;
otherwise it enters the hold set, the idle-lift point is cancelled and a lift request made, every undelivered STRIKE
visit of the station becomes SKIP with reason HOLD while every other visit stands, each lane named by a feed of such a
visit is sent its one-feed STOPs in queue order, and each lane of the station then in ACTIVE or PARKED is sent a full
STOP and is PARKED with no feed pending. Every other lane, one of the station in EMPTY or FAULT among them, is left. -/
def Obligations.HardCauseTakesTheFaultActions : Prop :=
  ∀ (s : State) (c : Cause) (st : StationId), c ∈ hardCauses → s.Numbered → s.Capacities →
    (s.enabled st = false ∨ (s.station st).hold.has c = true → addHard c st s = s) ∧
    (s.enabled st = true → (s.station st).hold.has c = false →
      let t := addHard c st s
      let converted (v : Visit) : Visit :=
        if v.decision = some .strike ∧ v.state ≠ .final then { v with decision := some (.skip .hold) } else v
      t.station st = { ({ s.station st with idleLift := none } : Station).lift with
        hold := (s.station st).hold.put c true } ∧
      (∀ st', st' ≠ st → t.station st' = s.station st') ∧
      t.queue = s.queue.map (fun r => { r with visits := r.visits.put st ((r.visits.get st).map converted) }) ∧
      (∀ l,
        let w := withdrawn (s.lane l) (withdrawing s.queue [st] l)
        t.lane l =
          if (s.lane l).station = some st ∧ (w.state = .active ∨ w.state = .parked) then
            { w with
              state := .parked
              pendingFeeds := []
              lastFeed := none
              drive := w.drive ++ [{ kind := .stopAll, start := s.web, length := 0, follow := .jump }] }
          else w) ∧
      { t with stations := s.stations, lanes := s.lanes, queue := s.queue } = s)

/-! ### Marks, splices and the entry tracker (chapter 2) -/

/-- O46. An edge taken while the web lies behind HW changes nothing but the rewound-edge count (R10). -/
def Obligations.RewoundEdgesAreCounted : Prop :=
  ∀ (s : State) (i : Instr), sdiff s.web s.ref.hw < 0 →
    (∃ ch, i = .markLeadingEdge ch) ∨ (∃ ch, i = .markTrailingEdge ch) ∨ (∃ lead, i = .spliceEdge lead) ∨
      (∃ st index, i = .dieGate st index) →
    exec i s = .next { s with ref := { s.ref with rewound := min 65535 (s.ref.rewound + 1) } }

/-- O47. A mark channel (R20 to R23): a leading edge enters IN_MARK at the web counter and rejects a mark left open;
at the over-width threshold the channel is OVERWIDE and the mark rejected; a trailing edge leaves the mark, rejecting
one whose width is in neither band; a qualified mark at a disabled station, or with the tracker OFF, goes no further,
and one that matches no visit is stray. An over-width threshold not reached, or of no open mark, changes nothing (the
model's choice, log 2). -/
def Obligations.MarkChannelMoves : Prop :=
  ∀ (s : State) (ch : Channel), 0 ≤ sdiff s.web s.ref.hw →
    let c := s.channel ch
    let rejected := min 65535 (c.rejected + 1)
    let width (lead : Pos) : Int := sdiff s.web lead
    let normal (lead : Pos) : Prop := (s.entry.nmin : Int) ≤ width lead ∧ width lead ≤ s.entry.nmax
    let cycle (lead : Pos) : Prop := (s.entry.cmin : Int) ≤ width lead ∧ width lead ≤ s.entry.cmax
    exec (.markLeadingEdge ch) s = .next (s.setChannel ch { c with
      state := .inMark s.web (s.web + BitVec.ofNat 32 (s.entry.cmax + 1))
      rejected := (match c.state with | .inMark _ _ => rejected | _ => c.rejected) }) ∧
    (∀ lead p, c.state = .inMark lead p → 0 ≤ sdiff s.ref.hw p →
      exec (.overwidthThreshold ch) s = .next (s.setChannel ch { c with state := .overwide, rejected := rejected })) ∧
    ((∀ lead p, c.state = .inMark lead p → sdiff s.ref.hw p < 0) →
      exec (.overwidthThreshold ch) s = .next s) ∧
    (c.state = .out → exec (.markTrailingEdge ch) s = .next s) ∧
    (c.state = .overwide → exec (.markTrailingEdge ch) s = .next (s.setChannel ch { c with state := .out })) ∧
    (∀ lead p, c.state = .inMark lead p → ¬ normal lead → ¬ cycle lead →
      exec (.markTrailingEdge ch) s = .next (s.setChannel ch { c with state := .out, rejected := rejected })) ∧
    (∀ lead p, c.state = .inMark lead p → normal lead ∨ cycle lead →
      (ch = .m0 → s.tracker.state = .off →
        exec (.markTrailingEdge ch) s = .next (s.setChannel ch { c with state := .out })) ∧
      (∀ st, ch = .station st → s.enabled st = false →
        exec (.markTrailingEdge ch) s = .next (s.setChannel ch { c with state := .out })) ∧
      (∀ st, ch = .station st → s.enabled st = true →
        (∀ r v, s.oldestWaiting st = some (r, v) → v.swin < (sdiff lead v.expected).natAbs) →
        exec (.markTrailingEdge ch) s = .next (s.setChannel ch { c with
          state := .out, stray := min 65535 (c.stray + 1) })))

/-- The record of an admission of slot `k` at `e` (R29, R35, R40, R41, R44). -/
def recordOf (s : State) (plan : Plan) (k : Nat) (slot : PlanSlot) (e : Pos) (origin : Origin) (cycleMark : Bool) :
    LabelRecord :=
  let visit (u : Station) : Option Visit :=
    if u.setup.enabled then
      let expected := posShift e (u.setup.path + u.drift)
      some { state := .waiting, expected, swin := u.setup.swin,
             expiry := posShift expected (u.setup.swin + s.entry.cmax), markPos := none, strikePt := none,
             decision := none, error := none, regFlags := RegFlags.empty, feeds := [], outcome := none }
    else none
  { seq := s.tracker.seqCounter, plan := plan.id, slot := k, motif := slot.motif, pitch := slot.pitch, entryPos := e,
    origin, splice := s.zones.any fun z => decide (sdiff z.first (posShift e slot.pitch) < 0 ∧ 0 ≤ sdiff z.last e),
    excess := decide (s.job.target ≠ 0 ∧ s.job.admitted = s.job.target), cycleMark,
    visits := ⟨visit s.stations.s1, visit s.stations.s2, visit s.stations.s3, visit s.stations.s4⟩ }

/-- The part after steps 3 to 6 of an admission of slot `k` at `e` under the active plan, with no window of the record
reached (R29, R35). A record without visits retires at once from an empty queue (R43). -/
def admitted (s : State) (plan : Plan) (k : Nat) (slot : PlanSlot) (e : Pos) (origin : Origin) (cycleMark : Bool)
    (missRun : Nat) : State :=
  let r := recordOf s plan k slot e origin cycleMark
  let expected := posShift e slot.pitch
  let stays : Bool := allStations.any s.enabled || !s.queue.isEmpty
  { s with
    queue := if stays then s.queue ++ [r] else []
    job := { s.job with
      activeLive := if stays then s.job.activeLive + 1 else s.job.activeLive
      admitted := if r.excess ∨ r.splice then s.job.admitted else min 4294967295 (s.job.admitted + 1) }
    tracker := { state := .locked, cursor := (k + 1) % plan.slots.length,
                 window := some { expected, first := posShift expected (-s.entry.ewin),
                                  last := posShift expected s.entry.ewin,
                                  expiry := posShift expected (s.entry.ewin + s.entry.cmax) },
                 missRun, seqCounter := s.tracker.seqCounter + 1 } }

/-- Slot `k` of the active plan of an ARMED job can be admitted at `e`: the queue has room and its head is open, and no
window of the new record is reached yet. -/
structure Admits (s : State) (plan : Plan) (k : Nat) (slot : PlanSlot) (e : Pos) : Prop where
  armed : s.job.state = .armed
  active : s.job.active = some plan
  slot : plan.slots[k]? = some slot
  room : s.queue.length < 256
  openHead : ∀ r, s.queue.head? = some r → r.allFinal = false
  windows : ∀ st, s.enabled st = true →
    let u := s.station st
    sdiff s.ref.hw (posShift (posShift e (u.setup.path + u.drift)) (u.setup.swin + s.entry.cmax)) < 0
  numbered : s.Numbered

/-- The part after step 2 of an admission of slot `k`: a slot-0 admission while a plan is READY is a changeover, at
which the active plan with live records becomes the draining plan, the READY plan the active one with the job ARMED
and its count at 0, and PLAN_CHANGED is raised (R29, R34, R166). -/
def changedOver (s : State) (k : Nat) : State :=
  match k, s.job.buffer with
  | 0, .ready p => raiseEvent .planChanged 0 p.id { s with job := { s.job with
      draining := if 0 < s.job.activeLive then s.job.active else s.job.draining
      drainingLive := if 0 < s.job.activeLive then s.job.activeLive else s.job.drainingLive
      active := some p, activeLive := 0, buffer := .empty, state := .armed, endReason := none, admitted := 0,
      target := p.target } }
  | _, _ => s

/-- The tracker in SEARCH (R28). -/
def searching (s : State) : State :=
  { s with tracker := { s.tracker with state := .search, cursor := 0, window := none } }

/-- The batch stop test applies: the ARMED job's count stands at its non-zero target and no plan is READY (R36). -/
def batchReached (s : State) : Prop :=
  s.job.state = .armed ∧ s.job.target ≠ 0 ∧ s.job.admitted = s.job.target ∧ ∀ p, s.job.buffer ≠ .ready p

/-- The batch stop: the job DRAINING with reason BATCH and the tracker in SEARCH; with no record of the plan live the
job is ENDED at once and JOB_ENDED raised (R36, R165). -/
def batchStopped (s : State) : State :=
  if s.job.activeLive = 0 then
    raiseEvent .jobEnded 0 (256 + placeId s.job.active)
      (searching { s with job := { s.job with state := .ended, endReason := some .batch } })
  else searching { s with job := { s.job with state := .draining, endReason := some .batch } }

/-- A command's outcome is an admission's: the state given, after the batch stop test of step 7 (R29, R36). -/
def admitsTo (o : Host.Outcome State Fault Refusal) (t : State) : Prop :=
  (¬ batchReached t → o = .next t) ∧ (batchReached t → o = .next (batchStopped t))

/-- O48. A qualified mark at M0 and the entry window's expiry (R28 to R36, R165, R166). At a batch that has reached its
target each stops the batch and admits nothing. In SEARCH, under the sync of a READY plan or else of the ARMED job's, a
CYCLE mark or any mark under sync ANY admits slot 0, locks the tracker and raises ENTRY_LOCKED (before the batch stop,
log 8); a NORMAL mark under CYCLE, or with neither plan, is ignored. In LOCKED a mark in the window admits the cursor's
slot, or slot 0 with SLOT_SLIP for a CYCLE mark at another, and one outside is stray. At the expiry the miss run rises,
and the slot is predicted until the run reaches its limit, when the tracker searches with ENTRY_LOST raised before the
batch stop (log 10). A slot-0 admission with a plan READY is the changeover; with 256 records live QUEUE_OVERFLOW is
raised instead and the tracker searches. An admission is stated where no station window of the record is reached yet;
an entry window already reached is left due (log 18). ENTRY_LOCKED and SLOT_SLIP come after PLAN_CHANGED, and not with
QUEUE_OVERFLOW (log 9). With no window, or a threshold not reached, the expiry changes nothing (the model's choice, log
2). -/
def Obligations.EntryTrackerAdmits : Prop :=
  ∀ s : State,
    (∀ lead p, s.m0.state = .inMark lead p → 0 ≤ sdiff s.web s.ref.hw →
      let width := sdiff s.web lead
      let normal : Prop := (s.entry.nmin : Int) ≤ width ∧ width ≤ s.entry.nmax
      let cycle : Prop := ¬ normal ∧ (s.entry.cmin : Int) ≤ width ∧ width ≤ s.entry.cmax
      let left : State := { s with m0 := { s.m0 with state := .out } }
      let out := exec (.markTrailingEdge .m0) s
      let k := s.tracker.cursor
      let first := changedOver left 0
      (s.tracker.state ≠ .off → normal ∨ cycle → batchReached s → out = .next (batchStopped left)) ∧
      (s.tracker.state = .search → ¬ batchReached s →
        (normal ∨ cycle → first.job.state ≠ .armed → out = .next left) ∧
        ∀ plan, first.job.state = .armed → first.job.active = some plan →
          (normal → plan.sync = .cycle → out = .next left) ∧
          (cycle ∨ (normal ∧ plan.sync = .any) → 256 ≤ s.queue.length →
            out = .next (searching (raiseEvent .queueOverflow 0 0 left))) ∧
          (∀ slot, cycle ∨ (normal ∧ plan.sync = .any) → Admits first plan 0 slot lead →
            admitsTo out (raiseEvent .entryLocked 0 plan.id
              (admitted first plan 0 slot lead .detected (!decide normal) 0)))) ∧
      (∀ w, s.tracker.state = .locked → s.tracker.window = some w → ¬ batchReached s →
        let inside : Prop := 0 ≤ sdiff lead w.first ∧ 0 ≤ sdiff w.last lead
        (normal ∨ cycle → ¬ inside →
          out = .next { s with m0 := { s.m0 with state := .out, stray := min 65535 (s.m0.stray + 1) } }) ∧
        (∀ plan slot, normal ∨ (cycle ∧ k = 0) → inside → Admits (changedOver left k) plan k slot lead →
          admitsTo out (admitted (changedOver left k) plan k slot lead .detected (!decide normal) 0)) ∧
        (∀ plan slot, cycle → 0 < k → inside → Admits first plan 0 slot lead →
          admitsTo out (raiseEvent .slotSlip 0 k (admitted first plan 0 slot lead .detected true 0))) ∧
        (normal ∨ cycle → inside → 256 ≤ s.queue.length →
          out = .next (searching (raiseEvent .queueOverflow 0 (if normal then k else 0) left))))) ∧
    (∀ w, s.tracker.state = .locked → s.tracker.window = some w → 0 ≤ sdiff s.ref.hw w.expiry →
      let run := min 31 (s.tracker.missRun + 1)
      let k := s.tracker.cursor
      let missed : State := { s with tracker := { s.tracker with missRun := run } }
      let out := exec .entryWindowExpiry s
      (run = s.entry.missLimit → admitsTo out (raiseEvent .entryLost 0 k (searching missed))) ∧
      (run ≠ s.entry.missLimit → batchReached s → out = .next (batchStopped missed)) ∧
      (¬ batchReached s → run ≠ s.entry.missLimit → 256 ≤ s.queue.length →
        out = .next (searching (raiseEvent .queueOverflow 0 k missed))) ∧
      (∀ plan slot, ¬ batchReached s → run ≠ s.entry.missLimit → Admits (changedOver s k) plan k slot w.expected →
        admitsTo out (admitted (changedOver s k) plan k slot w.expected .predicted false run))) ∧
    (s.tracker.state ≠ .locked ∨ (∀ w, s.tracker.window = some w → sdiff s.ref.hw w.expiry < 0) →
      exec .entryWindowExpiry s = .next s)

/-- O49. A leading splice edge not rewound makes a zone about it, the oldest leaving a full list; every live record
that overlaps it gains the SPLICE flag and its undelivered STRIKE visits become SKIP with reason SPLICE, record by
record in queue order (the model's choice, log 24): the lanes their feeds name are sent their one-feed STOPs, and a
station lifts when the first record with an undelivered STRIKE at it is one of them. A trailing edge changes nothing. A
zone leaves the list once HW has reached its removal threshold, 65,000 ticks past its end; while no zone's threshold is
reached the removal changes nothing (the model's choice, log 2) (R24 to R26, R56, R57, R106, R129, R9). -/
def Obligations.SpliceZonesComeAndGo : Prop :=
  ∀ s : State, s.Numbered → s.Capacities → 0 ≤ sdiff s.web s.ref.hw →
    let z : SpliceZone := { first := posShift s.web (s.entry.spliceOffset - s.entry.guard),
                            last := posShift s.web (s.entry.spliceOffset + s.entry.guard) }
    let zones := (if s.zones.length < 4 then s.zones else s.zones.drop 1) ++ [z]
    let hit (r : LabelRecord) : Bool := !r.splice && decide (sdiff z.first (posShift r.entryPos r.pitch) < 0) &&
      decide (0 ≤ sdiff z.last r.entryPos)
    let removal (z : SpliceZone) : Pos := posShift z.last 65000
    exec (.spliceEdge false) s = .next s ∧
    ((∀ r ∈ s.queue, hit r = false) → exec (.spliceEdge true) s = .next { s with zones := zones }) ∧
    (∃ t : State, exec (.spliceEdge true) s = .next t ∧ t.zones = zones ∧
      { t with queue := s.queue, stations := s.stations, lanes := s.lanes, zones := s.zones } = s ∧
      (∀ (j : Nat) (r : LabelRecord), s.queue[j]? = some r → ∃ r', t.queue[j]? = some r' ∧ (hit r = false → r' = r) ∧
        (hit r = true → { r' with splice := r.splice, visits := r.visits } = r ∧ r'.splice = true ∧
          ∀ st, r'.visit st = (r.visit st).map fun v =>
            if v.decision = some .strike ∧ v.state ≠ .final then { v with decision := some (.skip .splice) } else v)) ∧
      t.queue.length = s.queue.length ∧
      (∀ l, t.lane l = withdrawn (s.lane l) (withdrawing (s.queue.filter hit) allStations l)) ∧
      ∀ st, t.station st = if (s.queue.find? fun r => undeliveredAt r st).any hit
        then ({ s.station st with idleLift := none } : Station).lift else s.station st) ∧
    ((∀ z ∈ s.zones, sdiff s.ref.hw (removal z) < 0) → exec .spliceZoneRemoval s = .next s) ∧
    (∀ before z after, s.zones = before ++ z :: after → 0 ≤ sdiff s.ref.hw (removal z) →
      (∀ z' ∈ before ++ after, sdiff s.ref.hw (removal z') < 0) →
      exec .spliceZoneRemoval s = .next { s with zones := before ++ after })

/-! ### The register loop (chapter 4) -/

/-- A reading with no usable register value takes the unusable run to the miss limit: MARKS_LOST is added (R50, R51). -/
def losesMarks (u : Station) : Bool :=
  decide (u.setup.missLimit ≤ min 31 (u.unusable + 1)) && !u.hold.marksLost && u.setup.enabled

/-- A reading with no usable register value: the unusable run rises, and MARKS_LOST is added and raised when that takes
the run to the miss limit (R50, R51). -/
def unusableTaken (s : State) (st : StationId) : State :=
  let u := s.station st
  let run := min 31 (u.unusable + 1)
  if losesMarks u then raiseEvent .marksLost st.number run
    (s.setStation st { u with unusable := run, hold := { u.hold with marksLost := true } })
  else s.setStation st { u with unusable := run }

/-- The visits of the record with a sequence number at a station, changed. -/
def visitsChanged (q : List LabelRecord) (seq : BitVec 16) (st : StationId) (f : Visit → Visit) : List LabelRecord :=
  q.map fun r => if r.seq = seq then { r with visits := r.visits.put st ((r.visits.get st).map f) } else r

/-- A mark ends NO_GATE: its visit takes the flag, and the reading is unusable (R72). -/
def endsNoGate (s : State) (st : StationId) (seq : BitVec 16) : State :=
  unusableTaken { s with queue := visitsChanged s.queue seq st fun v =>
    { v with regFlags := { v.regFlags with noGate := true } } } st

/-- A register error's step, rounded to nearest with ties away from zero and clamped (R79). -/
def stepOf (t : Tuning) (e : Int) : Int :=
  let size : Int := (e.natAbs * t.gain + 8) / 16
  max (-(t.stepMax : Int)) (min t.stepMax (if e < 0 then -size else size))

/-- A pair's error steps the trim: the slots agree, the settle counter is 0, the mode is AUTO and the error lies outside
the dead band (R76 to R79). -/
def steps (l : RegLoop) (agree : Bool) (e : Int) : Bool :=
  agree && l.settleCtr == 0 && l.tuning.mode == .auto && decide (l.tuning.deadBand < e.natAbs)

/-- The trim a pair asks for, before the saturation (R80). -/
def trimAsked (l : RegLoop) (agree : Bool) (e : Int) : Int :=
  if steps l agree e then l.trim + stepOf l.tuning e else l.trim

/-- The trim after a pair (R67, R80). -/
def trimTaken (l : RegLoop) (agree : Bool) (e : Int) : Int :=
  if steps l agree e then max (-(l.tuning.trimLimit : Int)) (min l.tuning.trimLimit (trimAsked l agree e)) else l.trim

/-- The register flags of a visit after its pair (R76 to R80). -/
def pairFlags (l : RegLoop) (agree : Bool) (e : Int) (f : RegFlags) : RegFlags :=
  { f with
    slotMismatch := f.slotMismatch || !agree
    settle := f.settle || (agree && decide (0 < l.settleCtr))
    deadband := f.deadband || (agree && l.settleCtr == 0 && l.tuning.mode == .auto &&
      decide (e.natAbs ≤ l.tuning.deadBand))
    stepClamped := f.stepClamped || (steps l agree e && decide (l.tuning.stepMax < (e.natAbs * l.tuning.gain + 8) / 16))
    saturated := f.saturated || decide (trimTaken l agree e ≠ trimAsked l agree e) }

/-- The register loop after a pair (R77, R80, R81). -/
def pairLoop (l : RegLoop) (agree : Bool) (e : Int) : RegLoop :=
  let trim := trimTaken l agree e
  { l with
    trim := trim
    trimSat := l.trimSat || decide (trim ≠ trimAsked l agree e)
    settleCtr := if agree = true ∧ 0 < l.settleCtr then l.settleCtr - 1
      else if trim = l.trim then l.settleCtr else l.tuning.settle
    corrections := if trim = l.trim then l.corrections else min 4294967295 (l.corrections + 1)
    pairs := min 4294967295 (l.pairs + 1)
    last := some e
    largest := max l.largest e.natAbs }

/-- The error of a mark and a gate (R70, R76). -/
def errorOf (l : RegLoop) (mark gate : Pos) : Int := sdiff mark gate - l.tuning.target

/-- A mark and a gate of a station pair: the visit takes the error and the flags and the loop its correction; slots that
agree make the reading usable, with TRIM_SATURATED raised when the trim was clamped, and slots that differ make it
unusable, with DIE_SLIP raised (R76 to R82). -/
def pairTaken (s : State) (st : StationId) (mark : Pos) (seq : BitVec 16) (slot : Nat) (gate : Pos) (gateSlot : Nat) :
    State :=
  let u := s.station st
  let e := errorOf u.loop mark gate
  let agree := slot == gateSlot
  let x : Station := { u with loop := pairLoop u.loop agree e }
  let t : State := { s with queue := visitsChanged s.queue seq st fun v =>
    { v with error := some e, regFlags := pairFlags u.loop agree e v.regFlags } }
  if agree then
    let t := t.setStation st { x with unusable := 0, hold := { u.hold with marksLost := false } }
    if trimTaken u.loop agree e ≠ trimAsked u.loop agree e then raiseEvent .trimSaturated st.number 1 t else t
  else raiseEvent .dieSlip st.number (256 + 8 * slot + gateSlot) (unusableTaken (t.setStation st x) st)

/-- The register loop of a station, changed. -/
def withLoop (s : State) (st : StationId) (f : RegLoop → RegLoop) : State :=
  s.setStation st { s.station st with loop := f (s.station st).loop }

/-- A mark that no gate waits for takes the waiting-mark place: a mark held there ends NO_GATE, and so does the new one
when its expiry threshold is already reached (R70, steps 2 and 3, R72). -/
def markHeld (s : State) (st : StationId) (mark : Pos) (seq : BitVec 16) (slot : Nat) : State :=
  let t := match (s.station st).loop.waiting with
    | some old => endsNoGate (withLoop s st fun l => { l with waiting := none }) st old.seq
    | none => s
  let tuning := (s.station st).loop.tuning
  let expiry := posShift mark (tuning.capture - tuning.target)
  if 0 ≤ sdiff s.ref.hw expiry then endsNoGate (withLoop t st fun l => { l with waiting := none }) st seq
  else withLoop t st fun l => { l with waiting := some { pos := mark, seq := seq, slot := slot, expiry := expiry } }

/-- The station matcher hands a mark over to the register loop: it pairs with an unpaired gate within capture, and
otherwise takes the waiting-mark place (R70). -/
def handedOver (s : State) (st : StationId) (mark : Pos) (seq : BitVec 16) (slot : Nat) : State :=
  let l := (s.station st).loop
  match l.gate with
  | some g =>
    if (errorOf l mark g.pos).natAbs ≤ l.tuning.capture then
      pairTaken (withLoop s st fun l => { l with gate := none }) st mark seq slot g.pos g.slot
    else markHeld s st mark seq slot
  | none => markHeld s st mark seq slot

/-- A gate that no mark waits for takes the unpaired-gate place: a gate held there is an orphan, and so is the new one
when its expiry threshold is already reached (R71, steps 2 and 3, R73). -/
def gateHeld (s : State) (st : StationId) (gate : Pos) (slot : Nat) : State :=
  let l := (s.station st).loop
  let expiry := posShift gate (l.tuning.target + l.tuning.capture)
  let reached : Prop := 0 ≤ sdiff s.ref.hw expiry
  let orphans := if l.gate.isSome then min 65535 (l.orphans + 1) else l.orphans
  withLoop s st fun l => { l with
    gate := if reached then none else some { pos := gate, slot := slot, expiry := expiry }
    orphans := if reached then min 65535 (orphans + 1) else orphans }

/-! ### The label queue and the strike decision (chapters 3, 5, 6) -/

/-- The threshold given is the queue's next to be taken: reached, with no other reached threshold nearer the start of
the web, nor as near and before it in queue and station order (R9, R44). -/
def nextThreshold (s : State) (x : DueThreshold) : Prop :=
  0 ≤ sdiff s.ref.hw x.pos ∧ ∃ before after, queueThresholds s.queue = before ++ x :: after ∧
    (∀ y ∈ before, 0 ≤ sdiff s.ref.hw y.pos → 0 < sdiff y.pos x.pos) ∧
    ∀ y ∈ after, 0 ≤ sdiff s.ref.hw y.pos → 0 ≤ sdiff y.pos x.pos

/-- The lanes of a station that have segments in a motif, in lane order (R124). -/
def concernedLanes (s : State) (st : StationId) (motif : Nat) : List LaneId :=
  allLanes.filter fun l => (s.lane l).station == some st && !((s.motif motif).segments.get l).isEmpty

/-- The start of a lane's span from the label's mark (R120). -/
def spanFirst (s : State) (motif : Nat) (l : LaneId) : Int :=
  ((((s.motif motif).segments.get l).head?.map fun g => (g.offset : Int)).getD 0) - (s.lane l).set.leadMargin

/-- The end of a lane's span from the label's mark (R120). -/
def spanLast (s : State) (motif : Nat) (l : LaneId) : Int :=
  ((((s.motif motif).segments.get l).getLast?.map fun g => (g.offset : Int) + g.length).getD 0) +
    (s.lane l).set.tailMargin

/-- The planned gap after a record's span on a lane (R121): from its end to the start of the span of the next slot of
the record's plan, its own at the latest, whose motif has segments on the lane. A record of no plan has none (log 22). -/
def gapAfter (s : State) (r : LabelRecord) (l : LaneId) : Int :=
  match (s.job.active.toList ++ s.job.draining.toList).find? fun plan => plan.id == r.plan with
  | none => 0
  | some plan =>
    let n := plan.slots.length
    let slot (j : Nat) : PlanSlot := (plan.slots[(r.slot + j) % n]?).getD { pitch := 0, motif := 0 }
    match (List.range n).find? fun j => !((s.motif (slot (j + 1)).motif).segments.get l).isEmpty with
    | none => 0
    | some j =>
      if n ≤ r.slot then 0
      else (((List.range (j + 1)).map fun i => (slot i).pitch).sum : Nat) + spanFirst s (slot (j + 1)).motif l -
        spanLast s r.motif l

/-- The feed of a record on a lane for a strike point, with its follow, its foil counted and its foil saved (R120,
R122, R123). -/
def feedOf (s : State) (r : LabelRecord) (p : Pos) (l : LaneId) : FeedPlan :=
  let c := s.lane l
  let start := posShift p (spanFirst s r.motif l)
  let length := spanLast s r.motif l - spanFirst s r.motif l
  let gap := gapAfter s r l
  let jumps : Bool := decide ((c.set.jumpThreshold : Int) ≤ gap) &&
    decide (((s.ref.speed * c.set.jumpMs + 9) / 10 : Nat) ≤ gap)
  let overlap : Int := match c.lastFeed with
    | some f => if f.follow = .run then max 0 (sdiff f.endPos start) else 0
    | none => 0
  { start, length := length.toNat, follow := if jumps then .jump else .run,
    counted := (max 0 (length - overlap) + if jumps then 0 else max 0 gap).toNat,
    saved := if jumps then gap.toNat else 0 }

/-- A lane's foil does not cover a feed (R124). -/
def tooShort (c : Lane) (f : FeedPlan) : Bool := decide (c.loaded - c.used < f.counted)

/-- A parked lane cannot be awake by a feed's start (R124). -/
def tooLate (s : State) (c : Lane) (f : FeedPlan) : Bool :=
  c.state == .parked && decide (sdiff f.start s.ref.hw < ((s.ref.speed * c.set.wakeMs + 9) / 10 : Nat))

/-- The reason the lane check gives when it fails, from all the lanes together (R124). -/
def laneReason (s : State) (r : LabelRecord) (st : StationId) (p : Pos) : Option SkipReason :=
  let lanes := concernedLanes s st r.motif
  if lanes.any fun l => (s.lane l).state == .fault then some .hold
  else if lanes.any fun l => (s.lane l).state == .empty || tooShort (s.lane l) (feedOf s r p l) then some .foilOut
  else if lanes.any fun l => tooLate s (s.lane l) (feedOf s r p l) then some .foilLate
  else none

/-- The motif acts at the station (R52, test 3). -/
def actsAt (s : State) (motif : Nat) (st : StationId) : Bool :=
  (s.motif motif).mask.get st && ((s.station st).setup.kind == .emboss || !(concernedLanes s st motif).isEmpty)

/-- The reason of the first of tests 1 to 6 of the strike decision that applies to a visit SEEN or PREDICTED with the
strike point given (R52). -/
def earlyReason (s : State) (r : LabelRecord) (st : StationId) (seen : Bool) (p : Pos) : Option SkipReason :=
  let u := s.station st
  if r.excess then some .excess
  else if r.splice then some .splice
  else if !actsAt s r.motif st then some .notInMotif
  else if u.hold != HoldSet.empty || (!seen && losesMarks u) then some .hold
  else if !seen && !u.setup.strikeOnPredicted then some .noMark
  else if u.actuator != .engaged && u.actuator != .engaging &&
      decide (sdiff p s.ref.hw < ((s.ref.speed * u.setup.engageMs + 9) / 10 : Nat)) then some .impressionLate
  else none

/-- The visit's decision is left to the lane check: a FOIL station, with none of tests 1 to 6 applying (R52). -/
def reachesCheck (s : State) (r : LabelRecord) (st : StationId) (seen : Bool) (p : Pos) : Bool :=
  (s.station st).setup.kind == .foil && (earlyReason s r st seen p).isNone

/-- The strike decision: SKIP with the first reason that applies, otherwise STRIKE (R52). -/
def decisionOf (s : State) (r : LabelRecord) (st : StationId) (seen : Bool) (p : Pos) : Decision :=
  match earlyReason s r st seen p, reachesCheck s r st seen p, laneReason s r st p with
  | some reason, _, _ => .skip reason
  | none, true, some reason => .skip reason
  | none, _, _ => .strike

/-- Some earlier visit of the station satisfies a test (R105). -/
def earlierVisit (s : State) (r : LabelRecord) (st : StationId) (test : Visit → Bool) : Bool :=
  (s.queue.takeWhile fun x => x.seq != r.seq).any fun x => (x.visit st).any test

/-- The station after a decision, as to its idle-lift point and its actuator (R105, R106): a STRIKE cancels the point
and requests an engage unless an earlier SKIP is outstanding, and a SKIP, unless an earlier STRIKE is outstanding,
cancels it and requests a lift. -/
def requested (s : State) (r : LabelRecord) (st : StationId) (d : Decision) : Station :=
  let u := s.station st
  let free : Station := { u with idleLift := none }
  if d = .strike then
    if earlierVisit s r st fun v => v.state != .final && v.decision != none && v.decision != some .strike then free
    else free.engage
  else if earlierVisit s r st fun v => v.state != .final && v.decision == some .strike then u
  else free.lift

/-- The command takes the WAITING visit of the record at the station: as PREDICTED when its window's expiry is the
queue's next threshold, or as SEEN when a qualified mark lies in its window. Its strike point is then `p` (R44, R45,
R47, R49). -/
def takesVisit (s : State) (st : StationId) (r : LabelRecord) (v : Visit) (i : Instr) (seen : Bool) (p : Pos) : Prop :=
  let u := s.station st
  (i = .stationWindowExpiry ∧ seen = false ∧
    nextThreshold s { pos := v.expiry, seq := r.seq, station := st, kind := .window } ∧
    p = posShift v.expected u.setup.lead) ∨
  ∃ lead q k, i = .markTrailingEdge (.station st) ∧ seen = true ∧ 0 ≤ sdiff s.web s.ref.hw ∧
    u.setup.enabled = true ∧ u.channel.state = .inMark lead q ∧ s.entry.classify (sdiff s.web lead) = some k ∧
    s.oldestWaiting st = some (r, v) ∧ (sdiff lead v.expected).natAbs ≤ v.swin ∧ p = posShift lead u.setup.lead

/-- O50. A WAITING visit found by a mark in its window, or whose window expires, with its strike point not yet reached
(R45, R47, R48, R50 to R52, R70, R72, R76 to R81, R105, R106): it is SEEN with the mark's position, or PREDICTED with
the unusable run one up and MARKS_LOST at the miss limit, its strike point is set, and it is decided by the first of the
seven tests that applies; the station's idle-lift point and actuator follow the decision. A mark of a DETECTED record
moves the station's drift by a quarter of the difference, and is handed over to the register loop: it pairs with an
unpaired gate within capture and is corrected, or takes the waiting-mark place, the mark held there ending NO_GATE. The
row of a window does nothing while the queue's next threshold is none of its kind (the model's choice, log 2). -/
def Obligations.VisitsAreDecided : Prop :=
  (∀ (s : State) (st : StationId) (r : LabelRecord) (v : Visit) (i : Instr) (seen : Bool) (p : Pos), s.Numbered →
    s.Capacities → r ∈ s.queue → r.visit st = some v → v.state = .waiting → takesVisit s st r v i seen p →
    sdiff s.ref.hw p < 0 →
    let u := s.station st
    let x := requested s r st (decisionOf s r st seen p)
    ∃ t r' v', exec i s = .next t ∧ r' ∈ t.queue ∧ { r' with visits := r.visits } = r ∧ r'.visit st = some v' ∧
      (∀ st', st' ≠ st → r'.visit st' = r.visit st' ∧ t.station st' = s.station st') ∧
      v'.strikePt = some p ∧ v'.decision = some (decisionOf s r st seen p) ∧
      { t with stations := s.stations, lanes := s.lanes, queue := s.queue, events := s.events, link := s.link } = s ∧
      (seen = false → v'.state = .predicted ∧ v'.markPos = v.markPos ∧
        (∀ y ∈ s.queue, y.seq ≠ r.seq → y ∈ t.queue) ∧
        t.station st = { x with
          unusable := min 31 (u.unusable + 1)
          hold := { u.hold with
            marksLost := u.hold.marksLost || losesMarks u, foilOut := (t.station st).hold.foilOut } } ∧
        (losesMarks u = true → t.events.record .marksLost =
          { unit := st.number, detail := min 31 (u.unusable + 1), web := s.web })) ∧
      (seen = true → ∃ lead q, u.channel.state = .inMark lead q ∧ v'.state = .seen ∧ v'.markPos = some lead ∧
        (let observed := sdiff lead r.entryPos - u.setup.path
         let quarter : Int := ((observed - u.drift).natAbs + 2) / 4
         let moved := if u.drift < observed then u.drift + quarter else u.drift - quarter
         let m := handedOver s st lead r.seq r.slot
         let w := m.station st
         t.station st = { x with
           channel := { u.channel with state := .out }
           drift := if r.origin = .detected then max (-(u.setup.swin : Int)) (min u.setup.swin moved) else u.drift
           loop := w.loop
           unusable := w.unusable
           hold := { w.hold with foilOut := (t.station st).hold.foilOut } } ∧
         (∀ k ∈ [EventKind.marksLost, .dieSlip, .trimSaturated],
           t.events.record k = m.events.record k ∧ k.isIn t.events.flags = k.isIn m.events.flags) ∧
         t.queue.length = s.queue.length ∧
         ∀ (j : Nat) (a b : LabelRecord), m.queue[j]? = some a → t.queue[j]? = some b →
           (a.seq ≠ r.seq → b = a) ∧
           (a.seq = r.seq → (b.visit st).map Visit.error = (a.visit st).map Visit.error ∧
             (b.visit st).map Visit.regFlags = (a.visit st).map Visit.regFlags)))) ∧
  ∀ s : State,
    (∀ x, nextThreshold s x → x.kind = .strike → exec .stationWindowExpiry s = .next s) ∧
    ((∀ x ∈ queueThresholds s.queue, sdiff s.ref.hw x.pos < 0) →
      exec .stationWindowExpiry s = .next s ∧ exec .strikePoint s = .next s)

/-- A lane after the commit of a feed for a record (R126, R130). -/
def fed (c : Lane) (seq : BitVec 16) (f : FeedPlan) : Lane :=
  { c with
    drive := c.drive ++ [{ kind := .feed, start := f.start, length := f.length, follow := f.follow }]
    used := c.used + f.counted
    saved := min 4294967295 (c.saved + f.saved)
    pendingFeeds := c.pendingFeeds ++
      [{ seq := seq, start := f.start, length := f.length, follow := f.follow, counted := f.counted }]
    lastFeed := some { seq := seq, endPos := posShift f.start f.length, follow := f.follow }
    state := .active
    idleRun := 0
    feeds := min 4294967295 (c.feeds + 1)
    jumps := if f.follow = .jump then min 4294967295 (c.jumps + 1) else c.jumps
    lowWarned := c.lowWarned || decide (c.loaded - (c.used + f.counted) < c.set.lowThreshold) }

/-- A lane sent PARK, from the end of its last feed or else from the web counter, in the state given (R118). -/
def sentPark (c : Lane) (web : Pos) (state : LaneState) : Lane :=
  { c with
    drive := c.drive ++ [{ kind := .park, start := (c.lastFeed.map LastFeed.endPos).getD web, length := 0,
                           follow := .jump }]
    lastFeed := none
    state := state }

/-- A concerned lane is emptied by a failed check: its foil does not cover the feed, and it is PARKED or ACTIVE
(R125). -/
def emptied (c : Lane) (f : FeedPlan) : Bool := tooShort c f && (c.state == .parked || c.state == .active)

/-- A concerned lane after a failed check (R125). -/
def failed (s : State) (c : Lane) (f : FeedPlan) : Lane :=
  let late : Lane := { c with late := if tooLate s c f then min 65535 (c.late + 1) else c.late }
  if emptied c f then sentPark late s.web .empty else late

/-- A lane that committed nothing counts its idle run, and an ACTIVE one parks when that reaches park_after (R127,
R128). -/
def idled (c : Lane) (web : Pos) : Lane :=
  let u : Lane := { c with idleRun := min 16 (c.idleRun + 1) }
  if u.idleRun = c.set.parkAfter ∧ c.set.parkAfter ≠ 0 ∧ c.state = .active then sentPark u web .parked else u

/-- O51. What a decision does to the lanes (R120 to R128, R130, R53, R54): at a STRIKE of a FOIL station each lane
concerned commits the feed of its span, which is listed in the visit, FOIL_LOW being raised with the metres left by one
whose foil falls below its threshold unwarned, and every other lane of the station counts its idle run; at a lane check
that fails, which is a SKIP with its reason, each lane concerned that is late counts it, and
one whose foil does not cover its feed is sent PARK and enters EMPTY, with FOIL_OUT raised and added at an enabled
station; after that, and at every other decision, each lane of the station counts its idle run and may park on it. A
lane of no or another station is left as it is. A record whose plan is in no place, which no run reaches, has a gap of
0 (the model's choice, log 22). -/
def Obligations.FoilStrikeCommitsTheFeeds : Prop :=
  ∀ (s : State) (st : StationId) (r : LabelRecord) (v : Visit) (i : Instr) (seen : Bool) (p : Pos), s.Numbered →
    s.Capacities → r ∈ s.queue → r.visit st = some v → v.state = .waiting → takesVisit s st r v i seen p →
    sdiff s.ref.hw p < 0 →
    let u := s.station st
    let concerned := concernedLanes s st r.motif
    let fails : Bool := reachesCheck s r st seen p && (laneReason s r st p).isSome
    let commits : Bool := reachesCheck s r st seen p && (laneReason s r st p).isNone
    let empties (l : LaneId) : Bool := fails && concerned.contains l && emptied (s.lane l) (feedOf s r p l)
    let left (l : LaneId) : Nat := (s.lane l).loaded - ((s.lane l).used + (feedOf s r p l).counted)
    let lows (l : LaneId) : Bool := commits && concerned.contains l && !(s.lane l).lowWarned &&
      decide (left l < (s.lane l).set.lowThreshold)
    ∃ t r' v', exec i s = .next t ∧ r' ∈ t.queue ∧ r'.seq = r.seq ∧ r'.visit st = some v' ∧
      (commits = true → v'.decision = some .strike ∧ v'.feeds = concerned.map fun l =>
        let f := feedOf s r p l
        { lane := l, start := f.start, length := f.length, follow := f.follow, counted := f.counted }) ∧
      (v'.decision ≠ some .strike → v'.feeds = v.feeds) ∧
      (∀ l,
        let c := s.lane l
        t.lane l =
          if c.station ≠ some st then c
          else if commits && concerned.contains l then fed c r.seq (feedOf s r p l)
          else if fails && concerned.contains l then idled (failed s c (feedOf s r p l)) s.web
          else idled c s.web) ∧
      (t.station st).hold.foilOut = (u.hold.foilOut || (u.setup.enabled && allLanes.any empties)) ∧
      (∀ l, empties l = true → (∀ l' : LaneId, empties l' = true → l'.number ≤ l.number) →
        EventKind.foilOut.isIn t.events.flags = true ∧
        t.events.record .foilOut = { unit := l.number, detail := r.seq.toNat, web := s.web }) ∧
      (∀ l, lows l = true → (∀ l' : LaneId, lows l' = true → l'.number ≤ l.number) →
        EventKind.foilLow.isIn t.events.flags = true ∧
        t.events.record .foilLow =
          { unit := l.number, detail := min 65535 (left l / 100000), web := s.web }) ∧
      ((∀ l, lows l = false) → t.events.record .foilLow = s.events.record .foilLow ∧
        EventKind.foilLow.isIn t.events.flags = EventKind.foilLow.isIn s.events.flags)

/-- The trace policy calls for an entry of a visit's outcome (R111). -/
def tracedBy (policy : TracePolicy) (v : Visit) (o : VisitOutcome) : Bool :=
  match policy, o with
  | .off, _ => false
  | .all, _ => true
  | .exceptions, .missed | .exceptions, .marred => true
  | .exceptions, .skipped => v.decision != some (.skip .notInMotif) && v.decision != some (.skip .excess)
  | .exceptions, .struck => v.markPos.isNone || v.regFlags.noGate || v.regFlags.slotMismatch
  | .exceptions, .void => false

/-- The station after the outcome of a visit, as to its actuator and its idle-lift point (R107, R108): after a STRIKE
it lifts for a next visit that holds SKIP, and with no next visit sets the idle-lift point, one already reached being
taken at once; after a SKIP it engages for a next visit that holds STRIKE; otherwise it makes no request. -/
def settled (s : State) (r : LabelRecord) (st : StationId) (strikes : Bool) (p : Pos) : Station :=
  let u := s.station st
  let next := (((s.queue.dropWhile fun x => x.seq != r.seq).drop 1).filterMap fun x => x.visit st).head?
  let idle := posShift p (r.pitch + u.setup.swin)
  match strikes, next.map Visit.decision with
  | true, some (some (.skip _)) => u.lift
  | true, none =>
    if sdiff s.ref.hw idle < 0 then { u with idleLift := some idle }
    else if s.queue.any fun x => x.seq != r.seq && undeliveredAt x st then { u with idleLift := none }
    else ({ u with idleLift := none } : Station).lift
  | false, some (some .strike) => u.engage
  | _, _ => u

/-- The job store after the retirement of records (R43, R165, R166): the live counts fall, the draining plan is released
with its last record, and a DRAINING job ends with the last of the active plan's. -/
def afterRetirement (j : JobStore) (gone : List LabelRecord) : JobStore :=
  let holds (place : Option Plan) (r : LabelRecord) : Bool := place.any fun p => p.id == r.plan
  let a := (gone.filter (holds j.active)).length
  let d := (gone.filter fun r => !holds j.active r && holds j.draining r).length
  { j with
    activeLive := j.activeLive - a
    drainingLive := j.drainingLive - d
    draining := if 0 < d ∧ j.drainingLive ≤ d then none else j.draining
    state := if j.state = .draining ∧ 0 < a ∧ j.activeLive ≤ a then .ended else j.state }

/-- O52. A strike point reached (R58 to R61, R107, R108, R110, R111, R119, R43, R165, R166): the outcome follows from
the decision and the actuator and is counted, the actuator is prepared for the next visit, STRIKE_FAULT is raised when
it is MISSED or MARRED, and it is traced by the policy; the visit is FINAL, its feeds leave the pending lists, and the
heads whose visits are all FINAL retire, which lowers their plans' live counts, releases the draining plan with its last
record, and ends a DRAINING job with the last of its own, JOB_ENDED being raised. -/
def Obligations.StrikePointFixesTheOutcome : Prop :=
  ∀ (s : State) (st : StationId) (r : LabelRecord) (v : Visit) (p : Pos), s.Numbered → s.Capacities → r ∈ s.queue →
    r.visit st = some v → v.state ≠ .final → v.strikePt = some p →
    nextThreshold s { pos := p, seq := r.seq, station := st, kind := .strike } →
    let u := s.station st
    let strikes : Bool := v.decision == some .strike
    let o : VisitOutcome :=
      if strikes then (if u.actuator = .engaged then .struck else .missed)
      else (if u.actuator = .lifted then .skipped else .marred)
    let up (n : Nat) (x : VisitOutcome) : Nat := if o = x then min 4294967295 (n + 1) else n
    let finished : List LabelRecord := s.queue.map fun x => if x.seq = r.seq then
      { x with visits := x.visits.put st ((x.visits.get st).map fun v =>
        { v with state := .final, outcome := some o }) } else x
    let entry : TraceEntry := {
      seq := r.seq, plan := r.plan, slot := r.slot, station := st, outcome := o,
      reason := (match v.decision with | some (.skip reason) => some reason | _ => none),
      error := v.error, trim := u.loop.trim, regFlags := v.regFlags,
      origin := if v.markPos.isSome then .detected else .predicted, strikePt := p }
    ∃ t n, exec .strikePoint s = .next t ∧ t.queue = finished.drop n ∧
      (∀ x ∈ finished.take n, ∀ st' v', x.visit st' = some v' → v'.state = .final) ∧
      (∀ x, t.queue.head? = some x → ∃ st' v', x.visit st' = some v' ∧ v'.state ≠ .final) ∧
      t.job = afterRetirement s.job (s.queue.take n) ∧
      (t.job.state ≠ s.job.state → EventKind.jobEnded.isIn t.events.flags = true ∧ t.events.record .jobEnded =
        { unit := 0, detail := endReasonCode s.job.endReason * 256 + placeId s.job.active, web := s.web }) ∧
      t.station st = { settled s r st strikes p with
        struck := up u.struck .struck, skipped := up u.skipped .skipped,
        missed := up u.missed .missed, marred := up u.marred .marred } ∧
      (∀ st', st' ≠ st → t.station st' = s.station st') ∧
      (o = .missed ∨ o = .marred →
        t.events.record .strikeFault = { unit := st.number, detail := r.seq.toNat, web := s.web } ∧
        EventKind.strikeFault.isIn t.events.flags = true) ∧
      (∀ l, t.lane l = if ∃ f ∈ v.feeds, f.lane = l
        then { s.lane l with pendingFeeds := (s.lane l).pendingFeeds.filter fun f => f.seq != r.seq } else s.lane l) ∧
      t.trace = (if tracedBy u.setup.policy v o then
          if s.trace.entries.length < 64 then { s.trace with entries := s.trace.entries ++ [entry] }
          else { s.trace with dropped := min 65535 (s.trace.dropped + 1) }
        else s.trace) ∧
      { t with queue := s.queue, stations := s.stations, lanes := s.lanes, job := s.job, trace := s.trace,
               events := s.events, link := s.link } = s

/-! ### Register correction (chapter 4) -/

/-- O53. A gate not rewound at an enabled station (R68 to R71, R73, R76 to R82, R50, R51): it sets the cursor, to 0 with
the index flag, and an index while synchronised that does not fall on slot 0 raises DIE_SLIP; unsynchronised without the
index it goes no further; otherwise it pairs with a waiting mark within capture, whose visit takes the error and whose
loop its correction, or takes the unpaired-gate place, a gate held there, and one whose own threshold is already
reached, being an orphan. A disabled station ignores it. -/
def Obligations.DieGatePairsAndCorrects : Prop :=
  ∀ (s : State) (st : StationId) (index : Bool), 0 ≤ sdiff s.web s.ref.hw →
    let u := s.station st
    let l := u.loop
    let next := (l.cursor + 1) % u.setup.dieSlots
    let slot := if index then 0 else next
    let slips : Prop := index = true ∧ l.synced = true ∧ next ≠ 0
    let set : State := withLoop s st fun l => { l with cursor := slot, synced := l.synced || index }
    let t : State := if slips then raiseEvent .dieSlip st.number next set else set
    (u.setup.enabled = false → exec (.dieGate st index) s = .next s) ∧
    (u.setup.enabled = true → index = false → l.synced = false →
      exec (.dieGate st index) s = .next (withLoop s st fun l => { l with cursor := next })) ∧
    (u.setup.enabled = true → index = true ∨ l.synced = true →
      (∀ w, l.waiting = some w → l.tuning.capture < (errorOf l w.pos s.web).natAbs) →
      exec (.dieGate st index) s = .next (gateHeld t st s.web slot)) ∧
    (∀ w, u.setup.enabled = true → index = true ∨ l.synced = true → l.waiting = some w →
      (errorOf l w.pos s.web).natAbs ≤ l.tuning.capture → s.Numbered → s.Capacities →
      exec (.dieGate st index) s = .next
        (pairTaken (withLoop t st fun l => { l with waiting := none }) st w.pos w.seq w.slot s.web slot))

/-- O54. A waiting mark whose expiry threshold HW has reached leaves its place and ends NO_GATE: its visit takes the
flag and the unusable run rises, with MARKS_LOST at the miss limit; an unpaired gate whose threshold HW has reached
leaves its place as an orphan; a threshold not reached, or none, changes nothing (the model's choice, log 2) (R72, R73,
R50, R51, R61). -/
def Obligations.PairingPlacesExpire : Prop :=
  ∀ (s : State) (st : StationId),
    let u := s.station st
    let run := min 31 (u.unusable + 1)
    let lost : Prop := u.setup.missLimit ≤ run ∧ u.hold.marksLost = false ∧ u.setup.enabled = true
    (∀ w, u.loop.waiting = some w → 0 ≤ sdiff s.ref.hw w.expiry →
      let x : Station := { u with loop := { u.loop with waiting := none }, unusable := run }
      let queue := s.queue.map fun r => if r.seq = w.seq then
        { r with visits := r.visits.put st ((r.visits.get st).map fun v =>
          { v with regFlags := { v.regFlags with noGate := true } }) } else r
      (¬ lost → exec (.waitingMarkExpiry st) s = .next { s.setStation st x with queue := queue }) ∧
      (lost → exec (.waitingMarkExpiry st) s = .next (raiseEvent .marksLost st.number run
        { s.setStation st { x with hold := { u.hold with marksLost := true } } with queue := queue }))) ∧
    ((∀ w, u.loop.waiting = some w → sdiff s.ref.hw w.expiry < 0) → exec (.waitingMarkExpiry st) s = .next s) ∧
    (∀ g, u.loop.gate = some g → 0 ≤ sdiff s.ref.hw g.expiry →
      exec (.unpairedGateExpiry st) s = .next (s.setStation st { u with loop := { u.loop with
        gate := none, orphans := min 65535 (u.loop.orphans + 1) } })) ∧
    ((∀ g, u.loop.gate = some g → sdiff s.ref.hw g.expiry < 0) → exec (.unpairedGateExpiry st) s = .next s)

/-! ### The plant (chapters 5 to 7) -/

/-- O55. The confirm inputs, the stroke timer and the idle-lift point (R101, R102, R109): a confirm becoming active
completes its stroke; the timer's expiry in a stroke commands the valve to lift, jams the actuator, raises
IMPRESSION_FAULT with detail 1 or 2 and adds ACTUATOR; a reached idle-lift point is consumed, with a lift request
unless a STRIKE is outstanding. The model's choices: a confirm that only keeps or drops its level moves nothing else
(log 21), the timer's expiry outside a stroke changes nothing (log 20), and an idle-lift point not reached, or none,
changes nothing (log 2). -/
def Obligations.StrokesCompleteOrFail : Prop :=
  ∀ (s : State) (st : StationId) (level : Bool),
    let u := s.station st
    let jam (detail : Nat) : State := addHard .actuator st (raiseEvent .impressionFault st.number detail
      (s.setStation st { u with valve := .lift, actuator := .jammed, stroke := none }))
    (level = true → u.engagedIn = false → u.actuator = .engaging →
      exec (.engagedConfirm st level) s =
        .next (s.setStation st { u with engagedIn := true, actuator := .engaged, stroke := none })) ∧
    (level = false ∨ u.engagedIn = true ∨ u.actuator ≠ .engaging →
      exec (.engagedConfirm st level) s = .next (s.setStation st { u with engagedIn := level })) ∧
    (level = true → u.liftedIn = false → u.actuator = .lifting →
      exec (.liftedConfirm st level) s =
        .next (s.setStation st { u with liftedIn := true, actuator := .lifted, stroke := none })) ∧
    (level = false ∨ u.liftedIn = true ∨ u.actuator ≠ .lifting →
      exec (.liftedConfirm st level) s = .next (s.setStation st { u with liftedIn := level })) ∧
    (u.actuator = .engaging → exec (.strokeTimerExpiry st) s = .next (jam 1)) ∧
    (u.actuator = .lifting → exec (.strokeTimerExpiry st) s = .next (jam 2)) ∧
    (u.actuator ≠ .engaging → u.actuator ≠ .lifting → exec (.strokeTimerExpiry st) s = .next s) ∧
    (∀ p, u.idleLift = some p → 0 ≤ sdiff s.ref.hw p →
      ((∀ r ∈ s.queue, ∀ v, r.visit st = some v → v.decision = some .strike → v.state = .final) →
        exec (.idleLiftPoint st) s = .next (s.setStation st ({ u with idleLift := none } : Station).lift)) ∧
      (∀ r ∈ s.queue, ∀ v, r.visit st = some v → v.decision = some .strike → v.state ≠ .final →
        exec (.idleLiftPoint st) s = .next (s.setStation st { u with idleLift := none }))) ∧
    ((∀ p, u.idleLift = some p → sdiff s.ref.hw p < 0) → exec (.idleLiftPoint st) s = .next s) ∧
    u.lift = (if u.actuator = .engaging ∨ u.actuator = .engaged then
      (if u.liftedIn then { u with valve := .lift, actuator := .lifted, stroke := none }
       else { u with valve := .lift, actuator := .lifting, stroke := some u.setup.actTimeout }) else u) ∧
    u.engage = (if u.actuator = .lifted ∨ u.actuator = .lifting then
      (if u.engagedIn then { u with valve := .engage, actuator := .engaged, stroke := none }
       else { u with valve := .engage, actuator := .engaging, stroke := some u.setup.actTimeout }) else u)

/-- O56. A lane's drive fault input (R133): becoming active in PARKED, ACTIVE or EMPTY it takes the lane to FAULT with
a full STOP, its feeds and its last feed gone, raises FOIL_DRIVE_FAULT, takes FOIL_OUT away with the station's last
EMPTY lane and adds FOIL_DRIVE; otherwise only the level is taken (log 21). -/
def Obligations.DriveFaultStopsTheLane : Prop :=
  ∀ (s : State) (l : LaneId) (level : Bool),
    let u := s.lane l
    let rises : Prop := level = true ∧ u.faultIn = false
    let runs : Prop := u.state = .parked ∨ u.state = .active ∨ u.state = .empty
    (¬ rises ∨ u.station = none ∨ ¬ runs →
      exec (.driveFaultInput l level) s = .next (s.setLane l { u with faultIn := level })) ∧
    (∀ st, rises → runs → u.station = some st →
      let t := raiseEvent .foilDriveFault l.number st.number (s.setLane l { u with
        faultIn := true
        drive := u.drive ++ [{ kind := .stopAll, start := s.web, length := 0, follow := .jump }]
        pendingFeeds := []
        lastFeed := none
        state := .fault })
      exec (.driveFaultInput l level) s =
        .next (addHard .foilDrive st (if u.state = .empty then leavesFoilOut (some st) t else t)))

/-- O57. A heat zone's sample, sensor fault and soak timer (R138 to R142, R95): a sample is kept, and in an enabled
zone not in FAULT it faults above SP + margin with cause OVERTEMP, regulates the heater about the working target, and,
outside STANDBY, moves the zone by the band test, the soak and HEAT_READY; THERMAL follows. The sensor fault input
becoming active faults an enabled zone with cause SENSOR; the soak timer makes a SOAKING zone READY. The model's
choices: a sensor input that only keeps or drops its level is only recorded (log 21), and the soak timer's expiry
outside SOAKING changes nothing (log 20). -/
def Obligations.HeatZoneFollowsItsInputs : Prop :=
  ∀ (s : State) (st : StationId) (sample : BitVec 16) (level : Bool),
    let u := s.station st
    let z := u.zone
    let x := sample.toInt
    let live : Prop := z.enabled = true ∧ z.state ≠ .off ∧ z.state ≠ .fault
    let faulted (z : HeatZone) (cause : Nat) : State := addHard .heatFault st
      ((raiseEvent .heatFault st.number cause
        (s.setStation st { u with zone := { z with heater := false, soakTimer := none, state := .fault } })).modStation
          st fun u => { u with hold := { u.hold with thermal := false } })
    let target : Int := if s.mode = .standby then z.set.standbySp else z.set.sp
    let heater : Bool := if x < target - z.set.hysteresis then true else if target ≤ x then false else z.heater
    let inBand : Prop := (x - z.set.sp).natAbs ≤ z.set.band
    let state : ZoneState :=
      if z.state = .heating then (if inBand then (if z.set.soak = 0 then .ready else .soaking) else .heating)
      else if z.state = .soaking then (if inBand then .soaking else .heating)
      else if inBand then .ready else .drift
    let soakTimer : Option Nat :=
      if z.state = .heating ∧ inBand ∧ z.set.soak ≠ 0 then some (z.set.soak * 1000)
      else if z.state = .soaking ∧ ¬ inBand then none else z.soakTimer
    (¬ live → exec (.temperatureSample st sample) s =
      .next (s.setStation st { u with zone := { z with latest := x } })) ∧
    (live → z.set.sp + z.set.margin < x →
      exec (.temperatureSample st sample) s = .next (faulted { z with latest := x } 1)) ∧
    (live → x ≤ z.set.sp + z.set.margin → s.mode = .standby →
      exec (.temperatureSample st sample) s =
        .next (s.setStation st { u with zone := { z with latest := x, heater := heater } })) ∧
    (live → x ≤ z.set.sp + z.set.margin → s.mode ≠ .standby →
      let t := s.setStation st { u with
        zone := { z with latest := x, heater := heater, state := state, soakTimer := soakTimer }
        hold := { u.hold with thermal := if state = .ready then false else u.hold.thermal || u.setup.enabled } }
      (z.state = .heating ∧ state = .ready →
        exec (.temperatureSample st sample) s = .next (raiseEvent .heatReady st.number (min 65535 x.toNat) t)) ∧
      (z.state ≠ .heating ∨ state ≠ .ready → exec (.temperatureSample st sample) s = .next t)) ∧
    (level = true → z.faultIn = false → z.enabled = true → z.state ≠ .fault →
      exec (.sensorFaultInput st level) s = .next (faulted { z with faultIn := true } 2)) ∧
    (level = false ∨ z.faultIn = true ∨ z.enabled = false ∨ z.state = .fault →
      exec (.sensorFaultInput st level) s = .next (s.setStation st { u with zone := { z with faultIn := level } })) ∧
    (z.state = .soaking → exec (.soakTimerExpiry st) s =
      .next (raiseEvent .heatReady st.number (min 65535 z.latest.toNat) (s.setStation st { u with
        zone := { z with state := .ready, soakTimer := none }, hold := { u.hold with thermal := false } }))) ∧
    (z.state ≠ .soaking → exec (.soakTimerExpiry st) s = .next s)

/-! ### Laws that every step keeps -/

/-- O58. Every step keeps the capacities of the label queue, the trace queue, the receive queue and the splice zone
list, and the numbering of the live records (R24, R40, R42, R176, R186). -/
def Obligations.CapacitiesAreKept : Prop :=
  ∀ s t : State, s.Capacities → s.Numbered → step s = .next t → t.Capacities ∧ t.Numbered

/-- O59. Every step keeps the notice-due list in agreement with the flags and the mask: each kind at most once, and
only kinds pending and masked in (R181, R183, R184). -/
def Obligations.NoticesDueAreConsistent : Prop :=
  ∀ s t : State, s.events.Consistent → step s = .next t → t.events.Consistent

/-- The units of the part keep their laws. -/
def unitLaws (s : State) : Prop :=
  s.tracker.Windowed ∧ (s.wake.isSome = true ↔ s.mode = .standby) ∧ (∀ l, (s.lane l).Agrees) ∧
  ∀ st, (s.station st).Strokes ∧ (s.station st).HoldLaw ∧ (s.station st).TrimLaw ∧ (s.station st).zone.Regular ∧
    (s.station st).SoftCauses s.mode

/-- O60. The part right after power-on keeps every law, and every step keeps the laws of the units: a lane's state
agrees with its station and its last feed, an actuator with its valve and its timer, a disabled station holds no
cause, IDLE and THERMAL stand exactly under their conditions, a trim lies within its limit, a zone's timer and heater
agree with its state, the tracker has a window exactly when LOCKED, and the wake threshold stands exactly in STANDBY
(R27, R67, R94, R95, R101, R115, R138, R149). -/
def Obligations.UnitLawsAreKept : Prop :=
  (State.reset.Capacities ∧ State.reset.Numbered ∧ State.reset.events.Consistent ∧ unitLaws State.reset) ∧
  ∀ s t : State, unitLaws s → step s = .next t → unitLaws t
end

