-- ==== Sys2Proof/Laws/State.lean ====
section
/-! SUPPORT. The small lemmas of State's updates: one per field per update, true by `rfl`, and the laws of the tables by
station and by lane. -/

namespace Sys2Proof.Machine

/-! ### Tables by station and by lane -/

@[simp] theorem PerStation.get_put_self {α : Type} (p : PerStation α) (st : StationId) (a : α) :
    (p.put st a).get st = a := by cases st <;> rfl

theorem PerStation.get_put_of_ne {α : Type} (p : PerStation α) {st st' : StationId} (h : st' ≠ st) (a : α) :
    (p.put st a).get st' = p.get st' := by cases st <;> cases st' <;> first | rfl | exact absurd rfl h

@[simp] theorem PerStation.put_put {α : Type} (p : PerStation α) (st : StationId) (a b : α) :
    (p.put st a).put st b = p.put st b := by cases st <;> rfl

@[simp] theorem PerStation.put_get {α : Type} (p : PerStation α) (st : StationId) : p.put st (p.get st) = p := by
  cases st <;> rfl

@[simp] theorem PerStation.get_map {α : Type} (p : PerStation α) (f : α → α) (st : StationId) :
    (p.map f).get st = f (p.get st) := by cases st <;> rfl

@[simp] theorem PerLane.get_put_self {α : Type} (p : PerLane α) (l : LaneId) (a : α) : (p.put l a).get l = a := by
  cases l <;> rfl

theorem PerLane.get_put_of_ne {α : Type} (p : PerLane α) {l l' : LaneId} (h : l' ≠ l) (a : α) :
    (p.put l a).get l' = p.get l' := by cases l <;> cases l' <;> first | rfl | exact absurd rfl h

@[simp] theorem PerLane.put_put {α : Type} (p : PerLane α) (l : LaneId) (a b : α) :
    (p.put l a).put l b = p.put l b := by cases l <;> rfl

@[simp] theorem PerLane.put_get {α : Type} (p : PerLane α) (l : LaneId) : p.put l (p.get l) = p := by
  cases l <;> rfl

@[simp] theorem PerLane.get_map {α : Type} (p : PerLane α) (f : α → α) (l : LaneId) :
    (p.map f).get l = f (p.get l) := by cases l <;> rfl

/-! ### One station replaced -/

@[simp] theorem State.setStation_pending (s : State) (st : StationId) (u : Station) : (s.setStation st u).pending = s.pending := rfl
@[simp] theorem State.setStation_ref (s : State) (st : StationId) (u : Station) : (s.setStation st u).ref = s.ref := rfl
@[simp] theorem State.setStation_entry (s : State) (st : StationId) (u : Station) : (s.setStation st u).entry = s.entry := rfl
@[simp] theorem State.setStation_m0 (s : State) (st : StationId) (u : Station) : (s.setStation st u).m0 = s.m0 := rfl
@[simp] theorem State.setStation_zones (s : State) (st : StationId) (u : Station) : (s.setStation st u).zones = s.zones := rfl
@[simp] theorem State.setStation_tracker (s : State) (st : StationId) (u : Station) : (s.setStation st u).tracker = s.tracker := rfl
@[simp] theorem State.setStation_queue (s : State) (st : StationId) (u : Station) : (s.setStation st u).queue = s.queue := rfl
@[simp] theorem State.setStation_stations (s : State) (st : StationId) (u : Station) : (s.setStation st u).stations = s.stations.put st u := rfl
@[simp] theorem State.setStation_lanes (s : State) (st : StationId) (u : Station) : (s.setStation st u).lanes = s.lanes := rfl
@[simp] theorem State.setStation_job (s : State) (st : StationId) (u : Station) : (s.setStation st u).job = s.job := rfl
@[simp] theorem State.setStation_mode (s : State) (st : StationId) (u : Station) : (s.setStation st u).mode = s.mode := rfl
@[simp] theorem State.setStation_wake (s : State) (st : StationId) (u : Station) : (s.setStation st u).wake = s.wake := rfl
@[simp] theorem State.setStation_link (s : State) (st : StationId) (u : Station) : (s.setStation st u).link = s.link := rfl
@[simp] theorem State.setStation_events (s : State) (st : StationId) (u : Station) : (s.setStation st u).events = s.events := rfl
@[simp] theorem State.setStation_trace (s : State) (st : StationId) (u : Station) : (s.setStation st u).trace = s.trace := rfl

/-! ### One station changed -/

@[simp] theorem State.modStation_pending (s : State) (st : StationId) (f : Station → Station) : (s.modStation st f).pending = s.pending := rfl
@[simp] theorem State.modStation_ref (s : State) (st : StationId) (f : Station → Station) : (s.modStation st f).ref = s.ref := rfl
@[simp] theorem State.modStation_entry (s : State) (st : StationId) (f : Station → Station) : (s.modStation st f).entry = s.entry := rfl
@[simp] theorem State.modStation_m0 (s : State) (st : StationId) (f : Station → Station) : (s.modStation st f).m0 = s.m0 := rfl
@[simp] theorem State.modStation_zones (s : State) (st : StationId) (f : Station → Station) : (s.modStation st f).zones = s.zones := rfl
@[simp] theorem State.modStation_tracker (s : State) (st : StationId) (f : Station → Station) : (s.modStation st f).tracker = s.tracker := rfl
@[simp] theorem State.modStation_queue (s : State) (st : StationId) (f : Station → Station) : (s.modStation st f).queue = s.queue := rfl
@[simp] theorem State.modStation_stations (s : State) (st : StationId) (f : Station → Station) : (s.modStation st f).stations = s.stations.put st (f (s.station st)) := rfl
@[simp] theorem State.modStation_lanes (s : State) (st : StationId) (f : Station → Station) : (s.modStation st f).lanes = s.lanes := rfl
@[simp] theorem State.modStation_job (s : State) (st : StationId) (f : Station → Station) : (s.modStation st f).job = s.job := rfl
@[simp] theorem State.modStation_mode (s : State) (st : StationId) (f : Station → Station) : (s.modStation st f).mode = s.mode := rfl
@[simp] theorem State.modStation_wake (s : State) (st : StationId) (f : Station → Station) : (s.modStation st f).wake = s.wake := rfl
@[simp] theorem State.modStation_link (s : State) (st : StationId) (f : Station → Station) : (s.modStation st f).link = s.link := rfl
@[simp] theorem State.modStation_events (s : State) (st : StationId) (f : Station → Station) : (s.modStation st f).events = s.events := rfl
@[simp] theorem State.modStation_trace (s : State) (st : StationId) (f : Station → Station) : (s.modStation st f).trace = s.trace := rfl

/-! ### One lane replaced -/

@[simp] theorem State.setLane_pending (s : State) (l : LaneId) (u : Lane) : (s.setLane l u).pending = s.pending := rfl
@[simp] theorem State.setLane_ref (s : State) (l : LaneId) (u : Lane) : (s.setLane l u).ref = s.ref := rfl
@[simp] theorem State.setLane_entry (s : State) (l : LaneId) (u : Lane) : (s.setLane l u).entry = s.entry := rfl
@[simp] theorem State.setLane_m0 (s : State) (l : LaneId) (u : Lane) : (s.setLane l u).m0 = s.m0 := rfl
@[simp] theorem State.setLane_zones (s : State) (l : LaneId) (u : Lane) : (s.setLane l u).zones = s.zones := rfl
@[simp] theorem State.setLane_tracker (s : State) (l : LaneId) (u : Lane) : (s.setLane l u).tracker = s.tracker := rfl
@[simp] theorem State.setLane_queue (s : State) (l : LaneId) (u : Lane) : (s.setLane l u).queue = s.queue := rfl
@[simp] theorem State.setLane_stations (s : State) (l : LaneId) (u : Lane) : (s.setLane l u).stations = s.stations := rfl
@[simp] theorem State.setLane_lanes (s : State) (l : LaneId) (u : Lane) : (s.setLane l u).lanes = s.lanes.put l u := rfl
@[simp] theorem State.setLane_job (s : State) (l : LaneId) (u : Lane) : (s.setLane l u).job = s.job := rfl
@[simp] theorem State.setLane_mode (s : State) (l : LaneId) (u : Lane) : (s.setLane l u).mode = s.mode := rfl
@[simp] theorem State.setLane_wake (s : State) (l : LaneId) (u : Lane) : (s.setLane l u).wake = s.wake := rfl
@[simp] theorem State.setLane_link (s : State) (l : LaneId) (u : Lane) : (s.setLane l u).link = s.link := rfl
@[simp] theorem State.setLane_events (s : State) (l : LaneId) (u : Lane) : (s.setLane l u).events = s.events := rfl
@[simp] theorem State.setLane_trace (s : State) (l : LaneId) (u : Lane) : (s.setLane l u).trace = s.trace := rfl

/-! ### One lane changed -/

@[simp] theorem State.modLane_pending (s : State) (l : LaneId) (f : Lane → Lane) : (s.modLane l f).pending = s.pending := rfl
@[simp] theorem State.modLane_ref (s : State) (l : LaneId) (f : Lane → Lane) : (s.modLane l f).ref = s.ref := rfl
@[simp] theorem State.modLane_entry (s : State) (l : LaneId) (f : Lane → Lane) : (s.modLane l f).entry = s.entry := rfl
@[simp] theorem State.modLane_m0 (s : State) (l : LaneId) (f : Lane → Lane) : (s.modLane l f).m0 = s.m0 := rfl
@[simp] theorem State.modLane_zones (s : State) (l : LaneId) (f : Lane → Lane) : (s.modLane l f).zones = s.zones := rfl
@[simp] theorem State.modLane_tracker (s : State) (l : LaneId) (f : Lane → Lane) : (s.modLane l f).tracker = s.tracker := rfl
@[simp] theorem State.modLane_queue (s : State) (l : LaneId) (f : Lane → Lane) : (s.modLane l f).queue = s.queue := rfl
@[simp] theorem State.modLane_stations (s : State) (l : LaneId) (f : Lane → Lane) : (s.modLane l f).stations = s.stations := rfl
@[simp] theorem State.modLane_lanes (s : State) (l : LaneId) (f : Lane → Lane) : (s.modLane l f).lanes = s.lanes.put l (f (s.lane l)) := rfl
@[simp] theorem State.modLane_job (s : State) (l : LaneId) (f : Lane → Lane) : (s.modLane l f).job = s.job := rfl
@[simp] theorem State.modLane_mode (s : State) (l : LaneId) (f : Lane → Lane) : (s.modLane l f).mode = s.mode := rfl
@[simp] theorem State.modLane_wake (s : State) (l : LaneId) (f : Lane → Lane) : (s.modLane l f).wake = s.wake := rfl
@[simp] theorem State.modLane_link (s : State) (l : LaneId) (f : Lane → Lane) : (s.modLane l f).link = s.link := rfl
@[simp] theorem State.modLane_events (s : State) (l : LaneId) (f : Lane → Lane) : (s.modLane l f).events = s.events := rfl
@[simp] theorem State.modLane_trace (s : State) (l : LaneId) (f : Lane → Lane) : (s.modLane l f).trace = s.trace := rfl

/-! ### The tracker enters SEARCH -/

@[simp] theorem enterSearch_pending (s : State) : (enterSearch s).pending = s.pending := rfl
@[simp] theorem enterSearch_ref (s : State) : (enterSearch s).ref = s.ref := rfl
@[simp] theorem enterSearch_entry (s : State) : (enterSearch s).entry = s.entry := rfl
@[simp] theorem enterSearch_m0 (s : State) : (enterSearch s).m0 = s.m0 := rfl
@[simp] theorem enterSearch_zones (s : State) : (enterSearch s).zones = s.zones := rfl
@[simp] theorem enterSearch_tracker (s : State) : (enterSearch s).tracker = s.tracker.enterSearch := rfl
@[simp] theorem enterSearch_queue (s : State) : (enterSearch s).queue = s.queue := rfl
@[simp] theorem enterSearch_stations (s : State) : (enterSearch s).stations = s.stations := rfl
@[simp] theorem enterSearch_lanes (s : State) : (enterSearch s).lanes = s.lanes := rfl
@[simp] theorem enterSearch_job (s : State) : (enterSearch s).job = s.job := rfl
@[simp] theorem enterSearch_mode (s : State) : (enterSearch s).mode = s.mode := rfl
@[simp] theorem enterSearch_wake (s : State) : (enterSearch s).wake = s.wake := rfl
@[simp] theorem enterSearch_link (s : State) : (enterSearch s).link = s.link := rfl
@[simp] theorem enterSearch_events (s : State) : (enterSearch s).events = s.events := rfl
@[simp] theorem enterSearch_trace (s : State) : (enterSearch s).trace = s.trace := rfl

/-! ### The tracker enters OFF -/

@[simp] theorem enterOff_pending (s : State) : (enterOff s).pending = s.pending := rfl
@[simp] theorem enterOff_ref (s : State) : (enterOff s).ref = s.ref := rfl
@[simp] theorem enterOff_entry (s : State) : (enterOff s).entry = s.entry := rfl
@[simp] theorem enterOff_m0 (s : State) : (enterOff s).m0 = s.m0 := rfl
@[simp] theorem enterOff_zones (s : State) : (enterOff s).zones = s.zones := rfl
@[simp] theorem enterOff_tracker (s : State) : (enterOff s).tracker = s.tracker.enterOff := rfl
@[simp] theorem enterOff_queue (s : State) : (enterOff s).queue = s.queue := rfl
@[simp] theorem enterOff_stations (s : State) : (enterOff s).stations = s.stations := rfl
@[simp] theorem enterOff_lanes (s : State) : (enterOff s).lanes = s.lanes := rfl
@[simp] theorem enterOff_job (s : State) : (enterOff s).job = s.job := rfl
@[simp] theorem enterOff_mode (s : State) : (enterOff s).mode = s.mode := rfl
@[simp] theorem enterOff_wake (s : State) : (enterOff s).wake = s.wake := rfl
@[simp] theorem enterOff_link (s : State) : (enterOff s).link = s.link := rfl
@[simp] theorem enterOff_events (s : State) : (enterOff s).events = s.events := rfl
@[simp] theorem enterOff_trace (s : State) : (enterOff s).trace = s.trace := rfl

/-! ### A visit changed -/

@[simp] theorem modVisit_pending (seq : BitVec 16) (st : StationId) (f : Visit → Visit) (s : State) : (modVisit seq st f s).pending = s.pending := rfl
@[simp] theorem modVisit_ref (seq : BitVec 16) (st : StationId) (f : Visit → Visit) (s : State) : (modVisit seq st f s).ref = s.ref := rfl
@[simp] theorem modVisit_entry (seq : BitVec 16) (st : StationId) (f : Visit → Visit) (s : State) : (modVisit seq st f s).entry = s.entry := rfl
@[simp] theorem modVisit_m0 (seq : BitVec 16) (st : StationId) (f : Visit → Visit) (s : State) : (modVisit seq st f s).m0 = s.m0 := rfl
@[simp] theorem modVisit_zones (seq : BitVec 16) (st : StationId) (f : Visit → Visit) (s : State) : (modVisit seq st f s).zones = s.zones := rfl
@[simp] theorem modVisit_tracker (seq : BitVec 16) (st : StationId) (f : Visit → Visit) (s : State) : (modVisit seq st f s).tracker = s.tracker := rfl
@[simp] theorem modVisit_queue (seq : BitVec 16) (st : StationId) (f : Visit → Visit) (s : State) : (modVisit seq st f s).queue = modRecord seq (fun r => r.modVisit st f) s.queue := rfl
@[simp] theorem modVisit_stations (seq : BitVec 16) (st : StationId) (f : Visit → Visit) (s : State) : (modVisit seq st f s).stations = s.stations := rfl
@[simp] theorem modVisit_lanes (seq : BitVec 16) (st : StationId) (f : Visit → Visit) (s : State) : (modVisit seq st f s).lanes = s.lanes := rfl
@[simp] theorem modVisit_job (seq : BitVec 16) (st : StationId) (f : Visit → Visit) (s : State) : (modVisit seq st f s).job = s.job := rfl
@[simp] theorem modVisit_mode (seq : BitVec 16) (st : StationId) (f : Visit → Visit) (s : State) : (modVisit seq st f s).mode = s.mode := rfl
@[simp] theorem modVisit_wake (seq : BitVec 16) (st : StationId) (f : Visit → Visit) (s : State) : (modVisit seq st f s).wake = s.wake := rfl
@[simp] theorem modVisit_link (seq : BitVec 16) (st : StationId) (f : Visit → Visit) (s : State) : (modVisit seq st f s).link = s.link := rfl
@[simp] theorem modVisit_events (seq : BitVec 16) (st : StationId) (f : Visit → Visit) (s : State) : (modVisit seq st f s).events = s.events := rfl
@[simp] theorem modVisit_trace (seq : BitVec 16) (st : StationId) (f : Visit → Visit) (s : State) : (modVisit seq st f s).trace = s.trace := rfl

/-! ### Stations and lanes after an update -/

@[simp] theorem State.modStation_station (s : State) (st : StationId) (f : Station → Station) :
    (s.modStation st f).station st = f (s.station st) := PerStation.get_put_self _ _ _

theorem State.modStation_station_of_ne (s : State) {st st' : StationId} (h : st' ≠ st) (f : Station → Station) :
    (s.modStation st f).station st' = s.station st' := PerStation.get_put_of_ne _ h _

@[simp] theorem State.modStation_lane (s : State) (st : StationId) (f : Station → Station) (l : LaneId) :
    (s.modStation st f).lane l = s.lane l := rfl

@[simp] theorem State.modLane_lane (s : State) (l : LaneId) (f : Lane → Lane) :
    (s.modLane l f).lane l = f (s.lane l) := PerLane.get_put_self _ _ _

theorem State.modLane_lane_of_ne (s : State) {l l' : LaneId} (h : l' ≠ l) (f : Lane → Lane) :
    (s.modLane l f).lane l' = s.lane l' := PerLane.get_put_of_ne _ h _

@[simp] theorem State.modLane_station (s : State) (l : LaneId) (f : Lane → Lane) (st : StationId) :
    (s.modLane l f).station st = s.station st := rfl

@[simp] theorem State.modLane_enabled (s : State) (l : LaneId) (f : Lane → Lane) (st : StationId) :
    (s.modLane l f).enabled st = s.enabled st := rfl

/-! ### Hold sets -/

@[simp] theorem HoldSet.has_put_self (h : HoldSet) (c : Cause) (b : Bool) : (h.put c b).has c = b := by
  cases c <;> rfl

theorem HoldSet.has_put_of_ne (h : HoldSet) {c d : Cause} (hd : d ≠ c) (b : Bool) : (h.put c b).has d = h.has d := by
  cases c <;> cases d <;> first | rfl | exact absurd rfl hd

theorem HoldSet.put_empty (c : Cause) : HoldSet.empty.put c false = HoldSet.empty := by cases c <;> rfl

end Sys2Proof.Machine
end

