-- ==== Sys2Proof/Laws/Link.lean ====
section
/-! SUPPORT. What the transmitter, a raise, the dispatcher and the trace queue can do: each stated once (R177, R179,
R180, R186). -/

namespace Sys2Proof.Machine

/-! ### The transmitter (R179) -/

/-- The transmitter changes nothing but the frame it sends, the reply slot and the notice-due list. -/
theorem txChoose_cases (s : State) :
    txChoose s = s ∨
    (∃ r, s.link.tx = none ∧ s.link.slot = some r ∧
      txChoose s = { s with link := { s.link with tx := some r, slot := none } }) ∨
    (∃ k ks, s.link.tx = none ∧ s.link.slot = none ∧ s.events.due = k :: ks ∧
      txChoose s = { s with link := { s.link with tx := some (noticeFrame s.events k) },
                            events := { s.events with due := ks } }) := by
  unfold txChoose
  split
  · exact .inl rfl
  · exact .inr (.inl ⟨_, ‹_›, ‹_›, rfl⟩)
  · exact .inr (.inr ⟨_, _, ‹_›, ‹_›, ‹_›, rfl⟩)
  · exact .inl rfl

/-- A busy transmitter changes nothing. -/
theorem txChoose_busy {s : State} (h : s.link.tx.isSome = true) : txChoose s = s := by
  obtain ⟨f, hf⟩ := Option.isSome_iff_exists.mp h
  unfold txChoose
  rw [hf]

/-- A transmitter with nothing due changes nothing. -/
theorem txChoose_nothingDue {s : State} (hs : s.link.slot = none) (hd : s.events.due = []) : txChoose s = s := by
  unfold txChoose
  rw [hs, hd]
  split <;> simp_all

@[simp] theorem txChoose_pending (s : State) : (txChoose s).pending = s.pending := by
  obtain h | ⟨_, _, _, h⟩ | ⟨_, _, _, _, _, h⟩ := txChoose_cases s <;> rw [h]

@[simp] theorem txChoose_ref (s : State) : (txChoose s).ref = s.ref := by
  obtain h | ⟨_, _, _, h⟩ | ⟨_, _, _, _, _, h⟩ := txChoose_cases s <;> rw [h]

@[simp] theorem txChoose_entry (s : State) : (txChoose s).entry = s.entry := by
  obtain h | ⟨_, _, _, h⟩ | ⟨_, _, _, _, _, h⟩ := txChoose_cases s <;> rw [h]

@[simp] theorem txChoose_m0 (s : State) : (txChoose s).m0 = s.m0 := by
  obtain h | ⟨_, _, _, h⟩ | ⟨_, _, _, _, _, h⟩ := txChoose_cases s <;> rw [h]

@[simp] theorem txChoose_zones (s : State) : (txChoose s).zones = s.zones := by
  obtain h | ⟨_, _, _, h⟩ | ⟨_, _, _, _, _, h⟩ := txChoose_cases s <;> rw [h]

@[simp] theorem txChoose_tracker (s : State) : (txChoose s).tracker = s.tracker := by
  obtain h | ⟨_, _, _, h⟩ | ⟨_, _, _, _, _, h⟩ := txChoose_cases s <;> rw [h]

@[simp] theorem txChoose_queue (s : State) : (txChoose s).queue = s.queue := by
  obtain h | ⟨_, _, _, h⟩ | ⟨_, _, _, _, _, h⟩ := txChoose_cases s <;> rw [h]

@[simp] theorem txChoose_stations (s : State) : (txChoose s).stations = s.stations := by
  obtain h | ⟨_, _, _, h⟩ | ⟨_, _, _, _, _, h⟩ := txChoose_cases s <;> rw [h]

@[simp] theorem txChoose_lanes (s : State) : (txChoose s).lanes = s.lanes := by
  obtain h | ⟨_, _, _, h⟩ | ⟨_, _, _, _, _, h⟩ := txChoose_cases s <;> rw [h]

@[simp] theorem txChoose_job (s : State) : (txChoose s).job = s.job := by
  obtain h | ⟨_, _, _, h⟩ | ⟨_, _, _, _, _, h⟩ := txChoose_cases s <;> rw [h]

@[simp] theorem txChoose_mode (s : State) : (txChoose s).mode = s.mode := by
  obtain h | ⟨_, _, _, h⟩ | ⟨_, _, _, _, _, h⟩ := txChoose_cases s <;> rw [h]

@[simp] theorem txChoose_wake (s : State) : (txChoose s).wake = s.wake := by
  obtain h | ⟨_, _, _, h⟩ | ⟨_, _, _, _, _, h⟩ := txChoose_cases s <;> rw [h]

@[simp] theorem txChoose_trace (s : State) : (txChoose s).trace = s.trace := by
  obtain h | ⟨_, _, _, h⟩ | ⟨_, _, _, _, _, h⟩ := txChoose_cases s <;> rw [h]

@[simp] theorem txChoose_rxQueue (s : State) : (txChoose s).link.rxQueue = s.link.rxQueue := by
  obtain h | ⟨_, _, _, h⟩ | ⟨_, _, _, _, _, h⟩ := txChoose_cases s <;> rw [h]

@[simp] theorem txChoose_resetPending (s : State) : (txChoose s).link.resetPending = s.link.resetPending := by
  obtain h | ⟨_, _, _, h⟩ | ⟨_, _, _, _, _, h⟩ := txChoose_cases s <;> rw [h]

@[simp] theorem txChoose_held (s : State) : (txChoose s).link.held = s.link.held := by
  obtain h | ⟨_, _, _, h⟩ | ⟨_, _, _, _, _, h⟩ := txChoose_cases s <;> rw [h]

/-! ### A raise (R180) -/

/-- A raise writes the kind's record; a kind that was not pending is set pending and, when masked in, joins the
notice-due list, from which an idle transmitter starts it. -/
theorem raiseEvent_eq (k : EventKind) (unit detail : Nat) (s : State) :
    raiseEvent k unit detail s =
      if k.isIn s.events.flags then
        { s with events := { s.events with records := s.events.records.set k.index { unit, detail, web := s.web } } }
      else if k.isIn s.events.mask then
        txChoose { s with events := { s.events with
          records := s.events.records.set k.index { unit, detail, web := s.web },
          flags := s.events.flags ||| k.bit, due := s.events.due ++ [k] } }
      else { s with events := { s.events with
          records := s.events.records.set k.index { unit, detail, web := s.web },
          flags := s.events.flags ||| k.bit } } := rfl

@[simp] theorem raiseEvent_pending (k : EventKind) (u d : Nat) (s : State) : (raiseEvent k u d s).pending = s.pending := by
  rw [raiseEvent_eq]
  split <;> [skip; split] <;> simp

@[simp] theorem raiseEvent_ref (k : EventKind) (u d : Nat) (s : State) : (raiseEvent k u d s).ref = s.ref := by
  rw [raiseEvent_eq]
  split <;> [skip; split] <;> simp

@[simp] theorem raiseEvent_entry (k : EventKind) (u d : Nat) (s : State) : (raiseEvent k u d s).entry = s.entry := by
  rw [raiseEvent_eq]
  split <;> [skip; split] <;> simp

@[simp] theorem raiseEvent_m0 (k : EventKind) (u d : Nat) (s : State) : (raiseEvent k u d s).m0 = s.m0 := by
  rw [raiseEvent_eq]
  split <;> [skip; split] <;> simp

@[simp] theorem raiseEvent_zones (k : EventKind) (u d : Nat) (s : State) : (raiseEvent k u d s).zones = s.zones := by
  rw [raiseEvent_eq]
  split <;> [skip; split] <;> simp

@[simp] theorem raiseEvent_tracker (k : EventKind) (u d : Nat) (s : State) : (raiseEvent k u d s).tracker = s.tracker := by
  rw [raiseEvent_eq]
  split <;> [skip; split] <;> simp

@[simp] theorem raiseEvent_queue (k : EventKind) (u d : Nat) (s : State) : (raiseEvent k u d s).queue = s.queue := by
  rw [raiseEvent_eq]
  split <;> [skip; split] <;> simp

@[simp] theorem raiseEvent_stations (k : EventKind) (u d : Nat) (s : State) : (raiseEvent k u d s).stations = s.stations := by
  rw [raiseEvent_eq]
  split <;> [skip; split] <;> simp

@[simp] theorem raiseEvent_lanes (k : EventKind) (u d : Nat) (s : State) : (raiseEvent k u d s).lanes = s.lanes := by
  rw [raiseEvent_eq]
  split <;> [skip; split] <;> simp

@[simp] theorem raiseEvent_job (k : EventKind) (u d : Nat) (s : State) : (raiseEvent k u d s).job = s.job := by
  rw [raiseEvent_eq]
  split <;> [skip; split] <;> simp

@[simp] theorem raiseEvent_mode (k : EventKind) (u d : Nat) (s : State) : (raiseEvent k u d s).mode = s.mode := by
  rw [raiseEvent_eq]
  split <;> [skip; split] <;> simp

@[simp] theorem raiseEvent_wake (k : EventKind) (u d : Nat) (s : State) : (raiseEvent k u d s).wake = s.wake := by
  rw [raiseEvent_eq]
  split <;> [skip; split] <;> simp

@[simp] theorem raiseEvent_trace (k : EventKind) (u d : Nat) (s : State) : (raiseEvent k u d s).trace = s.trace := by
  rw [raiseEvent_eq]
  split <;> [skip; split] <;> simp

@[simp] theorem raiseEvent_rxQueue (k : EventKind) (u d : Nat) (s : State) :
    (raiseEvent k u d s).link.rxQueue = s.link.rxQueue := by
  rw [raiseEvent_eq]
  split <;> [skip; split] <;> simp

@[simp] theorem raiseEvent_station (k : EventKind) (u d : Nat) (s : State) (st : StationId) :
    (raiseEvent k u d s).station st = s.station st := congrArg (PerStation.get · st) (raiseEvent_stations k u d s)

@[simp] theorem raiseEvent_lane (k : EventKind) (u d : Nat) (s : State) (l : LaneId) :
    (raiseEvent k u d s).lane l = s.lane l := congrArg (PerLane.get · l) (raiseEvent_lanes k u d s)

@[simp] theorem raiseEvent_enabled (k : EventKind) (u d : Nat) (s : State) (st : StationId) :
    (raiseEvent k u d s).enabled st = s.enabled st := by simp [State.enabled]

/-- A kind already pending is in the set with its bit added again. -/
theorem EventKind.or_bit {k : EventKind} {b : BitVec 24} (h : k.isIn b = true) : b ||| k.bit = b := by
  apply BitVec.eq_of_getLsbD_eq
  intro i hi
  simp only [EventKind.isIn] at h
  by_cases hk : i = k.index.val
  · subst hk
    simp [h]
  · simp only [EventKind.bit, BitVec.getLsbD_or, BitVec.getLsbD_shiftLeft, BitVec.getLsbD_one]
    have : ¬ (i - k.index.val = 0 ∧ k.index.val ≤ i) := by omega
    by_cases hl : i < k.index.val
    · simp [hl]
    · have h0 : i - k.index.val ≠ 0 := by omega
      simp [h0]

/-- While a frame is being sent, a raise changes the event set alone (R180). -/
theorem raiseEvent_busy {s : State} (h : s.link.tx.isSome = true) (k : EventKind) (unit detail : Nat) :
    raiseEvent k unit detail s = { s with events := s.events.raised k unit detail s.web } := by
  rw [raiseEvent_eq, EventSet.raised]
  split
  · next hk => simp [hk, EventKind.or_bit hk]
  · next hk =>
    split
    · next hm =>
      have hb (e : EventSet) : txChoose { s with events := e } = { s with events := e } :=
        txChoose_busy (s := { s with events := e }) h
      rw [hb, if_neg (by simp [hk, hm])]
    · next hm => simp [hk, hm]

/-! ### The trace queue (R186) -/

/-- An entry joins the trace queue, with TRACE_WATERMARK tested, or is dropped and counted. -/
theorem writeTrace_eq (t : TraceEntry) (s : State) :
    writeTrace t s =
      if s.trace.entries.length < Config.traceCapacity then
        watermarkTest { s with trace := { s.trace with entries := s.trace.entries ++ [t] } }
      else raiseEvent .traceOverflow t.station.number (bump16 s.trace.dropped)
        { s with trace := { s.trace with dropped := bump16 s.trace.dropped } } := rfl

@[simp] theorem watermarkTest_pending (s : State) : (watermarkTest s).pending = s.pending := by
  unfold watermarkTest
  split <;> simp

@[simp] theorem watermarkTest_ref (s : State) : (watermarkTest s).ref = s.ref := by
  unfold watermarkTest
  split <;> simp

@[simp] theorem watermarkTest_entry (s : State) : (watermarkTest s).entry = s.entry := by
  unfold watermarkTest
  split <;> simp

@[simp] theorem watermarkTest_m0 (s : State) : (watermarkTest s).m0 = s.m0 := by
  unfold watermarkTest
  split <;> simp

@[simp] theorem watermarkTest_zones (s : State) : (watermarkTest s).zones = s.zones := by
  unfold watermarkTest
  split <;> simp

@[simp] theorem watermarkTest_tracker (s : State) : (watermarkTest s).tracker = s.tracker := by
  unfold watermarkTest
  split <;> simp

@[simp] theorem watermarkTest_queue (s : State) : (watermarkTest s).queue = s.queue := by
  unfold watermarkTest
  split <;> simp

@[simp] theorem watermarkTest_stations (s : State) : (watermarkTest s).stations = s.stations := by
  unfold watermarkTest
  split <;> simp

@[simp] theorem watermarkTest_lanes (s : State) : (watermarkTest s).lanes = s.lanes := by
  unfold watermarkTest
  split <;> simp

@[simp] theorem watermarkTest_job (s : State) : (watermarkTest s).job = s.job := by
  unfold watermarkTest
  split <;> simp

@[simp] theorem watermarkTest_mode (s : State) : (watermarkTest s).mode = s.mode := by
  unfold watermarkTest
  split <;> simp

@[simp] theorem watermarkTest_wake (s : State) : (watermarkTest s).wake = s.wake := by
  unfold watermarkTest
  split <;> simp

@[simp] theorem watermarkTest_trace (s : State) : (watermarkTest s).trace = s.trace := by
  unfold watermarkTest
  split <;> simp

@[simp] theorem writeTrace_pending (t : TraceEntry) (s : State) : (writeTrace t s).pending = s.pending := by
  rw [writeTrace_eq]
  split <;> simp

@[simp] theorem writeTrace_ref (t : TraceEntry) (s : State) : (writeTrace t s).ref = s.ref := by
  rw [writeTrace_eq]
  split <;> simp

@[simp] theorem writeTrace_entry (t : TraceEntry) (s : State) : (writeTrace t s).entry = s.entry := by
  rw [writeTrace_eq]
  split <;> simp

@[simp] theorem writeTrace_m0 (t : TraceEntry) (s : State) : (writeTrace t s).m0 = s.m0 := by
  rw [writeTrace_eq]
  split <;> simp

@[simp] theorem writeTrace_zones (t : TraceEntry) (s : State) : (writeTrace t s).zones = s.zones := by
  rw [writeTrace_eq]
  split <;> simp

@[simp] theorem writeTrace_tracker (t : TraceEntry) (s : State) : (writeTrace t s).tracker = s.tracker := by
  rw [writeTrace_eq]
  split <;> simp

@[simp] theorem writeTrace_queue (t : TraceEntry) (s : State) : (writeTrace t s).queue = s.queue := by
  rw [writeTrace_eq]
  split <;> simp

@[simp] theorem writeTrace_stations (t : TraceEntry) (s : State) : (writeTrace t s).stations = s.stations := by
  rw [writeTrace_eq]
  split <;> simp

@[simp] theorem writeTrace_lanes (t : TraceEntry) (s : State) : (writeTrace t s).lanes = s.lanes := by
  rw [writeTrace_eq]
  split <;> simp

@[simp] theorem writeTrace_job (t : TraceEntry) (s : State) : (writeTrace t s).job = s.job := by
  rw [writeTrace_eq]
  split <;> simp

@[simp] theorem writeTrace_mode (t : TraceEntry) (s : State) : (writeTrace t s).mode = s.mode := by
  rw [writeTrace_eq]
  split <;> simp

@[simp] theorem writeTrace_wake (t : TraceEntry) (s : State) : (writeTrace t s).wake = s.wake := by
  rw [writeTrace_eq]
  split <;> simp

/-! ### The dispatcher (R177) -/

/-- A link at rest stays as it is. -/
theorem atRest_iff (s : State) :
    s.atRest = true ↔ s.link.slot = none ∧ s.link.rxQueue = [] ∧ s.link.resetPending = false ∧
      (s.link.tx.isSome = true ∨ s.events.due = []) := by
  simp [State.atRest, and_assoc]

/-- A transmitter of a link at rest has nothing to start. -/
theorem txChoose_atRest {s : State} (h : s.atRest = true) : txChoose s = s := by
  obtain ⟨hs, -, -, ht | hd⟩ := (atRest_iff s).mp h
  · exact txChoose_busy ht
  · exact txChoose_nothingDue hs hd

/-- A link at rest does nothing more. -/
theorem settle_atRest {s : State} (h : s.atRest = true) : settle s = s := by
  obtain ⟨-, hq, -, -⟩ := (atRest_iff s).mp h
  simp [settle, txChoose_atRest h, hq, pump]

/-- On a link at rest a good frame is answered at once, and its reply placed in the reply slot (R176, R177). -/
theorem deliver_atRest {s : State} (h : s.atRest = true) (kind tag : Octet) (payload : List Octet) :
    deliver kind tag payload s =
      txChoose (placeReply { kind, tag, payload } (answer kind payload s)) := by
  obtain ⟨hs, hq, hr, ht⟩ := (atRest_iff s).mp h
  obtain ⟨p, ref, entry, m0, zones, tracker, queue, stations, lanes, job, mode, wake, link, events, trace⟩ := s
  obtain ⟨held, gap, ab, bl, bc, rx, ov, lk, lt, ovs, rp, slot, tx, rate⟩ := link
  simp only at hs hq hr ht
  subst hs hq hr
  have hc : ∀ rx, txChoose ⟨p, ref, entry, m0, zones, tracker, queue, stations, lanes, job, mode, wake,
      ⟨held, gap, ab, bl, bc, rx, ov, lk, lt, ovs, false, none, tx, rate⟩, events, trace⟩ =
      ⟨p, ref, entry, m0, zones, tracker, queue, stations, lanes, job, mode, wake,
      ⟨held, gap, ab, bl, bc, rx, ov, lk, lt, ovs, false, none, tx, rate⟩, events, trace⟩ := by
    intro rx
    obtain ht | hd := ht
    · exact txChoose_busy ht
    · exact txChoose_nothingDue rfl hd
  simp [deliver, Link.takeGood, Config.rxCapacity, settle, hc, pump, takeFrame]

/-- While a reply waits in the reply slot the dispatcher takes no frame. -/
theorem pump_slot {s : State} (h : s.link.slot.isSome = true) (n : Nat) : pump n s = s := by
  obtain ⟨r, hr⟩ := Option.isSome_iff_exists.mp h
  cases n <;> simp [pump, hr]

/-- A request command is its frame found by the receiver (log 5). -/
theorem exec_deliver {i : Instr} {f : Frame} (h : i.frame? = some f) (s : State) :
    exec i s = .next (deliver f.kind f.tag f.payload s) := by
  cases i <;> simp [Instr.frame?] at h <;> subst h <;> rfl

/-- The kind octet of a request names it (R190). -/
@[simp] theorem ofOctet_code (k : ReqKind) : ReqKind.ofOctet (BitVec.ofNat 8 k.code) = some k := by cases k <;> rfl

/-- On a link at rest a request of a fitting length is carried out and its reply placed, if it is not an accepted
RESET (R177). -/
theorem request_atRest {s s' : State} {k : ReqKind} {tag : Octet} {p q : List Octet} (h : s.atRest = true)
    (hl : lengthFits k p = true) (hc : carryOut k p s = (q, s')) (hr : s'.link.resetPending = false) :
    request k tag p s = .next (s'.replied k tag q) := by
  simp [request, deliver_atRest h, answer, hl, hc, placeReply, hr, State.replied, State.answered]

/-- A raise keeps what the dispatcher knows of RESET. -/
@[simp] theorem raiseEvent_resetPending (k : EventKind) (u d : Nat) (s : State) :
    (raiseEvent k u d s).link.resetPending = s.link.resetPending := by
  rw [raiseEvent_eq]
  split <;> [skip; split] <;> simp

end Sys2Proof.Machine
end

