-- ==== Sys2Proof/Laws/PerInstr.lean ====
section
/-! SUPPORT. A family of statements, one per command: a well-formed request's frame is 6 to 254 octets long on the line
(R173). -/

namespace Sys2Proof.Laws.OnTheLine

/-- A frame carries 6 octets besides its payload (R173). -/
theorem frameOctets_length (kind tag : Octet) (payload : List Octet) :
    (Machine.frameOctets kind tag payload).length = payload.length + 6 := by
  simp [Machine.frameOctets, Machine.frameBody, Machine.octets]

/-- The frame of a well-formed request command is 6 to 254 octets long on the line (R173). -/
def Statement (i : Instr) : Prop :=
  i.wellFormed = true → ∀ f, i.frame? = some f →
    6 ≤ (Machine.frameOctets f.kind f.tag f.payload).length ∧
    (Machine.frameOctets f.kind f.tag f.payload).length ≤ 254

/-- A payload that fits makes a frame of 6 to 254 octets. -/
theorem of_payloadFits (f : Machine.Frame) (h : payloadFits f.payload = true) :
    6 ≤ (Machine.frameOctets f.kind f.tag f.payload).length ∧
    (Machine.frameOctets f.kind f.tag f.payload).length ≤ 254 := by
  rw [frameOctets_length]
  have : f.payload.length ≤ 248 := of_decide_eq_true h
  omega

theorem identify (tag : Octet) (payload : List Octet) : Statement (.identify tag payload) :=
  fun h _ hf => Option.some.inj hf ▸ of_payloadFits _ h
theorem reset (tag : Octet) (payload : List Octet) : Statement (.reset tag payload) :=
  fun h _ hf => Option.some.inj hf ▸ of_payloadFits _ h
theorem setMode (tag : Octet) (payload : List Octet) : Statement (.setMode tag payload) :=
  fun h _ hf => Option.some.inj hf ▸ of_payloadFits _ h
theorem readStatus (tag : Octet) (payload : List Octet) : Statement (.readStatus tag payload) :=
  fun h _ hf => Option.some.inj hf ▸ of_payloadFits _ h
theorem setSource (tag : Octet) (payload : List Octet) : Statement (.setSource tag payload) :=
  fun h _ hf => Option.some.inj hf ▸ of_payloadFits _ h
theorem setupEntry (tag : Octet) (payload : List Octet) : Statement (.setupEntry tag payload) :=
  fun h _ hf => Option.some.inj hf ▸ of_payloadFits _ h
theorem setupStation (tag : Octet) (payload : List Octet) : Statement (.setupStation tag payload) :=
  fun h _ hf => Option.some.inj hf ▸ of_payloadFits _ h
theorem tuneRegister (tag : Octet) (payload : List Octet) : Statement (.tuneRegister tag payload) :=
  fun h _ hf => Option.some.inj hf ▸ of_payloadFits _ h
theorem setTrim (tag : Octet) (payload : List Octet) : Statement (.setTrim tag payload) :=
  fun h _ hf => Option.some.inj hf ▸ of_payloadFits _ h
theorem nudgeTrim (tag : Octet) (payload : List Octet) : Statement (.nudgeTrim tag payload) :=
  fun h _ hf => Option.some.inj hf ▸ of_payloadFits _ h
theorem setupHeat (tag : Octet) (payload : List Octet) : Statement (.setupHeat tag payload) :=
  fun h _ hf => Option.some.inj hf ▸ of_payloadFits _ h
theorem setupLane (tag : Octet) (payload : List Octet) : Statement (.setupLane tag payload) :=
  fun h _ hf => Option.some.inj hf ▸ of_payloadFits _ h
theorem loadSpool (tag : Octet) (payload : List Octet) : Statement (.loadSpool tag payload) :=
  fun h _ hf => Option.some.inj hf ▸ of_payloadFits _ h
theorem pause (tag : Octet) (payload : List Octet) : Statement (.pause tag payload) :=
  fun h _ hf => Option.some.inj hf ▸ of_payloadFits _ h
theorem resume (tag : Octet) (payload : List Octet) : Statement (.resume tag payload) :=
  fun h _ hf => Option.some.inj hf ▸ of_payloadFits _ h
theorem clearFault (tag : Octet) (payload : List Octet) : Statement (.clearFault tag payload) :=
  fun h _ hf => Option.some.inj hf ▸ of_payloadFits _ h
theorem defineMotif (tag : Octet) (payload : List Octet) : Statement (.defineMotif tag payload) :=
  fun h _ hf => Option.some.inj hf ▸ of_payloadFits _ h
theorem clearMotif (tag : Octet) (payload : List Octet) : Statement (.clearMotif tag payload) :=
  fun h _ hf => Option.some.inj hf ▸ of_payloadFits _ h
theorem readMotif (tag : Octet) (payload : List Octet) : Statement (.readMotif tag payload) :=
  fun h _ hf => Option.some.inj hf ▸ of_payloadFits _ h
theorem loadPlan (tag : Octet) (payload : List Octet) : Statement (.loadPlan tag payload) :=
  fun h _ hf => Option.some.inj hf ▸ of_payloadFits _ h
theorem commitPlan (tag : Octet) (payload : List Octet) : Statement (.commitPlan tag payload) :=
  fun h _ hf => Option.some.inj hf ▸ of_payloadFits _ h
theorem dropPlan (tag : Octet) (payload : List Octet) : Statement (.dropPlan tag payload) :=
  fun h _ hf => Option.some.inj hf ▸ of_payloadFits _ h
theorem endJob (tag : Octet) (payload : List Octet) : Statement (.endJob tag payload) :=
  fun h _ hf => Option.some.inj hf ▸ of_payloadFits _ h
theorem extendBatch (tag : Octet) (payload : List Octet) : Statement (.extendBatch tag payload) :=
  fun h _ hf => Option.some.inj hf ▸ of_payloadFits _ h
theorem readStation (tag : Octet) (payload : List Octet) : Statement (.readStation tag payload) :=
  fun h _ hf => Option.some.inj hf ▸ of_payloadFits _ h
theorem readLane (tag : Octet) (payload : List Octet) : Statement (.readLane tag payload) :=
  fun h _ hf => Option.some.inj hf ▸ of_payloadFits _ h
theorem readQueue (tag : Octet) (payload : List Octet) : Statement (.readQueue tag payload) :=
  fun h _ hf => Option.some.inj hf ▸ of_payloadFits _ h
theorem readTrace (tag : Octet) (payload : List Octet) : Statement (.readTrace tag payload) :=
  fun h _ hf => Option.some.inj hf ▸ of_payloadFits _ h
theorem setEventMask (tag : Octet) (payload : List Octet) : Statement (.setEventMask tag payload) :=
  fun h _ hf => Option.some.inj hf ▸ of_payloadFits _ h
theorem readEvents (tag : Octet) (payload : List Octet) : Statement (.readEvents tag payload) :=
  fun h _ hf => Option.some.inj hf ▸ of_payloadFits _ h
theorem clearEvents (tag : Octet) (payload : List Octet) : Statement (.clearEvents tag payload) :=
  fun h _ hf => Option.some.inj hf ▸ of_payloadFits _ h
theorem unknownKindRequest (kind : Octet) (tag : Octet) (payload : List Octet) : Statement (.unknownKindRequest kind tag payload) :=
  fun h _ hf =>
  Option.some.inj hf ▸ of_payloadFits _ (Bool.and_eq_true_iff.mp h).1
theorem octetReceived (octet : Octet) : Statement (.octetReceived octet) := fun _ _ hf => nomatch hf
theorem missingStopBit : Statement (.missingStopBit) := fun _ _ hf => nomatch hf
theorem gapTimerExpiry : Statement (.gapTimerExpiry) := fun _ _ hf => nomatch hf
theorem frameSent : Statement (.frameSent) := fun _ _ hf => nomatch hf
theorem hardwareReset (strap1 : Bool) (strap0 : Bool) : Statement (.hardwareReset strap1 strap0) :=
  fun _ _ hf => nomatch hf
theorem powerOnReset (strap1 : Bool) (strap0 : Bool) : Statement (.powerOnReset strap1 strap0) :=
  fun _ _ hf => nomatch hf
theorem sourceCount (source : Source) (levelA : Bool) (levelB : Bool) : Statement (.sourceCount source levelA levelB) :=
  fun _ _ hf => nomatch hf
theorem sourceFaultInputAsserted (source : Source) : Statement (.sourceFaultInputAsserted source) :=
  fun _ _ hf => nomatch hf
theorem sourceFaultInputClears (source : Source) : Statement (.sourceFaultInputClears source) :=
  fun _ _ hf => nomatch hf
theorem motionTimerExpiry (source : Source) : Statement (.motionTimerExpiry source) := fun _ _ hf => nomatch hf
theorem speedSampleTimerExpiry : Statement (.speedSampleTimerExpiry) := fun _ _ hf => nomatch hf
theorem markLeadingEdge (channel : Channel) : Statement (.markLeadingEdge channel) := fun _ _ hf => nomatch hf
theorem markTrailingEdge (channel : Channel) : Statement (.markTrailingEdge channel) := fun _ _ hf => nomatch hf
theorem overwidthThreshold (channel : Channel) : Statement (.overwidthThreshold channel) := fun _ _ hf => nomatch hf
theorem entryWindowExpiry : Statement (.entryWindowExpiry) := fun _ _ hf => nomatch hf
theorem spliceEdge (leading : Bool) : Statement (.spliceEdge leading) := fun _ _ hf => nomatch hf
theorem spliceZoneRemoval : Statement (.spliceZoneRemoval) := fun _ _ hf => nomatch hf
theorem stationWindowExpiry : Statement (.stationWindowExpiry) := fun _ _ hf => nomatch hf
theorem strikePoint : Statement (.strikePoint) := fun _ _ hf => nomatch hf
theorem dieGate (station : StationId) (index : Bool) : Statement (.dieGate station index) := fun _ _ hf => nomatch hf
theorem waitingMarkExpiry (station : StationId) : Statement (.waitingMarkExpiry station) := fun _ _ hf => nomatch hf
theorem unpairedGateExpiry (station : StationId) : Statement (.unpairedGateExpiry station) :=
  fun _ _ hf => nomatch hf
theorem engagedConfirm (station : StationId) (level : Bool) : Statement (.engagedConfirm station level) :=
  fun _ _ hf => nomatch hf
theorem liftedConfirm (station : StationId) (level : Bool) : Statement (.liftedConfirm station level) :=
  fun _ _ hf => nomatch hf
theorem strokeTimerExpiry (station : StationId) : Statement (.strokeTimerExpiry station) := fun _ _ hf => nomatch hf
theorem idleLiftPoint (station : StationId) : Statement (.idleLiftPoint station) := fun _ _ hf => nomatch hf
theorem driveFaultInput (lane : LaneId) (level : Bool) : Statement (.driveFaultInput lane level) :=
  fun _ _ hf => nomatch hf
theorem temperatureSample (zone : StationId) (sample : BitVec 16) : Statement (.temperatureSample zone sample) :=
  fun _ _ hf => nomatch hf
theorem sensorFaultInput (zone : StationId) (level : Bool) : Statement (.sensorFaultInput zone level) :=
  fun _ _ hf => nomatch hf
theorem soakTimerExpiry (zone : StationId) : Statement (.soakTimerExpiry zone) := fun _ _ hf => nomatch hf
theorem wakeThreshold : Statement (.wakeThreshold) := fun _ _ hf => nomatch hf

end Sys2Proof.Laws.OnTheLine
end

