-- ==== Sys2Proof/Laws/Queue.lean ====
section
/-! SUPPORT. The queue's next threshold (R9, R44) and what retirement can do (R43, R165, R166), each said once. -/

namespace Sys2Proof.Machine

/-! ### The next threshold (R9, R44) -/

/-- What is chosen among thresholds is one of them. -/
theorem foldr_earlier_mem (ts : List DueThreshold) {y : DueThreshold} (h : ts.foldr earlier none = some y) : y ∈ ts := by
  induction ts generalizing y with
  | nil => cases h
  | cons a ts ih =>
    simp only [List.foldr_cons] at h
    cases hb : ts.foldr earlier none with
    | none =>
      rw [hb] at h
      simp only [earlier, Option.some.injEq] at h
      simp [h]
    | some b =>
      rw [hb] at h
      simp only [earlier] at h
      split at h
      · cases h
        exact List.mem_cons_of_mem _ (ih hb)
      · cases h
        exact List.mem_cons_self

/-- Of two positions apart, the one that lies before the other has the other after it (R1). -/
theorem sdiff_neg_of_pos {x y : Pos} (h : 0 < sdiff x y) : sdiff y x < 0 := by
  unfold sdiff at *
  have e : y - x = -(x - y) := by rw [BitVec.neg_sub, BitVec.add_comm, ← BitVec.sub_eq_add_neg]
  rw [e]
  generalize x - y = d at *
  rw [d.toInt_neg]
  have h2 := BitVec.toInt_lt (x := d)
  have h3 := BitVec.le_toInt (x := d)
  norm_num at h2 h3
  rw [Int.bmod_def]
  omega

/-- A reached threshold that no other reached one precedes is the next to be taken (R9, R44). -/
theorem nextDue_of (hw : Pos) (before after : List DueThreshold) (x : DueThreshold) (hx : 0 ≤ sdiff hw x.pos)
    (hb : ∀ y ∈ before, 0 ≤ sdiff hw y.pos → 0 < sdiff y.pos x.pos)
    (ha : ∀ y ∈ after, 0 ≤ sdiff hw y.pos → 0 ≤ sdiff y.pos x.pos) :
    nextDue hw (before ++ x :: after) = some x := by
  have key : ((x :: after).filter fun t => reached hw t.pos).foldr earlier none = some x := by
    have : reached hw x.pos = true := by simp [reached, hx]
    simp only [List.filter_cons, this, if_true, List.foldr_cons]
    cases hb : (after.filter fun t => reached hw t.pos).foldr earlier none with
    | none => rfl
    | some b =>
      have hm := foldr_earlier_mem _ hb
      simp only [reached, List.mem_filter, decide_eq_true_eq] at hm
      have := ha b hm.1 hm.2
      simp only [earlier]
      rw [if_neg (by omega)]
  induction before with
  | nil => exact key
  | cons a l ih =>
    have ih := ih (fun y hy => hb y (List.mem_cons_of_mem _ hy))
    simp only [nextDue, List.cons_append, List.filter_cons] at ih ⊢
    split
    · rename_i h
      simp only [List.foldr_cons, ih, earlier]
      rw [if_pos (sdiff_neg_of_pos (hb a List.mem_cons_self (by simpa [reached] using h)))]
    · exact ih

/-- With no threshold reached there is none to take (R9). -/
theorem nextDue_none (hw : Pos) (ts : List DueThreshold) (h : ∀ y ∈ ts, sdiff hw y.pos < 0) : nextDue hw ts = none := by
  have : (ts.filter fun t => reached hw t.pos) = [] :=
    List.filter_eq_nil_iff.mpr fun y hy => by simpa [reached] using h y hy
  simp [nextDue, this]

/-! ### Retirement (R43) -/

/-- A raise changes nothing but the event set and the link. -/
theorem raiseEvent_frame (k : EventKind) (u d : Nat) (s : State) :
    ∃ events link, raiseEvent k u d s = { s with events := events, link := link } := by
  unfold raiseEvent
  simp only
  split
  · exact ⟨_, s.link, rfl⟩
  · split
    · unfold txChoose
      split
      · exact ⟨_, s.link, rfl⟩
      · exact ⟨_, _, rfl⟩
      · exact ⟨_, _, rfl⟩
      · exact ⟨_, s.link, rfl⟩
    · exact ⟨_, s.link, rfl⟩

/-- The drained test changes nothing but the job and what a raise changes. -/
theorem drainedTest_frame (s : State) :
    ∃ job events link, drainedTest s = { s with job := job, events := events, link := link } := by
  unfold drainedTest
  split
  · obtain ⟨e, l, h⟩ := raiseEvent_frame .jobEnded 0
      (endReasonCode s.job.endReason * 256 + match s.job.active with | some p => p.id | none => 0)
      { s with job := { s.job with state := .ended } }
    exact ⟨_, e, l, h⟩
  · exact ⟨s.job, s.events, s.link, rfl⟩

/-- What the job store is told of a retirement changes nothing but the job and what a raise changes. -/
theorem planRetired_frame (id : Nat) (s : State) :
    ∃ job events link, planRetired id s = { s with job := job, events := events, link := link } := by
  unfold planRetired
  split
  · obtain ⟨j, e, l, h⟩ := drainedTest_frame { s with job := { s.job with activeLive := s.job.activeLive - 1 } }
    exact ⟨j, e, l, h⟩
  · split
    · exact ⟨_, s.events, s.link, rfl⟩
    · exact ⟨s.job, s.events, s.link, rfl⟩

/-- The retirement check takes records from the head of the queue, and changes nothing else but the job and what a
raise changes. -/
theorem retireHeads_frame (fuel : Nat) (s : State) :
    ∃ n job events link,
      retireHeads fuel s = { s with queue := s.queue.drop n, job := job, events := events, link := link } := by
  induction fuel generalizing s with
  | zero => exact ⟨0, s.job, s.events, s.link, rfl⟩
  | succ fuel ih =>
    unfold retireHeads
    split
    · exact ⟨0, s.job, s.events, s.link, rfl⟩
    · rename_i r rest hq
      split
      · obtain ⟨j, e, l, h⟩ := planRetired_frame r.plan { s with queue := rest }
        obtain ⟨n, j', e', l', h'⟩ := ih { s with queue := rest, job := j, events := e, link := l }
        exact ⟨n + 1, j', e', l', by rw [h, h', hq]; rfl⟩
      · exact ⟨0, s.job, s.events, s.link, rfl⟩

/-- After the retirement check the head, if there is one, has a visit that is not FINAL (R43). -/
theorem retire_head (s : State) : ∀ r, (retire s).queue.head? = some r → r.allFinal = false := by
  unfold retire
  suffices h : ∀ (n : Nat) (s : State), s.queue.length ≤ n → ∀ r, (retireHeads n s).queue.head? = some r →
      r.allFinal = false from h _ s le_rfl
  intro n
  induction n with
  | zero =>
    intro s hs r hr
    simp [retireHeads, List.length_eq_zero_iff.mp (Nat.le_zero.mp hs)] at hr
  | succ n ih =>
    intro s hs r hr
    unfold retireHeads at hr
    split at hr
    · rename_i hq
      simp [hq] at hr
    · rename_i x rest hq
      split at hr
      · obtain ⟨j, e, l, h⟩ := planRetired_frame x.plan { s with queue := rest }
        rw [h] at hr
        exact ih _ (by simpa [hq] using hs) r hr
      · rename_i hf
        rw [hq] at hr
        cases hr
        simpa using hf

end Sys2Proof.Machine
end

