-- ==== Sys2Proof/Laws/Plant.lean ====
section
/-! SUPPORT. What the operations of stations and lanes can do, each said once: the actuator's requests (R101), drive
commands (R118, R129), conversion (R57) and the hard causes (R94, R96). -/

namespace Sys2Proof.Machine

/-! ### Actions over stations and lanes -/

/-- What every action of a list of stations keeps is kept by them all. -/
theorem overStations_keeps {P : State → Prop} {f : StationId → State → State} (h : ∀ st s, P s → P (f st s))
    (sts : List StationId) {s : State} (hs : P s) : P (overStations sts f s) := by
  unfold overStations
  induction sts generalizing s with
  | nil => exact hs
  | cons st sts ih => exact ih (h st s hs)

/-- What every action of a list of lanes keeps is kept by them all. -/
theorem overLanes_keeps {P : State → Prop} {f : LaneId → State → State} (h : ∀ l s, P s → P (f l s))
    (ls : List LaneId) {s : State} (hs : P s) : P (overLanes ls f s) := by
  unfold overLanes
  induction ls generalizing s with
  | nil => exact hs
  | cons l ls ih => exact ih (h l s hs)

/-- A change made to each lane of a list changes only the lanes. -/
theorem overLanes_modLane_frame (g : State → Lane → Lane) (ls : List LaneId) (s : State) :
    ∃ lanes, overLanes ls (fun l s => s.modLane l (g s)) s = { s with lanes := lanes } :=
  overLanes_keeps (P := fun t => ∃ lanes, t = { s with lanes := lanes })
    (fun l t ⟨lanes, ht⟩ => ⟨lanes.put l (g t (t.lane l)), by rw [ht]; rfl⟩) ls ⟨s.lanes, rfl⟩

/-! ### The actuator (R101) -/

/-- An engage request changes nothing but the valve, the actuator and the stroke timer. -/
theorem Station.engage_frame (u : Station) :
    ∃ valve actuator stroke, u.engage = { u with valve := valve, actuator := actuator, stroke := stroke } := by
  unfold Station.engage
  split
  · split <;> exact ⟨_, _, _, rfl⟩
  · split <;> exact ⟨_, _, _, rfl⟩
  · exact ⟨u.valve, u.actuator, u.stroke, rfl⟩

/-- A lift request changes nothing but the valve, the actuator and the stroke timer. -/
theorem Station.lift_frame (u : Station) :
    ∃ valve actuator stroke, u.lift = { u with valve := valve, actuator := actuator, stroke := stroke } := by
  unfold Station.lift
  split
  · split <;> exact ⟨_, _, _, rfl⟩
  · split <;> exact ⟨_, _, _, rfl⟩
  · exact ⟨u.valve, u.actuator, u.stroke, rfl⟩

/-- A second lift request changes nothing (R101). -/
theorem Station.lift_lift (u : Station) : u.lift.lift = u.lift := by
  rcases u with ⟨_, _, actuator, _, _, _, liftedIn, _⟩
  cases actuator <;> cases liftedIn <;> rfl

/-- Cancelling the idle-lift point and lifting, done twice, is done once. -/
theorem Station.cancelAndLift_twice (u : Station) : u.cancelAndLift.cancelAndLift = u.cancelAndLift := by
  rcases u with ⟨_, _, actuator, _, _, _, liftedIn, _⟩
  cases actuator <;> cases liftedIn <;> rfl

/-! ### Drive commands (R118, R129) -/

/-- A halted lane that was ACTIVE or PARKED is PARKED with no feed; any other lane is as it was. -/
theorem Lane.halt_cases (web : Pos) (l : Lane) :
    ((l.state = .active ∨ l.state = .parked) ∧
      l.halt web = { l with drive := l.drive ++ [fullStop web], pendingFeeds := [], lastFeed := none, state := .parked }) ∨
    (l.state ≠ .active ∧ l.state ≠ .parked ∧ l.halt web = l) := by
  unfold Lane.halt
  cases h : l.state <;> simp [Lane.stopAll, Lane.send]

/-- A one-feed STOP changes nothing but the drive's log, the pending feeds, the last feed and the state. -/
theorem Lane.stopOne_frame (seq : BitVec 16) (l : Lane) :
    ∃ drive pendingFeeds lastFeed state, l.stopOne seq =
      { l with drive := drive, pendingFeeds := pendingFeeds, lastFeed := lastFeed, state := state } := by
  unfold Lane.stopOne
  split
  · exact ⟨l.drive, l.pendingFeeds, l.lastFeed, l.state, rfl⟩
  · simp only [Lane.send]
    split
    · split <;> exact ⟨_, _, _, _, rfl⟩
    · exact ⟨_, _, _, _, rfl⟩

/-! ### Conversion and the hard causes (R55 to R57, R94, R96) -/

/-- A soft cause changes only stations. -/
theorem addSoft_frame (c : Cause) (st : StationId) (s : State) :
    ∃ stations, addSoft c st s = { s with stations := stations } := by
  unfold addSoft
  split
  · exact ⟨_, rfl⟩
  · exact ⟨s.stations, rfl⟩

/-- The requests of a SKIP decision change only stations. -/
theorem skipDecided_frame (seq : BitVec 16) (st : StationId) (s : State) :
    ∃ stations, skipDecided seq st s = { s with stations := stations } := by
  unfold skipDecided
  split
  · exact ⟨s.stations, rfl⟩
  · exact ⟨_, rfl⟩

/-- The requests of a STRIKE decision change only stations. -/
theorem strikeDecided_frame (seq : BitVec 16) (st : StationId) (s : State) :
    ∃ stations, strikeDecided seq st s = { s with stations := stations } := ⟨_, rfl⟩

/-- A conversion changes only stations, lanes and the queue. -/
theorem convertVisit_frame (seq : BitVec 16) (st : StationId) (reason : SkipReason) (feeds : List FeedRecord)
    (s : State) : ∃ stations lanes queue,
      convertVisit seq st reason feeds s = { s with stations := stations, lanes := lanes, queue := queue } := by
  unfold convertVisit
  obtain ⟨lanes, hl⟩ := overLanes_modLane_frame (fun _ u => u.stopOne seq) (feeds.map FeedRecord.lane)
    (modVisit seq st (fun v => { v with decision := some (.skip reason) }) s)
  rw [hl]
  obtain ⟨stations, hs⟩ := skipDecided_frame seq st
    { modVisit seq st (fun v => { v with decision := some (.skip reason) }) s with lanes := lanes }
  exact ⟨stations, lanes, _, hs⟩

/-- The conversion of a station's visits changes only stations, lanes and the queue. -/
theorem convertAll_frame (st : StationId) (s : State) : ∃ stations lanes queue,
    convertAll st s = { s with stations := stations, lanes := lanes, queue := queue } := by
  unfold convertAll
  suffices h : ∀ (xs : List (BitVec 16 × List FeedRecord)) (t : State),
      (∃ stations lanes queue, t = { s with stations := stations, lanes := lanes, queue := queue }) →
      ∃ stations lanes queue, xs.foldl (fun s x => convertVisit x.1 st .hold x.2 s) t =
        { s with stations := stations, lanes := lanes, queue := queue } from h _ s ⟨s.stations, s.lanes, s.queue, rfl⟩
  intro xs
  induction xs with
  | nil => exact fun t h => h
  | cons x xs ih =>
    rintro t ⟨a, b, c, rfl⟩
    obtain ⟨a', b', c', h⟩ := convertVisit_frame x.1 st .hold x.2 { s with stations := a, lanes := b, queue := c }
    exact ih _ ⟨a', b', c', h⟩

/-- A hard cause changes only stations, lanes and the queue (R94, R96). -/
theorem addHard_frame (c : Cause) (st : StationId) (s : State) : ∃ stations lanes queue,
    addHard c st s = { s with stations := stations, lanes := lanes, queue := queue } := by
  unfold addHard
  split
  · unfold faultActions haltLanes
    obtain ⟨a, ha⟩ := addSoft_frame c st s
    rw [ha]
    obtain ⟨a', b, q, h⟩ := convertAll_frame st
      (({ s with stations := a } : State).modStation st Station.cancelAndLift)
    rw [h]
    obtain ⟨b', h'⟩ := overLanes_modLane_frame (fun s u => u.halt s.web)
      ((({ s with stations := a', lanes := b, queue := q } : State)).lanesOf st)
      { s with stations := a', lanes := b, queue := q }
    exact ⟨a', b', q, h'⟩
  · exact ⟨s.stations, s.lanes, s.queue, rfl⟩

/-- REFERENCE at every enabled station changes only stations, lanes and the queue (R7, R11). -/
theorem addReference_frame (s : State) : ∃ stations lanes queue,
    addReference s = { s with stations := stations, lanes := lanes, queue := queue } :=
  overStations_keeps (P := fun t => ∃ a b q, t = { s with stations := a, lanes := b, queue := q })
    (fun st t ⟨a, b, q, ht⟩ => by
      obtain ⟨a', b', q', h⟩ := addHard_frame .reference st t
      exact ⟨a', b', q', by rw [h, ht]⟩) _ ⟨s.stations, s.lanes, s.queue, rfl⟩

end Sys2Proof.Machine
end

