-- ==== Sys2Proof/Laws/Receiver.lean ====
section
/-! SUPPORT. What the receiver makes of the octets it follows (R174, R175). -/

namespace Sys2Proof.Machine

/-! ### Judging a candidate -/

/-- A length octet of 0, 1 or above 250 is a bad length. -/
theorem judge_badLength {len : Octet} (h : len.toNat < 2 ∨ 250 < len.toNat) (os : List Octet) :
    judge (len :: os) = .badLength := by
  rw [judge]
  exact if_pos h

/-- A candidate whose octets have not all arrived is incomplete. -/
theorem judge_incomplete {len : Octet} {os : List Octet} (h : 2 ≤ len.toNat) (h' : len.toNat ≤ 250)
    (ho : os.length < len.toNat + 2) : judge (len :: os) = .incomplete := by
  rw [judge]
  dsimp only
  rw [if_neg (by omega), if_pos (by simp only [List.length_cons]; omega)]

theorem frameBody_length (kind tag : Octet) (payload : List Octet) :
    (frameBody kind tag payload).length = payload.length + 3 := rfl

/-- The octets of a frame after its start octet are a good frame, whatever follows them. -/
theorem judge_frame {payload : List Octet} (h : payload.length ≤ 248) (kind tag : Octet) (rest : List Octet) :
    judge (frameBody kind tag payload ++ (octets 2 (crc16 (frameBody kind tag payload)).toNat ++ rest)) =
      .good { kind, tag, payload } (payload.length + 5) := by
  have hl : (BitVec.ofNat 8 (payload.length + 2)).toNat = payload.length + 2 := by
    rw [BitVec.toNat_ofNat]
    omega
  have hb := frameBody_length kind tag payload
  have ht : (frameBody kind tag payload ++ (octets 2 (crc16 (frameBody kind tag payload)).toNat ++ rest)).take
      (payload.length + 2 + 1) = frameBody kind tag payload := List.take_left' (by rw [hb])
  have hd : (frameBody kind tag payload ++ (octets 2 (crc16 (frameBody kind tag payload)).toNat ++ rest)).drop
      (payload.length + 2 + 1) = octets 2 (crc16 (frameBody kind tag payload)).toNat ++ rest :=
    List.drop_left' (by rw [hb])
  have hc : (frameBody kind tag payload ++ (octets 2 (crc16 (frameBody kind tag payload)).toNat ++ rest)).length =
      payload.length + 5 + rest.length := by
    simp only [List.length_append, hb, octets, List.length_cons, List.length_nil]
    omega
  generalize hos : frameBody kind tag payload ++ (octets 2 (crc16 (frameBody kind tag payload)).toNat ++ rest) = os at *
  rw [judge.eq_def]
  split
  · simp [frameBody] at hos
  · next len tl =>
    have hlen : len = BitVec.ofNat 8 (payload.length + 2) := by
      simp only [frameBody, List.cons_append, List.cons.injEq] at hos
      exact hos.1.symm
    dsimp only
    rw [← hlen] at hl
    rw [hl, if_neg (by omega), if_neg (by omega), ht, hd]
    have : (octets 2 (crc16 (frameBody kind tag payload)).toNat ++ rest).take 2 =
        octets 2 (crc16 (frameBody kind tag payload)).toNat := List.take_left' rfl
    rw [this, if_pos rfl]
    rfl

/-! ### The scan -/

/-- In HUNT any octet but the start octet is discarded. -/
theorem scan_hunt {o : Octet} (h : o ≠ startOctet) (os : List Octet) (l : Link) : scan 0 (o :: os) l = scan 0 os l := by
  rw [scan, if_neg h]

/-- A start octet is followed as the octets after it are judged. -/
theorem scan_start (os : List Octet) (l : Link) :
    scan 0 (startOctet :: os) l =
      match judge os with
      | .incomplete => { l with held := startOctet :: os }
      | .badLength => scan 0 os { l with badLength := bump16 l.badLength }
      | .badCrc => scan 0 os { l with badCrc := bump16 l.badCrc }
      | .good f more => scan more os (l.takeGood f) := by
  cases h : judge os <;> simp [scan, h]

/-- The octets of a good frame are passed over once it is taken. -/
theorem scan_skip (os rest : List Octet) (l : Link) : scan os.length (os ++ rest) l = scan 0 rest l := by
  induction os with
  | nil => rfl
  | cons o os ih => simpa [scan] using ih

/-- A good frame among the octets is taken, and the receiver hunts on behind it (R174 to R176). -/
theorem scan_frame {payload : List Octet} (h : payload.length ≤ 248) (kind tag : Octet) (rest : List Octet) (l : Link) :
    scan 0 (frameOctets kind tag payload ++ rest) l = scan 0 rest (l.takeGood { kind, tag, payload }) := by
  rw [frameOctets, List.cons_append, scan_start, List.append_assoc, judge_frame h]
  have hl : (frameBody kind tag payload ++ octets 2 (crc16 (frameBody kind tag payload)).toNat).length =
      payload.length + 5 := by simp [frameBody, octets]
  dsimp only
  rw [← hl, ← List.append_assoc, scan_skip]

end Sys2Proof.Machine
end

