-- ==== Sys2Proof/Tests/Slice0.lean ====
section
/-! SUPPORT. The model's own tests: ill-formed commands are refused, worked values of the spec come out of one command,
and each statement's hypotheses are met by a state written here. -/

namespace Sys2Proof.Tests

open Sys2Proof.Machine

/-! ### Small states -/

/-- The part after its RESTART notice has been sent: its link is at rest. -/
def quiet : State := { State.reset with events := { State.reset.events with due := [] } }

/-- A notice on the line. -/
def notice : OutFrame := { kind := 0xFF, tag := 0, payload := [], resets := false }

/-- The part while it sends a frame. -/
def busy : State := { quiet with link := { quiet.link with tx := some notice } }

/-- The web counter and HW stand at a position. -/
def placed (p : Nat) (s : State) : State :=
  { s with ref := { s.ref with acc := BitVec.ofNat 48 (p * 65536), hw := BitVec.ofNat 32 p } }

/-- The state after one command. -/
def after (i : Instr) (s : State) : State :=
  match exec i s with
  | .next t => t
  | _ => s

/-- The reply a request gets on an idle line. -/
def replyTo (i : Instr) (s : State) : Option (List Octet) := (after i s).link.tx.map OutFrame.payload

/-- A motif of station 1 with two segments on lane 0. -/
def motif1 : Motif :=
  { valid := true, mask := ⟨true, false, false, false⟩, segments := ⟨[⟨2000, 3000⟩], [], [], [], [], []⟩ }

/-- A plan of one slot of motif 1. -/
def plan12 : Plan := { id := 12, sync := .cycle, target := 0, slots := [{ pitch := 9500, motif := 1 }] }

/-- A visit that waits for its mark at 1,000,000. -/
def visit1 : Visit :=
  { state := .waiting, expected := 1000000, swin := 1000, expiry := 1002200, markPos := none, strikePt := none,
    decision := none, error := none, regFlags := RegFlags.empty, feeds := [], outcome := none }

/-- A record of plan 12 with a visit at station 1. -/
def record1 (v : Visit) : LabelRecord :=
  { seq := 0, plan := 12, slot := 0, motif := 1, pitch := 9500, entryPos := 900000, origin := .detected,
    splice := false, excess := false, cycleMark := true, visits := ⟨some v, none, none, none⟩ }

/-- The entry window about an expected position of 1,009,500. -/
def window1 : EntryWindow := { expected := 1009500, first := 1009000, last := 1010000, expiry := 1011200 }

/-- Station 1, enabled, with the kind given and its hold set empty. -/
def station1 (kind : StationKind) : Station :=
  { Station.reset with setup := { StationSetup.reset with kind, enabled := true, strikeOnPredicted := true } }

/-- Lane 0, ACTIVE at station 1. -/
def lane0 : Lane :=
  { Lane.reset with station := some .s1, state := .active, loaded := 10000000,
                    lastFeed := some { seq := 65535, endPos := 1000000, follow := .jump } }

/-- A press that runs plan 12 with one record live, at 1,002,200 ticks. -/
def running : State :=
  placed 1002200 { quiet with
    mode := .run
    queue := [record1 visit1]
    tracker := { state := .locked, cursor := 0, window := some window1, missRun := 0, seqCounter := 1 }
    stations := ⟨{ station1 .emboss with actuator := .engaged, valve := .engage }, Station.reset, Station.reset,
      Station.reset⟩
    job := { quiet.job with
      motifs := quiet.job.motifs.set 1 motif1, active := some plan12, activeLive := 1, state := .armed } }

/-- The same press with station 1 a FOIL station and lane 0 assigned to it. -/
def foiling : State :=
  { running with
    stations := ⟨{ station1 .foil with actuator := .engaged, valve := .engage }, Station.reset, Station.reset,
      Station.reset⟩
    lanes := { running.lanes with l0 := lane0 } }

/-- The running press at the strike point of a decided visit. -/
def striking (d : Decision) : State :=
  placed 1020000 { running with queue := [record1 { visit1 with
    state := .seen, markPos := some 1000000, strikePt := some 1020000, decision := some d }] }

/-- A visit decided STRIKE that has committed a feed of lane 0. -/
def strikeVisit : Visit :=
  { visit1 with
    state := .predicted, strikePt := some 1020000, decision := some .strike
    feeds := [{ lane := .l0, start := 1021900, length := 3200, follow := .run, counted := 3200 }] }

/-- The FOIL press with that visit undelivered and its feed pending, lane 1 EMPTY at the same station. -/
def committed : State :=
  { foiling with
    queue := [record1 strikeVisit]
    lanes := { foiling.lanes with
      l0 := { lane0 with
        pendingFeeds := [{ seq := 0, start := 1021900, length := 3200, follow := .run, counted := 3200 }]
        lastFeed := some { seq := 0, endPos := 1025100, follow := .run } }
      l1 := { Lane.reset with station := some .s1, state := .empty } } }

/-- A queue of one record that carries the last sequence number given is numbered. -/
theorem one_numbered (s : State) (r : LabelRecord) (hq : s.queue = [r]) (h : r.seq = s.tracker.seqCounter - 1) :
    s.Numbered := by
  intro j x hx
  rw [hq] at hx ⊢
  match j with
  | 0 => cases hx; exact h
  | j + 1 => cases hx

theorem running_numbered : running.Numbered := one_numbered _ _ rfl (by decide)

theorem striking_numbered (d : Decision) : (striking d).Numbered :=
  one_numbered _ _ rfl (by decide : (0 : BitVec 16) = 1 - 1)

theorem running_capacities : running.Capacities := ⟨by decide, by decide, by decide, by decide⟩

theorem foiling_capacities : foiling.Capacities := ⟨by decide, by decide, by decide, by decide⟩

/-! ### Ill-formed commands -/

set_option maxRecDepth 4096 in
theorem test_payload_of_248_fits : (Instr.identify 1 (List.replicate 248 0)).wellFormed = true := by decide

set_option maxRecDepth 4096 in
theorem test_payload_of_249_is_refused : (Instr.identify 1 (List.replicate 249 0)).wellFormed = false := by decide

set_option maxRecDepth 4096 in
theorem test_unknown_payload_of_249_is_refused :
    (Instr.unknownKindRequest 0x05 1 (List.replicate 249 0)).wellFormed = false := by decide

theorem test_known_kind_is_no_unknown_kind : (Instr.unknownKindRequest 0x02 1 []).wellFormed = false := by decide

theorem test_no_word_is_a_command : decodeTableWord 8 0x01 = none := by decide

theorem test_fetch_word_places_nothing : State.reset.withFetchWord 8 0x01 = State.reset := by decide

/-! ### Chapter 1 -/

/-- LINE with 1.5 ticks a count, the accumulator after three forward counts (section 1.2). -/
def scaled : State :=
  { quiet with ref := { quiet.ref with acc := 294912, hw := 4, line := { quiet.ref.line with k := 98304 } } }

/-- Section 1.2: the fourth forward count makes exactly 6 ticks. -/
theorem test_fourth_count_makes_six_ticks :
    (after (.sourceCount .line true false) scaled).ref.acc = 393216 ∧
      (after (.sourceCount .line true false) scaled).web = 6 := by decide

/-- Section 1.2: a reverse count takes the accumulator back; HW stays. -/
theorem test_reverse_count_keeps_high_water :
    (after (.sourceCount .line false true) scaled).ref.acc = 196608 ∧
      (after (.sourceCount .line false true) scaled).ref.hw = 4 := by decide

/-- Section 1.5: the web at 998,000 behind an HW of 1,003,000, at the limit. -/
def pulledBack : State :=
  { placed 998000 running with
    ref := { (placed 998000 running).ref with hw := 1003000, line := { quiet.ref.line with state := .moving } } }

/-- Section 1.5: one more reverse count exceeds the limit by one: REVERSE_LIMIT with detail 5,001, and the flush. -/
theorem test_reverse_past_limit :
    let t := after (.sourceCount .line false true) pulledBack
    t.web = 997999 ∧ t.ref.hw = 997999 ∧ t.queue = [] ∧
      t.events.record .reverseLimit = { unit := 0, detail := 5001, web := 997999 } ∧
      t.events.record .queueFlushed = { unit := 0, detail := 1, web := 997999 } ∧
      (t.station .s1).hold.reference = true := by decide

/-- Section 1.7: a tally of 127,800 × 52,429 over 100,000 ticks raises SOURCE_DISAGREE with detail 22. -/
theorem test_slipping_line_shaft :
    ((after (.sourceCount .line true false)
      { placed 99999 quiet with ref := { (placed 99999 quiet).ref with
          spanOrigin := some 0, tally := 6700426200 } }).events.record .sourceDisagree).detail = 22 := by decide

/-- Section 1.7: with a tolerance of 25 the span passes. -/
theorem test_wider_tolerance_passes :
    (after (.sourceCount .line true false)
      { placed 99999 quiet with ref := { (placed 99999 quiet).ref with
          spanOrigin := some 0, tally := 6700426200, tolerance := 25 } }).events.flags = quiet.events.flags := by decide

/-- R13: the speed is the forward ticks of the last 10 ms. -/
theorem test_speed_is_the_ticks_of_the_sample :
    (after .speedSampleTimerExpiry
      { placed 2500 quiet with ref := { (placed 2500 quiet).ref with sampleBase := 500 } }).ref.speed = 2000 := by decide

/-! ### Chapters 2 and 3 -/

/-- Section 2.2: a splice at 200,000, 30,000 ticks upstream, with a guard of 1,000. -/
def spliced : State := placed 200000 { quiet with entry := { quiet.entry with spliceOffset := 30000 } }

theorem test_splice_zone : (after (.spliceEdge true) spliced).zones = [{ first := 229000, last := 231000 }] := by decide

theorem test_splice_zone_leaves_at_its_threshold :
    (after .spliceZoneRemoval (placed 295999 { quiet with zones := [{ first := 229000, last := 231000 }] })).zones =
      [{ first := 229000, last := 231000 }] ∧
    (after .spliceZoneRemoval (placed 296000 { quiet with zones := [{ first := 229000, last := 231000 }] })).zones =
      [] := by decide

/-- Section 2.2: of the four labels the second and the third overlap the zone. -/
theorem test_splice_overlaps :
    ([210900, 220400, 229900, 239400].map fun e =>
      (recordOf { quiet with zones := [{ first := 229000, last := 231000 }] } plan12 0 { pitch := 9500, motif := 1 } e
        .detected false).splice) = [false, true, true, false] := by decide

/-- R21: widths at the edges of the two bands. -/
theorem test_mark_bands :
    ([149, 150, 450, 451, 599, 600, 1200, 1201].map fun w => EntrySettings.reset.classify w) =
      [none, some .normal, some .normal, none, none, some .cycle, some .cycle, none] := by decide

/-- Section 3.4: the drift's five readings. -/
theorem test_drift_learning :
    learnedDrift 0 130 1000 = 33 ∧ learnedDrift 33 130 1000 = 57 ∧ learnedDrift 57 40 1000 = 53 ∧
      learnedDrift 53 55 1000 = 54 ∧ learnedDrift 54 55 1000 = 54 := by decide

/-- R47, R52: the window's expiry predicts the visit of an engaged EMBOSS station and decides STRIKE. -/
theorem test_window_expiry_predicts_and_strikes :
    ((after .stationWindowExpiry running).queue.map fun r => (r.visit .s1).map fun v =>
      (v.state, v.strikePt, v.decision)) = [some (.predicted, some 1020000, some .strike)] := by decide

/-- R58, R43: an engaged actuator strikes, and the record retires. -/
theorem test_strike_point_strikes :
    let s := placed 1020000 { running with queue := [record1 { visit1 with
      state := .seen, markPos := some 1000000, strikePt := some 1020000, decision := some .strike }] }
    ((after .strikePoint s).station .s1).struck = 1 ∧ (after .strikePoint s).queue = [] ∧
      (after .strikePoint s).job.activeLive = 0 := by decide

/-! ### Chapter 4 -/

/-- Section 4.7: station 3 with slots to spare, a waiting mark of slot 2 at 1,000,350, and the trim given. -/
def tuned (trim : Int) (web : Nat) : State :=
  placed web { running with stations := { running.stations with s3 := { station1 .emboss with
    setup := { (station1 .emboss).setup with dieSlots := 3 }
    loop := { RegLoop.reset with
      cursor := 1, trim, waiting := some { pos := 1000350, seq := 0, slot := 2, expiry := 1002150 }
      tuning := { target := 1200, capture := 3000, deadBand := 20, gain := 10, stepMax := 400, trimLimit := 5000,
                  settle := 0, mode := .auto } } } } }

/-- Section 4.7, case 1: a step of 119 into the trim limit. -/
theorem test_step_into_the_trim_limit :
    let t := after (.dieGate .s3 false) (tuned 4900 998960)
    (t.station .s3).loop.trim = 5000 ∧ (t.station .s3).loop.trimSat = true ∧
      (t.station .s3).loop.corrections = 1 ∧ (t.station .s3).loop.last = some 190 ∧
      t.events.record .trimSaturated = { unit := 3, detail := 1, web := 998960 } := by decide

/-- Section 4.7, case 2: a step clamped to 400. -/
theorem test_clamped_step : ((after (.dieGate .s3 false) (tuned 0 1000150)).station .s3).loop.trim = -400 := by decide

/-- Section 4.7: rounding at the half. -/
theorem test_rounding_at_the_half :
    rawStep 2 4 = 1 ∧ rawStep 2 (-4) = -1 ∧ rawStep 2 3 = 0 ∧ rawStep 16 7 = 7 := by decide

/-! ### Chapters 5 and 6 -/

/-- R102: a lift stroke that fails jams the actuator, detail 2. -/
theorem test_failed_lift_jams :
    let s := running.modStation .s1 fun u => { u with actuator := .lifting, valve := .lift, stroke := some 0 }
    ((after (.strokeTimerExpiry .s1) s).station .s1).actuator = .jammed ∧
      ((after (.strokeTimerExpiry .s1) s).events.record .impressionFault).detail = 2 ∧
      ((after (.strokeTimerExpiry .s1) s).station .s1).hold.actuator = true := by decide

/-- R101: an engage request with the ENGAGED confirm inactive starts a stroke. -/
theorem test_engage_request : (station1 .emboss).engage.actuator = .engaging ∧
    (station1 .emboss).engage.stroke = some 200 := by decide

/-- Section 6.3: lane 1 over a set of three labels. -/
def threeLabels : State :=
  { quiet with
    lanes := { quiet.lanes with l1 := { Lane.reset with
      set := { LaneSettings.reset with leadMargin := 150, tailMargin := 150, jumpThreshold := 3000, jumpMs := 18 } } }
    job := { quiet.job with
      motifs := (quiet.job.motifs.set 1 { motif1 with segments := ⟨[], [⟨2000, 3000⟩], [], [], [], []⟩ }).set 3
        { motif1 with segments := ⟨[], [⟨500, 2000⟩], [], [], [], []⟩ }
      active := some { plan12 with slots := [⟨9500, 1⟩, ⟨8000, 2⟩, ⟨4200, 3⟩] } } }

/-- Section 6.3: the planned gaps after slots 0 and 2. -/
theorem test_planned_gaps :
    threeLabels.plannedGap (record1 visit1) .l1 = 12700 ∧
      threeLabels.plannedGap { record1 visit1 with slot := 2, motif := 3 } .l1 = 3400 := by decide

/-- Section 6.3: the follow of slot 2 at three speeds. -/
theorem test_follow_at_three_speeds :
    ([1500, 2500, 3333].map fun v => followFor (threeLabels.lane .l1).set v 3400) = [.jump, .run, .run] := by decide

/-- Section 6.5: the overlap of a span with a last feed that ran on. -/
theorem test_overlap_after_a_run :
    Lane.overlap { Lane.reset with lastFeed := some { seq := 0, endPos := 804400, follow := .run } } 804100 = 300 := by
  decide

/-- R126: the feed committed by a STRIKE decision at a FOIL station runs from the span's start. -/
theorem test_strike_commits_the_feed :
    ((after .stationWindowExpiry foiling).lane .l0).pendingFeeds.map PendingFeed.start = [1021900] ∧
      ((after .stationWindowExpiry foiling).lane .l0).pendingFeeds.map PendingFeed.length = [3200] := by decide

/-- R133: a drive fault sends a full STOP and holds the station. -/
theorem test_drive_fault :
    ((after (.driveFaultInput .l0 true) foiling).lane .l0).state = .fault ∧
      ((after (.driveFaultInput .l0 true) foiling).station .s1).hold.foilDrive = true := by decide

/-! ### Chapter 7 -/

/-- Section 7.1: zone 1 of the worked example in the state given. -/
def zone1 (state : ZoneState) (heater : Bool) : State :=
  { quiet with stations := { quiet.stations with s1 := { station1 .emboss with
    hold := { HoldSet.empty with idle := true, thermal := state != .ready }
    zone := { HeatZone.reset with
      enabled := true, state, heater
      set := { sp := 1450, standbySp := 600, band := 50, hysteresis := 30, margin := 150, soak := 20 } } } } }

/-- Section 7.1: zone 1 after a sample, as its state and heater. -/
def sampled (state : ZoneState) (heater : Bool) (x : BitVec 16) : ZoneState × Bool :=
  let z := ((after (.temperatureSample .s1 x) (zone1 state heater)).station .s1).zone
  (z.state, z.heater)

theorem test_zone_heats_and_soaks :
    sampled .heating false 250 = (.heating, true) ∧ sampled .heating true 1390 = (.heating, true) ∧
      sampled .heating true 1405 = (.soaking, true) ∧ sampled .soaking true 1452 = (.soaking, false) := by decide

theorem test_zone_drifts_and_faults :
    sampled .ready true 1395 = (.drift, true) ∧ sampled .drift true 1404 = (.ready, true) ∧
      sampled .ready true 1600 = (.drift, false) ∧ sampled .ready true 1601 = (.fault, false) := by decide

/-- Section 7.3: entering STANDBY sets the wake threshold. -/
theorem test_standby_sets_the_wake_threshold :
    (after (.setMode 1 [0x02]) (placed 500000 quiet)).wake = some 510000 := by decide

/-! ### Chapters 8 to 10 -/

/-- R159: a plan of one slot of a valid motif is LOADED. -/
theorem test_load_plan :
    (after (.loadPlan 1 ([12, 0] ++ octets 4 0 ++ [1] ++ octets 2 9500 ++ [1])) running).job.buffer = .loaded plan12 ∧
      (after (.loadPlan 1 ([12, 0] ++ octets 4 0 ++ [1] ++ octets 2 9500 ++ [2])) running).job.buffer = .empty := by
  decide

/-- R161: with the buffer EMPTY, COMMIT PLAN answers NOT_READY with check 1. -/
theorem test_commit_of_nothing : replyTo (.commitPlan 1 []) quiet = some [0x07, 0x01, 0xFF] := by decide

set_option maxRecDepth 4096 in
/-- R173: the CRC over the characters "1" to "9". -/
theorem test_crc : crc16 [0x31, 0x32, 0x33, 0x34, 0x35, 0x36, 0x37, 0x38, 0x39] = 0x29B1 := by decide

/-- R188: IDENTIFY's reply. -/
theorem test_identify :
    replyTo (.identify 7 []) quiet = some [0, 0x10, 0x04, 0x01, 0, 0, 1, 0x10, 4, 6, 0x40] := by decide

/-- R190: kind 0x05 names no request. -/
theorem test_unknown_kind : replyTo (.unknownKindRequest 0x05 9 []) quiet = some [0x03] := by decide

/-- R189, R179: RESTART is the first frame after reset. -/
theorem test_restart_is_first :
    State.reset.events.due = [.restart] ∧ (after .frameSent State.reset).events.due = [] := by decide

/-- Section 10.5: the record part and the two visit summaries of one record as read. -/
def asRead : LabelRecord :=
  { seq := 41, plan := 12, slot := 1, motif := 2, pitch := 8000, entryPos := 113760, origin := .detected,
    splice := false, excess := false, cycleMark := false
    visits := ⟨some { visit1 with
        state := .final, expected := 153800, strikePt := some 165810, decision := some .strike, error := some (-35)
        feeds := [{ lane := .l0, start := 0, length := 1, follow := .run, counted := 1 }], outcome := some .struck },
      some visit1, none, none⟩ }

theorem test_record_as_read :
    (recordOctets asRead).take 15 =
      [0x29, 0, 0x0C, 1, 2, 0x40, 0x1F, 0x60, 0xBC, 0x01, 0, 0, 0, 0x97, 0x50] := by decide

theorem test_waiting_visit_as_read : (visitOctets (some visit1)).take 1 = [0x80] := by decide

/-! ### Witnesses: a state and operands that meet a statement's hypotheses, clause by clause, at their boundaries -/

/-- A frame of IDENTIFY. -/
def idFrame : Frame := { kind := 0x01, tag := 7, payload := [] }

/-- Station 1 of `quiet` with a change. -/
def quietWith (f : Station → Station) : State := quiet.modStation .s1 f

/-- A job in a state, under plan 12. -/
def inJob (state : JobState) : State :=
  { quiet with job := { quiet.job with state, active := some plan12, activeLive := 1, target := 5 } }

theorem witness_StepTakesFrontCommand :
    ({ quiet with pending := [.frameSent, .wakeThreshold] } : State).pending = .frameSent :: [.wakeThreshold] := by decide

/-- The part in the last millisecond of every kind of timer. -/
def lastMillisecond : State :=
  { quiet with
    ref := { quiet.ref with sampleTimer := 1, line := { quiet.ref.line with state := .moving, motion := some 1 } }
    stations := { quiet.stations with s1 := { Station.reset with
      actuator := .engaging, stroke := some 1, zone := { HeatZone.reset with state := .soaking, soakTimer := some 1 } } }
    link := { quiet.link with held := [0x7E], gap := some 1 } }

theorem witness_EmptyQueueStepIsOneMillisecond :
    quiet.pending = [] ∧ quiet.ref.sampleTimer = 10 ∧ quiet.link.gap = none ∧ quiet.ref.line.motion = none ∧
      lastMillisecond.pending = [] ∧
      ∃ t, step lastMillisecond = .next t ∧ t.ref.line.state = .still ∧ t.ref.sampleTimer = 10 ∧ t.link.held = [] ∧
        (t.station .s1).actuator = .jammed ∧ (t.station .s1).zone.state = .ready :=
  ⟨by decide, by decide, by decide, by decide, by decide, _, rfl, by decide⟩

theorem witness_UnknownKindAnswered :
    quiet.atRest = true ∧ ReqKind.ofOctet 0x00 = none ∧ ReqKind.ofOctet 0x05 = none ∧ ReqKind.ofOctet 0x1C = none ∧
      ReqKind.ofOctet 0x37 = none ∧ ReqKind.ofOctet 0x3B = none ∧ ReqKind.ofOctet 0xFF = none := by decide

theorem witness_BadLengthAnswered :
    quiet.atRest = true ∧ Instr.frame? (.identify 7 [0]) = some { idFrame with payload := [0] } ∧
      ReqKind.ofOctet 0x01 = some .identify ∧ ReqKind.fixedLength .identify ≠ some 1 ∧
      ReqKind.fixedLength .setupEntry ≠ some 20 ∧ ([0, 0, 0, 0, 0, 0] : List Octet).length < 7 ∧
      ([0, 0, 0, 0, 0, 0, 1] : List Octet).length ≠ 7 + 3 * u8 [0, 0, 0, 0, 0, 0, 1] 6 ∧
      readGroups 6 [0, 0, 0, 0, 0] = none ∧ readGroups 6 [0, 0, 0, 0, 0, 0, 0] = none := by decide

theorem witness_RefusedRequestsChangeNothing :
    quiet.atRest = true ∧ Instr.frame? (.setMode 7 [3]) = some { kind := 0x03, tag := 7, payload := [3] } ∧
      replyTo (.setMode 7 [3]) quiet = some [0x04] := by decide

theorem witness_ReceivedOctetsAreTheRequest :
    quiet.atRest = true ∧ quiet.link.held = [] ∧ quiet.link.gap = none ∧
      (Instr.identify 7 []).wellFormed = true ∧ Instr.frame? (.identify 7 []) = some idFrame := by decide

/-- The link at rest with a candidate frame held. -/
def holding (os : List Octet) : State := { quiet with link := { quiet.link with held := os, gap := some 2 } }

set_option maxRecDepth 4096 in
theorem witness_ReceiverTakesOctets :
    (holding [0x7E]).atRest = true ∧ quiet.link.held = [] ∧ (holding [0x7E]).link.held = [0x7E] ∧
      2 ≤ (2 : Octet).toNat ∧ (250 : Octet).toNat ≤ 250 ∧ (1 : Octet).toNat < 2 ∧ 250 < (251 : Octet).toNat ∧
      (holding [0x7E, 2, 1, 7]).link.held = 0x7E :: 2 :: [1, 7] ∧
      ([1, 7] : List Octet).length + 1 < (2 : Octet).toNat + 2 ∧
      -- a wrong CRC, with no start octet among the octets, and with one whose frame they leave incomplete
      (holding [0x7E, 2, 1, 7, 0]).link.held = 0x7E :: 2 :: [1, 7, 0] ∧
      ([1, 7, 0] : List Octet).length + 1 = (2 : Octet).toNat + 2 ∧
      ([1, 7, 0] ++ [0] : List Octet).drop 2 ≠ octets 2 (crc16 (2 :: ([1, 7, 0] : List Octet).take 2)).toNat ∧
      0x7E ∉ (2 :: ([1, 7, 0] ++ [0]) : List Octet) ∧
      ([1, 0x7E, 5] ++ [1] : List Octet).drop 2 ≠ octets 2 (crc16 (2 :: ([1, 0x7E, 5] : List Octet).take 2)).toNat ∧
      (2 :: ([1, 0x7E, 5] ++ [1]) : List Octet) = [2, 1] ++ 0x7E :: [5, 1] ∧ 0x7E ∉ ([2, 1] : List Octet) ∧
      2 ≤ (5 : Octet).toNat ∧ ([1] : List Octet).length < (5 : Octet).toNat + 2 := by decide

/-- The octets after a false start of length 7 that end in a frame of IDENTIFY. -/
def falseStart : List Octet := 7 :: ([0, 0, 0] ++ frameOctets 1 7 [])

set_option maxRecDepth 8192 in
theorem witness_ReceiverTakesOctets_again :
    falseStart.length = 1 + 9 ∧ (falseStart.drop 8) ≠ octets 2 (crc16 (falseStart.take 8)).toNat ∧
      (Instr.identify 7 []).wellFormed = true ∧ Instr.frame? (.identify 7 []) = some idFrame ∧
      falseStart = [7, 0, 0, 0] ++ frameOctets 1 7 [] ++ [] ∧ 0x7E ∉ ([7, 0, 0, 0] : List Octet) ∧
      (holding (0x7E :: falseStart.take 9)).atRest = true ∧
      replyTo (.octetReceived (falseStart.getLast?.getD 0)) (holding (0x7E :: falseStart.take 9)) =
        some [0, 0x10, 0x04, 0x01, 0, 0, 1, 0x10, 4, 6, 0x40] := by decide

theorem witness_CandidateAbandoned : quiet.link.held = [] ∧ (holding [0x7E]).link.held ≠ [] := by decide

/-- The link with a frame being sent, a reply that waits, and frames in the receive queue. -/
def congested (frames : List Frame) : State :=
  { quiet with link := { quiet.link with
    tx := some notice, slot := some { notice with kind := 0x81 }, rxQueue := frames } }

theorem witness_WaitingFrameIsQueuedOrLost :
    Instr.frame? (.identify 7 []) = some idFrame ∧ (congested []).link.slot.isSome = true ∧
      (congested []).link.tx.isSome = true ∧ (congested [idFrame]).link.rxQueue.length < 2 ∧
      2 ≤ (congested [idFrame, idFrame]).link.rxQueue.length := by decide

theorem witness_FrameSentChoosesTheNextFrame :
    (congested []).link.tx = some notice ∧ notice.resets = false ∧
      ((congested [idFrame]).link.slot = some { notice with kind := 0x81 } ∧
        (congested [idFrame]).link.rxQueue = [idFrame] ∧ (congested [idFrame]).link.resetPending = false) ∧
      (congested []).link.rxQueue = [] ∧ busy.link.slot = none ∧ busy.events.due = [] ∧
      ({ busy with events := { busy.events with due := [.woke] } } : State).events.due = .woke :: [] := by decide

theorem witness_RaiseWritesRecordFlagAndNotice :
    busy.link.tx.isSome = true ∧ EventKind.restart.isIn busy.events.flags = true ∧
      EventKind.woke.isIn busy.events.flags = false ∧ EventKind.woke.isIn busy.events.mask = true ∧
      EventKind.woke.isIn (0x7FFFFF#24) = false := by decide

theorem witness_MaskAndClearEvents : quiet.atRest = true ∧ u32 [0xFF, 0xFF, 0xFF, 0x00] 0 = 16777215 := by decide

/-- A trace entry. -/
def entry1 : TraceEntry := traceEntry (record1 visit1) .s1 visit1 .struck 0 0

/-- The part with a trace queue of a depth. -/
def traced (n : Nat) : State := { quiet with trace := { quiet.trace with entries := List.replicate n entry1 } }

theorem witness_TraceEntryIsQueuedOrDropped :
    (traced 63).trace.entries.length < 64 ∧ 64 ≤ (traced 64).trace.entries.length := by decide

theorem witness_IdentifyAndReadStatus : running.atRest = true := by decide

theorem witness_ReadEventsReply : running.atRest = true := by decide

theorem witness_ReadQueueReply :
    running.atRest = true ∧ (0 : Octet).toNat < 1 ∧ 8 < (9 : Octet).toNat ∧ 1 ≤ (1 : Octet).toNat ∧
      (8 : Octet).toNat ≤ 8 ∧ running.queue[0 + 0]? = some (record1 visit1) ∧
      (record1 visit1).visit .s2 = none ∧ (record1 visit1).visit .s1 = some visit1 ∧ visit1.outcome ≠ some .void ∧
      (asRead.visit .s1).isSome = true := by decide

theorem witness_ReadTraceTakesEntries :
    (traced 48).atRest = true ∧ (traced 48).trace.entries[7]? = some entry1 ∧ 7 < (8 : Octet).toNat := by decide

theorem witness_ReadLaneReply :
    quiet.atRest = true ∧ LaneId.ofNumber 6 = none ∧ LaneId.ofNumber 0 = some .l0 ∧ LaneId.ofNumber 5 = some .l5 := by
  decide

theorem witness_ReadStationReply :
    quiet.atRest = true ∧ StationId.ofNumber 0 = none ∧ StationId.ofNumber 5 = none ∧
      StationId.ofNumber 1 = some .s1 ∧ StationId.ofNumber 4 = some .s4 ∧
      (quiet.station .s1).setup.enabled = false ∧ (running.station .s1).setup.enabled = true ∧
      running.job.state ≠ .none ∧ (running.station .s1).hold = HoldSet.empty ∧
      ({ running with job := quiet.job } : State).job.state = .none := by decide

theorem witness_ReadAndClearMotif :
    running.atRest = true ∧ 15 < (16 : Octet).toNat ∧ (15 : Octet).toNat ≤ 15 ∧ motifLocked running 1 = true ∧
      motifLocked running 15 = false := by decide

/-- Each of the four holders alone locks a motif, a LOADED and a READY plan among them (R157). -/
theorem witness_ReadAndClearMotif_holders :
    let only (f : JobStore → JobStore) : State := { quiet with job := f quiet.job }
    motifLocked quiet 1 = false ∧ motifLocked (only fun j => { j with active := some plan12 }) 1 = true ∧
      motifLocked (only fun j => { j with buffer := .loaded plan12 }) 1 = true ∧
      motifLocked (only fun j => { j with buffer := .ready plan12 }) 1 = true ∧
      motifLocked (only fun j => { j with draining := some plan12 }) 1 = true ∧
      motifLocked { quiet with queue := [record1 visit1] } 1 = true := by decide

/-- Six segment groups: the first of two segments that touch, at the ends of their ranges. -/
def groups : List Octet := [2] ++ octets 2 0 ++ octets 2 65000 ++ octets 2 65000 ++ octets 2 50 ++ [0, 0, 0, 0, 0]

theorem witness_DefineMotifReplacesTheEntry :
    let group (gs : List Segment) : List Octet :=
      octets 1 gs.length ++ gs.flatMap fun g => octets 2 g.offset ++ octets 2 g.length
    running.atRest = true ∧ groups.length ≤ 246 ∧
      groups = group [⟨0, 65000⟩, ⟨65000, 50⟩] ++ group [] ++ group [] ++ group [] ++ group [] ++ group [] ∧
      group [⟨258, 772⟩] = [1, 2, 1, 4, 3] ∧
      readGroups 6 groups = some [[⟨0, 65000⟩, ⟨65000, 50⟩], [], [], [], [], []] ∧
      readGroups 6 ([1] ++ octets 2 0 ++ octets 2 49 ++ [0, 0, 0, 0, 0]) = some [[⟨0, 49⟩], [], [], [], [], []] ∧
      validSegments [⟨0, 65000⟩, ⟨65000, 50⟩] = true ∧ validSegments [⟨0, 49⟩] = false ∧
      15 < (16 : Octet).toNat ∧ (15 : Octet).toNat ≤ 15 ∧ motifLocked running 1 = true ∧
      motifLocked running 15 = false := by
  decide

/-- LOAD PLAN's payload for a plan with an id and one slot. -/
def planPayload (id : Nat) (pitch : Nat) : List Octet := octets 1 id ++ [1] ++ octets 4 1000000 ++ [1] ++ octets 2 pitch ++ [1]

theorem witness_LoadAndDropPlan :
    running.atRest = true ∧ (planPayload 255 65000).length = 7 + 3 * u8 (planPayload 255 65000) 6 ∧
      running.planReady = false ∧ u8 (planPayload 255 65000) 0 = 255 ∧ u16 (planPayload 255 65000) 7 = 65000 ∧
      (running.motif (u8 (planPayload 255 65000) 9)).valid = true ∧ u16 (planPayload 255 1999) 7 < 2000 ∧
      u8 (planPayload 0 2000) 0 < 1 ∧
      ({ running with job := { running.job with buffer := .ready plan12 } } : State).planReady = true := by decide

/-- A press with its buffer LOADED and no station enabled but the first, with the die slots given. -/
def committing (p : Plan) (dieSlots : Nat) : State :=
  { foiling with
    stations := foiling.stations.map fun u => { u with setup := { u.setup with dieSlots } }
    job := { foiling.job with buffer := .loaded p } }

theorem witness_CommitPlanRefused :
    let two : Plan := { plan12 with sync := .any, slots := [⟨9500, 1⟩, ⟨9500, 1⟩] }
    running.atRest = true ∧ running.job.buffer = .empty ∧
      ({ running with job := { running.job with buffer := .ready plan12 } } : State).job.buffer = .ready plan12 ∧
      (committing plan12 1).job.buffer = .loaded plan12 ∧
      ({ committing plan12 1 with job := { (committing plan12 1).job with draining := some plan12 } } :
        State).job.draining ≠ none ∧
      (committing two 2).job.draining = none ∧ quiet.motif 1 = Motif.empty ∧ Motif.empty.valid = false ∧
      (∀ t ∈ two.slots, ((committing two 2).motif t.motif).valid ≠ false) ∧ ¬ (two.sync = .any → two.slots.length = 1) ∧
      (plan12.sync = .any → plan12.slots.length = 1) ∧ (committing plan12 2).enabled .s1 = true ∧
      ((committing plan12 2).station .s1).setup.dieSlots ≠ plan12.slots.length ∧
      ¬ ((committing plan12 1).job.state = .none ∨ placeId (committing plan12 1).job.active ≠ plan12.id) := by
  decide

/-- A plan of one slot of the pitch given, under another id than the active plan's. -/
def plan13 (pitch : Nat) : Plan := { id := 13, sync := .cycle, target := 0, slots := [{ pitch, motif := 1 }] }

/-- The FOIL press with that plan LOADED, and the values that the checks 8 to 11 look at. -/
def fitted (pitch ewin swin path : Nat) (station : Option StationId) : State :=
  { foiling with
    entry := { foiling.entry with ewin }
    stations := ⟨{ station1 .foil with setup := { (station1 .foil).setup with swin, path, lead := 500000 } },
      Station.reset, Station.reset, Station.reset⟩
    lanes := { foiling.lanes with l0 := { lane0 with station } }
    job := { foiling.job with buffer := .loaded (plan13 pitch) } }

/-- The checks 3 to 7 pass, whatever those values are. -/
theorem fitted_passes (pitch ewin swin path : Nat) (station : Option StationId) :
    let s := fitted pitch ewin swin path station
    s.atRest = true ∧ s.job.buffer = .loaded (plan13 pitch) ∧ s.job.draining = none ∧
      (∀ t ∈ (plan13 pitch).slots, (s.motif t.motif).valid ≠ false) ∧
      ((plan13 pitch).sync = .any → (plan13 pitch).slots.length = 1) ∧
      (∀ st, ¬ (s.enabled st = true ∧ (s.station st).setup.dieSlots ≠ (plan13 pitch).slots.length)) ∧
      placeId s.job.active ≠ (plan13 pitch).id :=
  ⟨rfl, rfl, rfl, fun t h => by rw [List.mem_singleton.mp h]; exact (by decide : (true : Bool) ≠ false), fun _ => rfl,
    fun st h => by cases st <;> exact h.2 rfl, (by decide : 12 ≠ 13)⟩

/-- Check 8 fails by the entry window and by a station window, at the least pitch: half of it is the first too wide. -/
theorem witness_CommitPlanRefused_windows :
    (∃ t ∈ (plan13 9500).slots, t.pitch = 9500) ∧ (∀ t ∈ (plan13 9500).slots, 9500 ≤ t.pitch) ∧
      9500 ≤ 2 * (fitted 9500 4750 1000 100000 (some .s1)).entry.ewin ∧
      2 * (fitted 9500 4749 4750 100000 (some .s1)).entry.ewin < 9500 ∧
      (fitted 9500 4749 4750 100000 (some .s1)).enabled .s1 = true ∧
      9500 ≤ 2 * ((fitted 9500 4749 4750 100000 (some .s1)).station .s1).setup.swin := by decide

/-- Checks 9, 10 and 11 fail after all before them passed: a segment one past the pitch, a lane of no station, and a
path one step too long; the plan that passes all is one step shorter. -/
theorem witness_CommitPlanRefused_lanes :
    let s9 := fitted 4999 500 1000 100000 (some .s1)
    let s10 := fitted 9500 500 1000 100000 none
    let s11 := fitted 9500 500 1000 1921500 (some .s1)
    let wide (s : State) (st : StationId) : Prop := s.enabled st = true ∧ 9500 ≤ 2 * (s.station st).setup.swin
    let pastPitch (s : State) (pitch : Nat) : Prop :=
      ∃ l, ∃ g ∈ (s.motif 1).segments.get l, pitch < g.offset + g.length
    let stray (s : State) (l : LaneId) : Prop := (s.motif 1).segments.get l ≠ [] ∧
      ∀ st, (s.lane l).station = some st → (s.motif 1).mask.get st = false
    let steps (s : State) : Nat :=
      ((s.station .s1).setup.path + (s.station .s1).setup.lead + (s.station .s1).setup.swin) / 9500 + 2
    (2 * s9.entry.ewin < 4999 ∧ 2 * (s9.station .s1).setup.swin < 4999 ∧ pastPitch s9 4999) ∧
      (2 * s10.entry.ewin < 9500 ∧ (∀ st, ¬ wide s10 st) ∧ ¬ pastPitch s10 9500 ∧ stray s10 .l0) ∧
      ((∀ st, ¬ wide s11 st) ∧ ¬ pastPitch s11 9500 ∧ (∀ l, ¬ stray s11 l) ∧ s11.enabled .s1 = true ∧ 256 < steps s11) ∧
      steps (fitted 9500 500 1000 1921499 (some .s1)) = 256 := by
  refine ⟨⟨by decide, by decide, .l0, by decide⟩, ⟨by decide, ?_, ?_, ?_⟩, ⟨?_, ?_, ?_, by decide, by decide⟩, by decide⟩
  · rintro st ⟨-, h⟩; cases st <;> revert h <;> decide
  · rintro ⟨l, h⟩; cases l <;> revert h <;> decide
  · exact ⟨by decide, fun st h => by cases h⟩
  · rintro st ⟨-, h⟩; cases st <;> revert h <;> decide
  · rintro ⟨l, h⟩; cases l <;> revert h <;> decide
  · rintro l ⟨h, g⟩
    cases l
    · exact absurd (g .s1 rfl) (by decide)
    all_goals exact h rfl

theorem witness_CommitPlanAccepted :
    let p : Plan := { plan12 with id := 13 }
    (committing p 1).atRest = true ∧ (committing p 1).job.buffer = .loaded p ∧ (committing p 1).planChecks p = none ∧
      (committing p 1).job.state = .armed ∧
      ({ committing p 1 with job := { (committing p 1).job with active := none, state := .none } } : State).planChecks p =
        none := by decide

theorem witness_EndJobByState :
    (inJob .none).atRest = true ∧ (inJob .none).job.state = .none ∧ (inJob .draining).job.state = .draining ∧
      (inJob .armed).job.state = .armed ∧ 0 < (inJob .armed).job.activeLive ∧
      ({ (inJob .armed).job with activeLive := 0 } : JobStore).activeLive = 0 ∧ (inJob .ended).job.state = .ended := by
  decide

theorem witness_ExtendBatchRaisesTheTarget :
    (inJob .ended).atRest = true ∧ u32 [0, 0, 0, 0] 0 < 1 ∧ 1000000 < u32 [0x41, 0x42, 0x0F, 0] 0 ∧
      u32 [0x40, 0x42, 0x0F, 0] 0 = 1000000 ∧ (inJob .ended).job.target ≠ 0 ∧
      (inJob .ended).job.endReason ≠ some .batch ∧ quiet.job.state = .none ∧
      ({ (inJob .ended).job with endReason := some .batch } : JobStore).endReason = some .batch ∧
      ({ (inJob .armed).job with target := 0 } : JobStore).target = 0 := by decide

theorem witness_SetupEntryTakesTheValues :
    let p := octets 2 10 ++ octets 2 19999 ++ octets 2 20000 ++ octets 2 20000 ++ octets 2 49 ++ octets 1 31 ++
      octets 4 200000 ++ octets 2 20001 ++ octets 4 999
    quiet.atRest = true ∧ p.length = 21 ∧ (entryFields p).valid = true ∧ quiet.job.state = .none ∧
      (inJob .armed).job.state ≠ .none ∧ (entryFields (octets 2 9 ++ p.drop 2)).valid = false ∧
      (entryFields (octets 2 10 ++ octets 2 20000 ++ p.drop 4)).valid = false := by decide

theorem witness_SetAndNudgeTrim :
    quiet.atRest = true ∧ StationId.ofNumber 5 = none ∧ StationId.ofNumber 4 = some .s4 ∧
      (quiet.station .s4).loop.tuning.mode = .auto ∧ i32 (0x04 :: octets 4 10000) 1 = 10000 ∧
      ({ (quiet.station .s4).loop.tuning with mode := .measure } : Tuning).mode = .measure := by decide

theorem witness_TuneRegisterTakesTheValues :
    let p : List Octet := [4] ++ octets 4 100001 ++ octets 2 99 ++ octets 2 501 ++ [0] ++ octets 2 0 ++ octets 4 200001 ++
      [8, 1]
    quiet.atRest = true ∧ p.length = 18 ∧ StationId.ofNumber (u8 p 0) = some .s4 ∧ u8 p 17 ≤ 1 ∧
      1 < u8 (p.take 17 ++ [2]) 17 ∧ StationId.ofNumber 0 = none := by decide

/-- SETUP STATION's payload for station 1. -/
def setupPayload (kind enabled : Octet) (path : Nat) : List Octet :=
  [1, kind, enabled] ++ octets 4 path ++ octets 4 500000 ++ octets 2 30000 ++ [31, 1, 8] ++ octets 2 4 ++
    octets 2 2001 ++ [2]

/-- Outside a job, station 1 disabled with its actuator JAMMED, its lanes in FAULT, EMPTY and ACTIVE. -/
def faulty : State :=
  { foiling with
    queue := []
    job := quiet.job
    stations := ⟨{ Station.reset with
      setup := { StationSetup.reset with kind := .foil }, actuator := .jammed }, Station.reset, Station.reset, Station.reset⟩
    lanes := { foiling.lanes with
      l1 := { Lane.reset with station := some .s1, state := .fault }
      l2 := { Lane.reset with station := some .s1, state := .empty } } }

theorem quiet_agrees : ∀ l, (quiet.lane l).Agrees := fun l => by cases l <;> exact ⟨by decide, by decide⟩

theorem faulty_agrees : ∀ l, (faulty.lane l).Agrees := fun l => by cases l <;> exact ⟨by decide, by decide⟩

theorem witness_SetupStationAppliesTheSetup :
    (∀ l, (quiet.lane l).Agrees) ∧ (∀ l, (faulty.lane l).Agrees) ∧
    quiet.atRest = true ∧ (setupPayload 1 1 10000).length = 21 ∧ quiet.job.state = .none ∧
      u32 (setupPayload 1 1 10000) 3 = 10000 ∧ u32 (setupPayload 1 1 2000000) 3 = 2000000 ∧
      u32 (setupPayload 1 1 9999) 3 < 10000 ∧ 1 < u8 (setupPayload 2 1 10000) 1 ∧ (inJob .armed).job.state ≠ .none ∧
      u8 (setupPayload 0 1 10000) 1 = 0 ∧ ({ foiling with job := quiet.job } : State).lanesOf .s1 ≠ [] ∧
      quiet.lanesOf .s1 = [] ∧ (quiet.station .s1).setup.enabled = false ∧ (running.station .s1).setup.enabled = true ∧
      faulty.atRest = true ∧ faulty.job.state = .none ∧ faulty.queue = [] ∧ faulty.enabled .s1 = false ∧
      (faulty.station .s1).actuator = .jammed ∧ (faulty.station .s1).hold = HoldSet.empty ∧
      (faulty.lanesOf .s1).map (fun l => (faulty.lane l).state) = [.active, .fault, .empty] :=
  ⟨quiet_agrees, faulty_agrees, by decide⟩

/-- R97: enabling that station adds ACTUATOR, FOIL_DRIVE and FOIL_OUT, and its ACTIVE lane is PARKED. -/
theorem test_enabling_adds_the_causes_that_hold :
    let t := after (.setupStation 1 (setupPayload 1 1 10000)) faulty
    (t.station .s1).hold = { HoldSet.empty with actuator := true, foilDrive := true, foilOut := true } ∧
      (t.lane .l0).state = .parked ∧ (t.lane .l1).state = .fault ∧ (t.lane .l2).state = .empty := by decide

theorem witness_SetupHeatEnablesTheZone :
    let p (enabled : Octet) : List Octet := [1, enabled] ++ octets 2 2501 ++ octets 2 2501 ++ octets 2 4 ++ octets 2 101 ++
      octets 2 19 ++ octets 2 601
    quiet.atRest = true ∧ (p 1).length = 14 ∧ StationId.ofNumber (u8 (p 1) 0) = some .s1 ∧ 1 < u8 (p 2) 1 ∧
      (quiet.station .s1).zone.enabled = false ∧ (quiet.station .s1).zone.faultIn = false ∧
      ((zone1 .ready false).station .s1).zone.enabled = true ∧
      ((quietWith fun u => { u with zone := { u.zone with faultIn := true } }).station .s1).zone.faultIn = true := by decide

/-- SETUP LANE's payload for lane 0. -/
def lanePayload (station park : Octet) : List Octet :=
  [0, station] ++ octets 2 5001 ++ octets 2 5000 ++ octets 4 100001 ++ octets 2 0 ++ [park] ++ octets 2 1001 ++
    octets 4 400000001

/-- Outside a job, station 1 a FOIL station and lane 0 as given. -/
def fitting (l : Lane) : State := { foiling with job := quiet.job, queue := [], lanes := { quiet.lanes with l0 := l } }

theorem witness_SetupLaneAssignsTheLane :
    (fitting Lane.reset).atRest = true ∧ (lanePayload 1 8).length = 19 ∧ LaneId.ofNumber 6 = none ∧
      LaneId.ofNumber (u8 (lanePayload 1 8) 0) = some .l0 ∧ (fitting Lane.reset).job.state = .none ∧
      foiling.job.state ≠ .none ∧ StationId.ofNumber (u8 (lanePayload 1 8) 1) = some .s1 ∧
      ((fitting Lane.reset).station .s1).setup.kind = .foil ∧
      (((fitting Lane.reset).lanesOf .s1).filter fun k => k != .l0).length ≤ 2 ∧ u8 (lanePayload 1 5) 12 = 5 ∧
      4 < u8 (lanePayload 5 8) 1 ∧ ((fitting lane0).lane .l0).station = some .s1 ∧
      StationId.ofNumber (u8 (lanePayload 0 8) 1) = none ∧ ((fitting Lane.reset).lane .l0).faultIn = false ∧
      ((fitting { Lane.reset with faultIn := true }).lane .l0).faultIn = true := by decide

theorem witness_LoadSpoolStartsTheAccount :
    quiet.atRest = true ∧ 400000000 < u32 (0 :: octets 4 400000001) 1 ∧ u32 (0 :: octets 4 400000000) 1 = 400000000 ∧
      LaneId.ofNumber 6 = none ∧ (quiet.lane .l0).state = .unassigned ∧ (foiling.lane .l0).station = some .s1 ∧
      (foiling.lane .l0).state ≠ .unassigned ∧ (foiling.lane .l0).state ≠ .fault ∧
      u32 (0 :: octets 4 0) 1 = 0 ∧ (committed.lane .l1).state = .empty ∧ (committed.lane .l1).station = some .s1 := by
  decide

/-- R118, R131, R132: LOAD SPOOL with 0 sends PARK from PARKED and, once, from ACTIVE; not from EMPTY. -/
theorem test_load_spool_of_nothing_parks :
    let drive (state : LaneState) : List DriveCommand :=
      ((after (.loadSpool 1 [0, 0, 0, 0, 0]) (fitting { Lane.reset with
        station := some .s1, state
        lastFeed := if state = .active then some { seq := 0, endPos := 5000, follow := .jump } else none })).lane .l0).drive
    let park (start : Pos) : DriveCommand := { kind := .park, start, length := 0, follow := .jump }
    drive .parked = Lane.reset.drive ++ [park (fitting lane0).web] ∧ drive .active = Lane.reset.drive ++ [park 5000] ∧
      drive .empty = Lane.reset.drive := by decide

/-- R117, R118, R131: SETUP LANE sends PARK to a lane that enters EMPTY, from UNASSIGNED and, moved, from EMPTY; not to
one that enters PARKED. -/
theorem test_setup_lane_into_empty_parks :
    let t (l : Lane) : Lane := (after (.setupLane 1 (lanePayload 1 8)) (fitting l)).lane .l0
    let park : DriveCommand := { kind := .park, start := (fitting lane0).web, length := 0, follow := .jump }
    (t Lane.reset).drive = Lane.reset.drive ++ [park] ∧ (t Lane.reset).state = .empty ∧
      (t { Lane.reset with station := some .s2, state := .empty, loaded := 5 }).drive = Lane.reset.drive ++ [park] ∧
      (t { Lane.reset with loaded := 5 }).drive = Lane.reset.drive ∧ (t { Lane.reset with loaded := 5 }).state = .parked :=
  by decide

theorem witness_PauseAndResume :
    quiet.atRest = true ∧ 4 < (5 : Octet).toNat ∧ (4 : Octet).toNat ≤ 4 ∧ (∀ st, quiet.enabled st = false) ∧
      running.atRest = true ∧ (1 : Octet).toNat = StationId.s1.number ∧ running.enabled .s1 = true :=
  ⟨by decide, by decide, by decide, fun st => by cases st <;> decide, by decide, by decide, by decide⟩

/-- Station 1 with ACTUATOR in its hold set, its LIFTED confirm at a level. -/
def jammed (lifted : Bool) : State :=
  { running with stations := { running.stations with s1 := { running.stations.s1 with
    actuator := .jammed, valve := .lift, liftedIn := lifted, hold := { HoldSet.empty with actuator := true } } } }

theorem witness_ClearFaultRemovesEndedCauses :
    (jammed true).atRest = true ∧ (jammed true).enabled .s1 = true ∧ ((jammed true).station .s1).hold.actuator = true ∧
      ((jammed true).station .s1).liftedIn = true ∧ ((jammed false).station .s1).liftedIn = false ∧
      (jammed true).enabled .s2 = false ∧ replyTo (.clearFault 1 [1]) (jammed false) =
        some [0x07, 2, 0, 0, 0, 0, 0, 0, 0, 0, 0, 0, 0] := by decide

theorem witness_PressModes :
    let slept : State := { quiet with mode := .standby, wake := some 0 }
    quiet.atRest = true ∧ 2 < (3 : Octet).toNat ∧ (1 : Octet).toNat = quiet.mode.code ∧ running.mode = .run ∧
      quiet.mode = .idle ∧ slept.mode = .standby ∧ slept.wake = some 0 ∧ 0 ≤ sdiff slept.ref.hw 0 ∧
      sdiff slept.ref.hw 1 < 0 ∧ foiling.atRest = true ∧ foiling.mode ≠ .standby := by decide

/-- R148: entering STANDBY parks the lanes, ends a DRAINING job, leaves M0's mark and turns the tracker OFF. -/
theorem test_standby_flushes :
    let s : State := { foiling with
      job := { foiling.job with state := .draining, endReason := some .batch }
      m0 := { foiling.m0 with state := .inMark 1002000 0 } }
    let t := after (.setMode 1 [2]) s
    (t.lane .l0).state = .parked ∧ (t.lane .l0).drive.map DriveCommand.kind = lane0.drive.map DriveCommand.kind ++ [.stopAll] ∧
      t.job.state = .ended ∧ t.job.endReason = some .flush ∧ t.m0.state = .out ∧ t.tracker.state = .off ∧
      t.queue = [] ∧ (t.station .s1).actuator = .lifting := by decide

/-- SET SOURCE's payload. -/
def sourcePayload (source action : Octet) (scale limit tolerance : Nat) : List Octet :=
  [source, action] ++ octets 4 scale ++ octets 2 limit ++ octets 1 tolerance

/-- LINE moving, its web ticks behind HW, with a span from an origin. -/
def counting (web hw : Nat) (origin : Option Pos) : State :=
  { placed web quiet with ref := { (placed web quiet).ref with
      hw := BitVec.ofNat 32 hw, spanOrigin := origin, line := { quiet.ref.line with state := .moving } } }

theorem witness_SetSourceActs :
    let p := sourcePayload 1 0 1048575 50001 255
    let r : Reference := { quiet.ref with
      line := { quiet.ref.line with state := .moving }, wheel := { quiet.ref.wheel with state := .moving } }
    quiet.atRest = true ∧ p.length = 9 ∧ sourceOf (u8 p 0) = some .line ∧ u8 (sourcePayload 3 0 0 0 0) 0 = 3 ∧
      3 < u8 (sourcePayload 1 4 0 0 0) 1 ∧ 1048575 < u32 (sourcePayload 1 0 1048576 0 0) 2 ∧ u32 p 2 = 1048575 ∧
      (inJob .armed).job.state ≠ .none ∧ quiet.ref.selected = .line ∧ quiet.ref.selected ≠ .wheel ∧
      quiet.ref.wheel.state = .off ∧ quiet.ref.wheel.faultIn = false ∧ quiet.ref.line.state ≠ .off ∧
      r.line.state = .moving ∧ r.wheel.state = .moving ∧ quiet.job.state = .none ∧
      u8 (sourcePayload 2 1 100 99 0) 1 = 1 ∧ u8 (sourcePayload 2 3 100 99 0) 1 = 3 := by decide

/-- R11, R18: a limit given below the lag starts the actions of R11 after the action and the scale of the same
request. -/
theorem test_limit_below_the_lag :
    let t := after (.setSource 1 (sourcePayload 2 1 65537 99 0)) (counting 1000 1101 none)
    t.ref.reverseLimit = 100 ∧ t.ref.wheel.state = .still ∧ t.ref.wheel.k = 65537 ∧ t.ref.hw = 1000 ∧
      t.events.record .reverseLimit = { unit := 0, detail := 101, web := 1000 } ∧
      (after (.setSource 1 (sourcePayload 2 1 65537 99 0)) (counting 1000 1100 none)).ref.hw = 1100 := by decide

theorem witness_ResetsOfThePart :
    quiet.atRest = true ∧ quiet.ref.line.faultIn = false ∧
      (after (.reset 7 []) quiet).link.tx = some { kind := 0x82, tag := 7, payload := [0], resets := true } ∧
      ({ quiet.ref with line := { quiet.ref.line with faultIn := true } } : Reference).line.faultIn = true ∧
      (let s := after (.reset 7 []) quiet
       Instr.frame? (.identify 7 []) = some idFrame ∧ s.link.resetPending = true ∧ s.link.tx.isSome = true ∧
         s.link.rxQueue.length < 2) ∧
      (let r : Reference := { quiet.ref with line := { quiet.ref.line with faultIn := true } }
       let s := after (.reset 7 []) { quiet with ref := r }
       s.ref.line.faultIn = true ∧ s.link.tx = some { kind := 0x82, tag := 7, payload := [0], resets := true } ∧
         (after .frameSent s).ref.line.state = .fault) := by decide

theorem witness_SourceCountMovesTheWeb :
    (counting 0 0 none).ref.line.state = .moving ∧ quiet.ref.wheel.state = .off ∧
      (decodePair false false true false = some true ∧ decodePair false false false true = some false ∧
        decodePair false false true true = none) ∧
      (let r := movedWeb (counting 1000 6000 none).ref false 65536
       sdiff r.hw r.web = 5001 ∧ r.reverseLimit < sdiff r.hw r.web) ∧
      (let r := movedWeb (counting 1001 6000 none).ref false 65536
       sdiff r.hw r.web = r.reverseLimit) ∧
      sdiff (movedWeb (counting 99999 99999 (some 0)).ref true 65536).web 0 = 100000 ∧
      sdiff (movedWeb (counting 99998 99998 (some 0)).ref true 65536).web 0 < 100000 ∧
      quiet.ref.selected ≠ .wheel ∧
      (let s := counting 1000 6000 (some 0)
       s.ref.spanOrigin = some 0 ∧ s.ref.reverseLimit < sdiff (movedWeb s.ref false 65536).hw
         (movedWeb s.ref false 65536).web) := by decide

set_option maxRecDepth 8192 in
/-- R11 with a span open: the span is kept, and one whose origin lies 100,000 ticks back closes after the flush. -/
theorem test_reverse_past_limit_in_a_span :
    let kept := after (.sourceCount .line false true) (counting 1000 6000 (some 0))
    let closed := after (.sourceCount .line false true) (counting 100001 106000 (some 0))
    kept.ref.spanOrigin = some 0 ∧ kept.ref.hw = 999 ∧ closed.ref.spanOrigin = some 100000 ∧ closed.ref.hw = 100000 ∧
      closed.events.record .sourceDisagree = { unit := 0, detail := 1000, web := 100000 } := by decide

theorem witness_SourceFaultMotionAndSpeed :
    quiet.ref.line.state = .still ∧ quiet.ref.selected = .line ∧ quiet.ref.selected ≠ .wheel ∧
      quiet.ref.wheel.state = .off ∧ (counting 0 0 none).ref.line.state = .moving := by decide

theorem witness_HardCauseTakesTheFaultActions :
    .actuator ∈ hardCauses ∧ running.enabled .s2 = false ∧ running.enabled .s1 = true ∧
      (running.station .s1).hold.has .actuator = false ∧ ((jammed true).station .s1).hold.has .actuator = true ∧
      running.Numbered ∧ running.Capacities :=
  ⟨by decide, by decide, by decide, by decide, by decide, running_numbered, running_capacities⟩

/-- With an undelivered STRIKE whose feed is pending on one lane and another lane EMPTY. -/
theorem witness_HardCauseTakesTheFaultActions_conversion :
    committed.Numbered ∧ committed.Capacities ∧ committed.enabled .s1 = true ∧
      (committed.station .s1).hold.has .actuator = false ∧ undeliveredAt (record1 strikeVisit) .s1 = true ∧
      withdrawing committed.queue [.s1] .l0 = [0] ∧
      (withdrawn (committed.lane .l0) [0]).drive.map DriveCommand.kind = lane0.drive.map DriveCommand.kind ++ [.stopOne] ∧
      (committed.lane .l1).state = .empty :=
  ⟨one_numbered _ _ rfl rfl, ⟨by decide, by decide, by decide, by decide⟩, by decide⟩

/-- R96, R129: the drive is sent the one-feed STOP, then the full STOP. -/
theorem test_hard_cause_withdraws_then_stops :
    let t := addHard .actuator .s1 committed
    (t.lane .l0).drive.drop lane0.drive.length =
        [{ kind := .stopOne, start := 1021900, length := 3200, follow := .jump },
         { kind := .stopAll, start := 1002200, length := 0, follow := .jump }] ∧
      (t.lane .l0).pendingFeeds = [] ∧ (t.lane .l1).drive = (committed.lane .l1).drive ∧
      t.queue = [record1 { strikeVisit with decision := some (.skip .hold) }] := by decide

theorem witness_RewoundEdgesAreCounted : sdiff (counting 0 1 none).web (counting 0 1 none).ref.hw < 0 := by decide

/-- Channel M1 with a mark open since a width ago. -/
def inMark (width : Nat) : State :=
  running.setChannel (.station .s1)
    { (running.channel (.station .s1)) with state := .inMark (BitVec.ofNat 32 (1002200 - width)) 1002200 }

theorem witness_MarkChannelMoves :
    0 ≤ sdiff running.web running.ref.hw ∧
      ((inMark 150).channel (.station .s1)).state = .inMark 1002050 1002200 ∧ 0 ≤ sdiff running.ref.hw 1002200 ∧
      sdiff running.ref.hw 1002201 < 0 ∧ running.m0.state = .out ∧ sdiff running.web 1002050 = 150 ∧
      sdiff running.web 1001000 = 1200 ∧ running.entry.nmin = 150 ∧ running.entry.cmax = 1200 ∧
      running.enabled .s1 = true ∧ running.enabled .s2 = false ∧ quiet.tracker.state = .off ∧
      (visit1.swin : Int) < (sdiff 1001050 visit1.expected).natAbs := by decide

/-- Station 1 with a mark open on M1 from a position, the web 150 ticks on. -/
def markedAt (foil : Bool) (lead : Nat) : State :=
  placed (lead + 150) ((if foil then foiling else running).setChannel (.station .s1)
    { running.m0 with state := .inMark (BitVec.ofNat 32 lead) 1002200 })

/-- M0 with a mark open at a position, the web at `web` and the tracker as given. -/
def atEntry (lead : Pos) (web : Nat) (tracker : Tracker) : State :=
  placed web { running with m0 := { running.m0 with state := .inMark lead 0 }, tracker }

/-- The tracker LOCKED on `window1`. -/
def locked1 : Tracker := { state := .locked, cursor := 0, window := some window1, missRun := 0, seqCounter := 1 }

/-- The tracker in SEARCH. -/
def search1 : Tracker := { locked1 with state := .search, window := none }

/-- The mark on M0 has ended. -/
def leftMark (s : State) : State := { s with m0 := { s.m0 with state := .out } }

/-- A state with its job store changed. -/
def withJob (f : JobStore → JobStore) (s : State) : State := { s with job := f s.job }

/-- A plan of two slots under sync ANY. -/
def planAny : Plan := { plan12 with sync := .any, slots := [⟨9500, 1⟩, ⟨8000, 1⟩] }

/-- The press admits a slot of its active plan, with the record and the station of `running` and its web short of the
new record's window. -/
theorem running_admits (s : State) (plan : Plan) (k : Nat) (slot : PlanSlot) (e : Pos)
    (armed : s.job.state = .armed) (active : s.job.active = some plan) (hk : plan.slots[k]? = some slot)
    (hq : s.queue = running.queue) (hs : s.stations = running.stations) (ht : s.tracker.seqCounter = 1)
    (hw : sdiff s.ref.hw (posShift (posShift e 100000) (1000 + s.entry.cmax)) < 0) : Admits s plan k slot e where
  armed := armed
  active := active
  slot := hk
  room := by rw [hq]; decide
  openHead := by rw [hq]; intro r h; cases h; decide
  windows := by
    intro st h
    cases st
    · simpa [State.station, hs, running, placed, PerStation.get, station1, Station.reset, StationSetup.reset] using hw
    all_goals simp [State.enabled, State.station, hs, running, placed, PerStation.get, Station.reset,
      StationSetup.reset] at h
  numbered := one_numbered s _ hq (by rw [ht]; decide)

/-- A mark in SEARCH: a CYCLE mark under sync CYCLE, a NORMAL mark under sync ANY, and one whose admission is the
changeover to a READY plan, from an ARMED and from an ENDED job. -/
theorem witness_EntryTrackerAdmits :
    let ready (state : JobState) : State := withJob (fun j => { j with state, buffer := .ready (plan13 9500) })
      (atEntry 1009500 1010100 search1)
    let any : State := withJob (fun j => { j with active := some planAny }) (atEntry 1009500 1009650 search1)
    Admits (changedOver (leftMark (atEntry 1009500 1010100 search1)) 0) plan12 0 ⟨9500, 1⟩ 1009500 ∧
      Admits (changedOver (leftMark any) 0) planAny 0 ⟨9500, 1⟩ 1009500 ∧ planAny.sync = .any ∧
      Admits (changedOver (leftMark (ready .armed)) 0) (plan13 9500) 0 ⟨9500, 1⟩ 1009500 ∧
      Admits (changedOver (leftMark (ready .ended)) 0) (plan13 9500) 0 ⟨9500, 1⟩ 1009500 ∧
      (¬ batchReached (atEntry 1009500 1010100 search1) ∧ ¬ batchReached any) ∧
      sdiff (atEntry 1009500 1010100 search1).web 1009500 = 600 ∧ sdiff any.web 1009500 = 150 ∧
      plan12.sync = .cycle ∧ running.entry.nmin = 150 ∧ running.entry.cmin = 600 ∧
      (changedOver (leftMark (withJob (fun j => { j with state := .draining }) any)) 0).job.state ≠ .armed :=
  ⟨running_admits _ _ _ _ _ rfl rfl rfl rfl rfl rfl (by decide),
    running_admits _ _ _ _ _ rfl rfl rfl rfl rfl rfl (by decide), rfl,
    running_admits _ _ _ _ _ rfl rfl rfl rfl rfl rfl (by decide),
    running_admits _ _ _ _ _ rfl rfl rfl rfl rfl rfl (by decide), ⟨fun h => h.2.1 rfl, fun h => h.2.1 rfl⟩, by decide⟩

/-- A mark in LOCKED, at each end of the window, and one position outside it; a CYCLE mark at a cursor of 1 is a
SLOT_SLIP. -/
theorem witness_EntryTrackerAdmits_locked :
    let slipping : State := withJob (fun j => { j with active := some planAny })
      (atEntry 1009500 1010100 { locked1 with cursor := 1 })
    let inSlot : State := withJob (fun j => { j with active := some planAny })
      (atEntry 1009000 1009150 { locked1 with cursor := 1 })
    Admits (changedOver (leftMark (atEntry 1009000 1009150 locked1)) 0) plan12 0 ⟨9500, 1⟩ 1009000 ∧
      Admits (changedOver (leftMark inSlot) 1) planAny 1 ⟨8000, 1⟩ 1009000 ∧
      Admits (changedOver (leftMark slipping) 0) planAny 0 ⟨9500, 1⟩ 1009500 ∧ 0 < slipping.tracker.cursor ∧
      (¬ batchReached slipping ∧ ¬ batchReached inSlot ∧ ¬ batchReached (atEntry 1009000 1009150 locked1)) ∧
      sdiff (atEntry 1009000 1009150 locked1).web 1009000 = 150 ∧ sdiff slipping.web 1009500 = 600 ∧
      0 ≤ sdiff 1009000 window1.first ∧ 0 ≤ sdiff window1.last 1010000 ∧ sdiff 1008999 window1.first < 0 ∧
      sdiff window1.last 1010001 < 0 :=
  ⟨running_admits _ _ _ _ _ rfl rfl rfl rfl rfl rfl (by decide),
    running_admits _ _ _ _ _ rfl rfl rfl rfl rfl rfl (by decide),
    running_admits _ _ _ _ _ rfl rfl rfl rfl rfl rfl (by decide), by decide,
    ⟨fun h => h.2.1 rfl, fun h => h.2.1 rfl, fun h => h.2.1 rfl⟩, by decide⟩

/-- The press with no mark on M0, at the first tick of the window's expiry and one before, and at the last miss before
the limit and the one that reaches it. -/
theorem witness_EntryTrackerAdmits_expiry :
    let s (web missRun : Nat) : State := placed web { running with tracker := { locked1 with missRun } }
    Admits (changedOver (s 1011200 2) 0) plan12 0 ⟨9500, 1⟩ window1.expected ∧ ¬ batchReached (s 1011200 2) ∧
      (s 1011200 2).m0.state = .out ∧ (s 1011200 2).tracker.state = .locked ∧
      (s 1011200 2).tracker.window = some window1 ∧ 0 ≤ sdiff (s 1011200 2).ref.hw window1.expiry ∧
      sdiff (s 1011199 2).ref.hw window1.expiry < 0 ∧
      min 31 ((s 1011200 2).tracker.missRun + 1) ≠ running.entry.missLimit ∧
      min 31 ((s 1011200 3).tracker.missRun + 1) = running.entry.missLimit :=
  ⟨running_admits _ _ _ _ _ rfl rfl rfl rfl rfl rfl (by decide), fun h => h.2.1 rfl, by decide⟩

/-- R33, R36 (log 10): at the expiry of a complete batch the miss run rises and nothing is admitted; at its limit
ENTRY_LOST is raised as well. -/
theorem test_expiry_of_a_complete_batch :
    let s (missRun : Nat) : State := withJob (fun j => { j with target := 5, admitted := 5 })
      (placed 1011200 { running with tracker := { locked1 with missRun } })
    batchReached (s 2) ∧ batchReached (s 3) ∧
      (let t := after .entryWindowExpiry (s 2)
       t.tracker.missRun = 3 ∧ t.queue = running.queue ∧ t.job.state = .draining ∧ t.tracker.state = .search ∧
         EventKind.entryLost.isIn t.events.flags = false) ∧
      (let t := after .entryWindowExpiry (s 3)
       t.tracker.missRun = 4 ∧ t.job.state = .draining ∧ t.tracker.state = .search ∧
         t.events.record .entryLost = { unit := 0, detail := 0, web := 1011200 }) :=
  ⟨⟨rfl, (by decide : 5 ≠ 0), rfl, fun _ h => by cases h⟩, ⟨rfl, (by decide : 5 ≠ 0), rfl, fun _ h => by cases h⟩,
    by decide⟩

/-- A batch at its target, with the mark and with the expiry to come, and after an admission that reaches it; and a
full queue. -/
theorem witness_EntryTrackerAdmits_stops :
    let at5 (admitted : Nat) : State :=
      withJob (fun j => { j with target := 5, admitted }) (atEntry 1009000 1009150 locked1)
    let full : State := { atEntry 1009000 1009150 locked1 with queue := List.replicate 256 (record1 visit1) }
    batchReached (at5 5) ∧ ¬ batchReached (at5 4) ∧
      Admits (changedOver (leftMark (at5 4)) 0) plan12 0 ⟨9500, 1⟩ 1009000 ∧
      batchReached (admitted (at5 4) plan12 0 ⟨9500, 1⟩ 1009000 .detected false 0) ∧
      256 ≤ full.queue.length ∧ ¬ batchReached full :=
  ⟨⟨rfl, (by decide : 5 ≠ 0), rfl, fun _ h => by cases h⟩, fun h => absurd (h.2.2.1 : 4 = 5) (by decide),
    running_admits _ _ _ _ _ rfl rfl rfl rfl rfl rfl (by decide),
    ⟨rfl, (by decide : 5 ≠ 0), by decide, fun _ h => by cases h⟩, (List.length_replicate).ge, fun h => h.2.1 rfl⟩

/-- R33, R29: with no mark on M0 the expiry admits the slot as predicted, and the window moves one pitch on. -/
theorem test_empty_window_predicts :
    let t := after .entryWindowExpiry (placed 1011200 { running with tracker := locked1 })
    t.queue.map LabelRecord.origin = [.detected, .predicted] ∧ t.tracker.missRun = 1 ∧
      t.tracker.window.map EntryWindow.expected = some 1019000 := by decide

/-- R34, R166: the first admission with a plan READY drains the active plan and makes the READY plan active. -/
theorem test_changeover :
    let t := after (.markTrailingEdge .m0)
      (withJob (fun j => { j with buffer := .ready (plan13 9500) }) (atEntry 1009500 1010100 search1))
    t.job.active = some (plan13 9500) ∧ t.job.draining = some plan12 ∧ t.job.drainingLive = 1 ∧ t.job.activeLive = 1 ∧
      t.job.buffer = .empty ∧ t.events.record .planChanged = { unit := 0, detail := 13, web := 1010100 } := by decide

theorem witness_SpliceZonesComeAndGo :
    running.Numbered ∧ running.Capacities ∧ 0 ≤ sdiff running.web running.ref.hw ∧
      sdiff (posShift running.web (-1000)) (posShift 900000 9500) ≥ 0 ∧
      sdiff (1000000 : Pos) (posShift 1000000 9500) < 0 ∧ 0 ≤ sdiff (1000000 : Pos) 1000000 ∧
      0 ≤ sdiff (296000 : Pos) (posShift 231000 65000) ∧ sdiff (295999 : Pos) (posShift 231000 65000) < 0 :=
  ⟨running_numbered, running_capacities, by decide⟩

/-- A zone whose first tick is the last of the label of a record with an undelivered STRIKE, and one whose last tick is
the label's first. -/
theorem witness_SpliceZonesComeAndGo_hit :
    (placed 910499 committed).Numbered ∧ (placed 910499 committed).Capacities ∧
      0 ≤ sdiff (placed 910499 committed).web (placed 910499 committed).ref.hw ∧
      (record1 strikeVisit).splice = false ∧
      sdiff (posShift 910499 (-1000)) (posShift 900000 9500) < 0 ∧ 0 ≤ sdiff (posShift 910499 1000) 900000 ∧
      0 ≤ sdiff (posShift 899000 1000) 900000 ∧ sdiff (posShift 898999 1000) 900000 < 0 ∧
      sdiff (posShift 910500 (-1000)) (posShift 900000 9500) = 0 ∧ undeliveredAt (record1 strikeVisit) .s1 = true ∧
      withdrawing (placed 910499 committed).queue allStations .l0 = [0] :=
  ⟨one_numbered _ _ rfl rfl, ⟨by decide, by decide, by decide, by decide⟩, by decide⟩

/-- R56, R57: that record is flagged and converted, its feed stopped, and the station lifts. -/
theorem test_splice_converts :
    let t := after (.spliceEdge true) (placed 910499 committed)
    t.queue = [{ record1 { strikeVisit with decision := some (.skip .splice) } with splice := true }] ∧
      (t.lane .l0).pendingFeeds = [] ∧ (t.lane .l0).state = .parked ∧ (t.station .s1).actuator = .lifting := by decide

/-- The window of `visit1` is the next threshold of the queue, taken at its first tick. -/
theorem running_nextThreshold :
    nextThreshold running { pos := 1002200, seq := 0, station := .s1, kind := .window } :=
  ⟨by decide, [], [], by decide, by simp, by simp⟩

/-- A mark on M1 takes the visit of `visit1` as SEEN, its lead at the edge of the station window. -/
theorem marked_takesVisit (foil : Bool) (lead : Nat) (hl : lead = 999000 ∨ lead = 1001000) :
    let s := markedAt foil lead
    takesVisit s .s1 (record1 visit1) visit1 (.markTrailingEdge (.station .s1)) true
      (posShift (BitVec.ofNat 32 lead) 20000) := by
  refine .inr ⟨BitVec.ofNat 32 lead, 1002200, .normal, ?_⟩
  rcases hl with rfl | rfl <;> cases foil <;> decide

/-- A window's expiry takes it as PREDICTED. -/
theorem expired_takesVisit (s : State) (hq : s.queue = [record1 visit1]) (hw : s.ref.hw = 1002200)
    (hs : (s.station .s1).setup.lead = 20000) :
    takesVisit s .s1 (record1 visit1) visit1 .stationWindowExpiry false 1020000 := by
  refine .inl ⟨rfl, rfl, ⟨by rw [hw]; decide, [], [], by rw [hq]; decide, by simp, by simp⟩, by rw [hs]; decide⟩

theorem witness_VisitsAreDecided :
    (running.Numbered ∧ running.Capacities) ∧ (markedAt false 999000).Numbered ∧ (markedAt false 999000).Capacities ∧
      record1 visit1 ∈ running.queue ∧ record1 visit1 ∈ (markedAt false 999000).queue ∧
      (record1 visit1).visit .s1 = some visit1 ∧ visit1.state = .waiting ∧
      takesVisit running .s1 (record1 visit1) visit1 .stationWindowExpiry false 1020000 ∧
      takesVisit (markedAt false 999000) .s1 (record1 visit1) visit1 (.markTrailingEdge (.station .s1)) true 1019000 ∧
      sdiff running.ref.hw 1020000 < 0 ∧ sdiff (markedAt false 999000).ref.hw 1019000 < 0 ∧
      nextThreshold (striking .strike) { pos := 1020000, seq := 0, station := .s1, kind := .strike } ∧
      ∀ x ∈ queueThresholds (placed 1002199 running).queue, sdiff (placed 1002199 running).ref.hw x.pos < 0 :=
  ⟨⟨running_numbered, running_capacities⟩, one_numbered _ _ rfl rfl, ⟨by decide, by decide, by decide, by decide⟩,
    by decide, by decide, by decide, by decide, expired_takesVisit _ rfl rfl rfl,
    marked_takesVisit false 999000 (.inl rfl), by decide, by decide, ⟨by decide, [], [], by decide, by simp, by simp⟩,
    by decide⟩

/-- Station 1 with a mark in the window of `visit1`, its register loop changed. -/
def marking (f : RegLoop → RegLoop) : State :=
  (markedAt false 999000).modStation .s1 fun u => { u with loop := f u.loop }

/-- Whether a mark takes a visit does not look at the register loop. -/
theorem loop_takesVisit (s : State) (f : RegLoop → RegLoop) (r : LabelRecord) (v : Visit) (i : Instr) (seen : Bool)
    (p : Pos) (h : takesVisit s .s1 r v i seen p) :
    takesVisit (s.modStation .s1 fun u => { u with loop := f u.loop }) .s1 r v i seen p := h

theorem marking_takesVisit (f : RegLoop → RegLoop) :
    takesVisit (marking f) .s1 (record1 visit1) visit1 (.markTrailingEdge (.station .s1)) true 1019000 :=
  loop_takesVisit _ f _ _ _ _ _ (marked_takesVisit false 999000 (.inl rfl))

/-- The hand-over: a gate at the end of its capture pairs, one tick beyond it does not; a pair of slots that differ; a
waiting mark replaced; and a new mark whose threshold is reached, beside one whose threshold lies one tick on. -/
theorem witness_VisitsAreDecided_handOver :
    (∀ f, (marking f).Numbered) ∧ (∀ f, takesVisit (marking f) .s1 (record1 visit1) visit1
      (.markTrailingEdge (.station .s1)) true 1019000) ∧
    (let gate (pos : Pos) (slot : Nat) : State :=
      marking fun l => { l with gate := some { pos := pos, slot := slot, expiry := 999999 } }
     let out (s : State) : RegLoop := ((handedOver s .s1 999000 0 0).station .s1).loop
     let waits (expiry : Pos) : Option WaitingMark := some { pos := 999000, seq := 0, slot := 0, expiry := expiry }
     let tuned (target : Int) : State := marking fun l => { l with tuning := { l.tuning with target := target } }
     (out (gate 997000 0)).pairs = 1 ∧ (out (gate 997000 0)).gate = none ∧ (out (gate 997000 0)).trim = 300 ∧
       (out (gate 996999 0)).pairs = 0 ∧ (out (gate 996999 0)).waiting = waits 1001000 ∧
       (out (gate 997000 1)).trim = 0 ∧
       (handedOver (gate 997000 1) .s1 999000 0 0).events.record .dieSlip = { unit := 1, detail := 257, web := 999150 } ∧
       ((handedOver (marking fun l => { l with waiting := waits 5 }) .s1 999000 0 0).station .s1).unusable = 1 ∧
       (out (tuned 1850)).waiting = none ∧ (out (tuned 1849)).waiting = waits 999151) :=
  ⟨fun _ => one_numbered _ _ rfl (by decide : (0 : BitVec 16) = 1 - 1), marking_takesVisit, by decide⟩

/-- R70: the mark that pairs writes its error into its visit and steps the trim in the event of the match. -/
theorem test_mark_pairs_with_the_gate :
    let t := after (.markTrailingEdge (.station .s1))
      (marking fun l => { l with gate := some { pos := 997000, slot := 0, expiry := 999999 } })
    (t.station .s1).loop.trim = 300 ∧ (t.queue.map fun r => (r.visit .s1).map Visit.error) = [some (some 2000)] := by
  decide

/-- Each of the first six tests of R52, and the seventh's three reasons, is the first that applies somewhere. -/
theorem witness_VisitsAreDecided_reasons :
    let with1 (f : Station → Station) : State := foiling.modStation .s1 f
    let lane (f : Lane → Lane) : State := foiling.modLane .l0 f
    let parked (speed : Nat) : State :=
      { lane (fun l => { l with state := .parked, lastFeed := none }) with ref := { foiling.ref with speed } }
    let open1 (speed : Nat) : State :=
      { with1 (fun u => { u with actuator := .lifted }) with ref := { foiling.ref with speed } }
    let d (s : State) (r : LabelRecord) : Decision := decisionOf s r .s1 false 1020000
    let r := record1 visit1
    d foiling r = .strike ∧ d foiling { r with excess := true, splice := true } = .skip .excess ∧
      d foiling { r with splice := true, motif := 2 } = .skip .splice ∧
      d foiling { r with motif := 2 } = .skip .notInMotif ∧
      d (with1 fun u => { u with unusable := 3 }) r = .skip .hold ∧
      d (with1 fun u => { u with setup := { u.setup with strikeOnPredicted := false } }) r = .skip .noMark ∧
      d (open1 4450) r = .strike ∧ d (open1 4451) r = .skip .impressionLate ∧
      d (lane fun l => { l with state := .fault }) r = .skip .hold ∧
      d (lane fun l => { l with used := 9999999 }) r = .skip .foilOut ∧ d (parked 3940) r = .strike ∧
      d (parked 3941) r = .skip .foilLate := by decide

theorem witness_FoilStrikeCommitsTheFeeds :
    (foiling.Numbered ∧ foiling.Capacities) ∧ record1 visit1 ∈ foiling.queue ∧
      takesVisit foiling .s1 (record1 visit1) visit1 .stationWindowExpiry false 1020000 ∧
      takesVisit (markedAt true 1001000) .s1 (record1 visit1) visit1 (.markTrailingEdge (.station .s1)) true 1021000 ∧
      (markedAt true 1001000).Numbered ∧ (markedAt true 1001000).Capacities ∧
      sdiff (markedAt true 1001000).ref.hw 1021000 < 0 ∧ sdiff foiling.ref.hw 1020000 < 0 ∧
      concernedLanes foiling .s1 1 = [.l0] ∧ actsAt foiling 1 .s1 = true ∧
      reachesCheck foiling (record1 visit1) .s1 false 1020000 = true ∧
      laneReason foiling (record1 visit1) .s1 1020000 = none ∧
      reachesCheck (markedAt true 1001000) (record1 visit1) .s1 true 1021000 = true ∧
      laneReason (markedAt true 1001000) (record1 visit1) .s1 1021000 = none :=
  ⟨⟨one_numbered _ _ rfl rfl, foiling_capacities⟩, by decide, expired_takesVisit _ rfl rfl rfl,
    marked_takesVisit true 1001000 (.inr rfl), one_numbered _ _ rfl rfl, ⟨by decide, by decide, by decide, by decide⟩,
    by decide⟩

/-- R130: the commit that leaves the foil one short of the threshold warns, with the metres left; at the threshold it
does not. -/
theorem test_low_spool_is_warned :
    let low (threshold : Nat) : State := foiling.modLane .l0 fun l => { l with
      set := { l.set with lowThreshold := threshold } }
    let left := lane0.loaded - (feedOf foiling (record1 visit1) 1020000 .l0).counted
    (after .stationWindowExpiry (low (left + 1))).events.record .foilLow =
        { unit := 0, detail := left / 100000, web := 1002200 } ∧
      ((after .stationWindowExpiry (low left)).lane .l0).lowWarned = false := by decide

/-- Checks that fail: a lane whose foil is one short is emptied, and one that runs out exactly is not; a parked lane is
late; and a lane whose idle run reaches its setting parks. -/
theorem witness_FoilStrikeCommitsTheFeeds_fails :
    let lane (f : Lane → Lane) : State := foiling.modLane .l0 f
    let r := record1 visit1
    let counted := (feedOf foiling r 1020000 .l0).counted
    let short := lane fun l => { l with used := l.loaded + 1 - counted }
    let parked : State :=
      { lane (fun l => { l with state := .parked, lastFeed := none }) with ref := { foiling.ref with speed := 65535 } }
    0 < counted ∧ laneReason (lane fun l => { l with used := l.loaded - counted }) r .s1 1020000 = none ∧
      reachesCheck short r .s1 false 1020000 = true ∧ laneReason short r .s1 1020000 = some .foilOut ∧
      emptied (short.lane .l0) (feedOf short r 1020000 .l0) = true ∧
      takesVisit short .s1 r visit1 .stationWindowExpiry false 1020000 ∧
      reachesCheck parked r .s1 false 1020000 = true ∧ laneReason parked r .s1 1020000 = some .foilLate ∧
      emptied (parked.lane .l0) (feedOf parked r 1020000 .l0) = false ∧
      (idled { lane0 with idleRun := 3, set := { lane0.set with parkAfter := 4 } } 1002200).state = .parked ∧
      (idled { lane0 with idleRun := 2, set := { lane0.set with parkAfter := 4 } } 1002200).state = .active :=
  ⟨by decide, by decide, by decide, by decide, by decide, expired_takesVisit _ rfl rfl rfl, by decide⟩

/-- The decided visit of `striking`. -/
def decided (d : Decision) : Visit :=
  { visit1 with state := .seen, markPos := some 1000000, strikePt := some 1020000, decision := some d }

theorem witness_StrikePointFixesTheOutcome :
    (∀ d, (striking d).Numbered) ∧ (striking .strike).Capacities ∧
      record1 (decided .strike) ∈ (striking .strike).queue ∧
      (record1 (decided .strike)).visit .s1 = some (decided .strike) ∧ (decided .strike).state ≠ .final ∧
      (decided .strike).strikePt = some 1020000 ∧
      nextThreshold (striking .strike) { pos := 1020000, seq := 0, station := .s1, kind := .strike } ∧
      nextThreshold (striking (.skip .hold)) { pos := 1020000, seq := 0, station := .s1, kind := .strike } :=
  ⟨striking_numbered, ⟨by decide, by decide, by decide, by decide⟩, by decide, by decide, by decide, by decide,
    ⟨by decide, [], [], by decide, by simp, by simp⟩, ⟨by decide, [], [], by decide, by simp, by simp⟩⟩

/-- The policy after reset traces a SKIP with reason HOLD and none with NOT_IN_MOTIF, and a STRUCK visit that no mark
found; a MISSED or MARRED outcome it traces always (R111). -/
theorem witness_StrikePointFixesTheOutcome_traced :
    (running.station .s1).setup.policy = .exceptions ∧ tracedBy .exceptions (decided (.skip .hold)) .skipped = true ∧
      tracedBy .exceptions (decided (.skip .notInMotif)) .skipped = false ∧
      tracedBy .exceptions (decided .strike) .struck = false ∧ tracedBy .exceptions strikeVisit .struck = true ∧
      tracedBy .exceptions (decided .strike) .missed = true := by decide

/-- A feed of the visit pending, its strike point reached with the die open and the job DRAINING: MISSED, the feed
leaves the list, the record retires and the job ENDS. -/
theorem test_missed_strike_ends_the_job :
    let s := (placed 1020000 committed).modStation .s1 fun u => { u with actuator := .lifted }
    let t := after .strikePoint { s with job := { s.job with state := .draining, endReason := some .endRequest } }
    (t.station .s1).missed = 1 ∧ (t.lane .l0).pendingFeeds = [] ∧ t.queue = [] ∧ t.job.state = .ended ∧
      t.events.record .jobEnded = { unit := 0, detail := 2 * 256 + 12, web := 1020000 } ∧
      t.trace.entries.length = 1 := by decide

theorem witness_DieGatePairsAndCorrects :
    0 ≤ sdiff (tuned 0 998960).web (tuned 0 998960).ref.hw ∧ running.enabled .s2 = false ∧
      ((tuned 0 998960).station .s3).setup.enabled = true ∧ ((tuned 0 998960).station .s3).loop.synced = true ∧
      (((tuned 0 998960).station .s3).loop.cursor + 1) % 3 = 2 ∧
      (errorOf ((tuned 0 996150).station .s3).loop 1000350 996150).natAbs = 3000 ∧
      (errorOf ((tuned 0 996149).station .s3).loop 1000350 996149).natAbs = 3001 ∧
      (tuned 0 998960).queue = running.queue ∧ sdiff (996149 : Pos) (posShift 996149 4200) < 0 ∧
      ({ RegLoop.reset with synced := false } : RegLoop).synced = false ∧
      (tuned 0 998960).Numbered ∧ (tuned 0 998960).Capacities :=
  ⟨by decide, by decide, by decide, by decide, by decide, by decide, by decide, by decide, by decide, by decide,
    running_numbered, ⟨by decide, by decide, by decide, by decide⟩⟩

/-- An index gate that slips and pairs with a mark of another slot, at the miss limit: DIE_SLIP twice and MARKS_LOST. -/
theorem test_slipping_index_pairs :
    let t := after (.dieGate .s3 true) ((tuned 0 998960).modStation .s3 fun u => { u with unusable := 3 })
    (t.station .s3).loop.cursor = 0 ∧ (t.station .s3).loop.pairs = 1 ∧ (t.station .s3).loop.trim = 0 ∧
      (t.station .s3).hold.marksLost = true ∧
      t.events.record .dieSlip = { unit := 3, detail := 256 + 8 * 2 + 0, web := 998960 } ∧
      t.events.record .marksLost = { unit := 3, detail := 4, web := 998960 } := by decide

/-- A gate whose expiry threshold is reached as it comes is an orphan beside the one it puts out (R9, R71, R73). -/
theorem test_late_gate_is_an_orphan :
    let s := (tuned 0 998960).modStation .s3 fun u => { u with loop := { u.loop with
      waiting := none, gate := some { pos := 1, slot := 0, expiry := 2 }
      tuning := { u.loop.tuning with target := -3000 } } }
    ((after (.dieGate .s3 false) s).station .s3).loop.gate = none ∧
      ((after (.dieGate .s3 false) s).station .s3).loop.orphans = 2 := by decide

/-- Station 3 with an unpaired gate whose threshold is 1,000,000. -/
def gated3 (web : Nat) : State :=
  placed web (running.modStation .s3 fun u => { u with loop := { u.loop with
    gate := some { pos := 995800, slot := 0, expiry := 1000000 } } })

theorem witness_PairingPlacesExpire :
    0 ≤ sdiff (1002150 : Pos) 1002150 ∧ sdiff (1002149 : Pos) 1002150 < 0 ∧
      (((tuned 0 1002150).station .s3).loop.waiting.map WaitingMark.expiry) = some 1002150 ∧
      ((tuned 0 1002150).station .s3).loop.gate = none ∧
      ((tuned 0 1002150).station .s3).setup.missLimit = 4 ∧
      (((gated3 1000000).station .s3).loop.gate.map HeldGate.expiry) = some 1000000 ∧
      0 ≤ sdiff (gated3 1000000).ref.hw 1000000 ∧ sdiff (gated3 999999).ref.hw 1000000 < 0 ∧
      ((after (.unpairedGateExpiry .s3) (gated3 1000000)).station .s3).loop.orphans = 1 := by decide

theorem witness_StrokesCompleteOrFail :
    let u := { running.stations.s1 with actuator := ActuatorState.engaging, idleLift := some 1002200 }
    let s : State := { running with stations := { running.stations with s1 := u } }
    u.engagedIn = false ∧ u.liftedIn = false ∧ u.idleLift = some 1002200 ∧ 0 ≤ sdiff s.ref.hw 1002200 ∧
      sdiff s.ref.hw 1002201 < 0 ∧ (running.station .s1).actuator ≠ .engaging ∧
      (striking .strike).queue = [record1 { visit1 with
        state := .seen, markPos := some 1000000, strikePt := some 1020000, decision := some .strike }] := by decide

theorem witness_DriveFaultStopsTheLane :
    (foiling.lane .l0).faultIn = false ∧ (foiling.lane .l0).station = some .s1 ∧ (foiling.lane .l0).state = .active ∧
      (quiet.lane .l0).station = none := by decide

theorem witness_HeatZoneFollowsItsInputs :
    ((zone1 .heating false).station .s1).zone.enabled = true ∧ (quiet.station .s1).zone.enabled = false ∧
      (1450 + 150 : Int) < (1601 : BitVec 16).toInt ∧ (1600 : BitVec 16).toInt ≤ 1450 + 150 ∧
      ((1400 : BitVec 16).toInt - 1450).natAbs = 50 ∧ ((1501 : BitVec 16).toInt - 1450).natAbs = 51 ∧
      (zone1 .heating false).mode ≠ .standby ∧ ((zone1 .soaking false).station .s1).zone.state = .soaking ∧
      ((zone1 .soaking false).station .s1).zone.faultIn = false := by decide

theorem witness_CapacitiesAreKept :
    running.Capacities ∧ running.Numbered ∧ ∃ t, step running = .next t :=
  ⟨running_capacities, running_numbered, _, rfl⟩

theorem witness_NoticesDueAreConsistent :
    let e : EventSet := { quiet.events with flags := EventKind.woke.bit ||| EventKind.restart.bit, due := [.woke] }
    e.Consistent ∧ ∃ t, step { busy with events := e } = .next t :=
  ⟨⟨by decide, by decide, by decide⟩, _, rfl⟩

theorem witness_UnitLawsAreKept : unitLaws foiling ∧ ∃ t, step foiling = .next t := by
  refine ⟨⟨?_, by decide, ?_, ?_⟩, _, rfl⟩
  · unfold Tracker.Windowed
    decide
  · intro l
    cases l <;> exact ⟨by decide, by decide⟩
  · intro st
    unfold Station.HoldLaw Station.TrimLaw
    cases st <;>
      exact ⟨⟨by decide, by decide⟩, by decide, by decide, ⟨by decide, by decide, by decide⟩, ⟨by decide, by decide⟩⟩

end Sys2Proof.Tests
end

section
/-! The reset values of the units and of the event set, and the statement that compares the part at power-on with them
(O41). -/

namespace Sys2Proof.Machine

/-! ### The stations and lanes at power-on -/

/-- The four stations are alike at power-on (R113). -/
@[simp] theorem State.reset_station (st : StationId) : State.reset.station st = Station.reset := by
  cases st <;> rfl

/-- The six lanes are alike at power-on (R137). -/
@[simp] theorem State.reset_lane (l : LaneId) : State.reset.lane l = Lane.reset := by
  cases l <;> rfl

/-! ### The event set after a reset (R189) -/

/-- RESTART is the kind numbered 0 (section 9.4). -/
theorem EventKind.index_eq_zero_iff (k : EventKind) : k.index.val = 0 ↔ k = .restart := by
  cases k <;> decide

/-- RESTART alone is pending after a reset. -/
@[simp] theorem EventSet.isIn_flags_resetFor (k : EventKind) (cause : Nat) :
    k.isIn (EventSet.resetFor cause).flags = (k == .restart) := by
  simp [EventKind.isIn, EventSet.resetFor, k.index_eq_zero_iff, beq_eq_decide]

/-- Every kind is masked in after a reset. -/
@[simp] theorem EventSet.isIn_mask_resetFor (k : EventKind) (cause : Nat) :
    k.isIn (EventSet.resetFor cause).mask = true :=
  BitVec.getLsbD_allOnes.trans (decide_eq_true k.index.isLt)

/-- After a reset only RESTART's latest-raise record differs from a record never written (R185): it holds the cause. -/
theorem EventSet.record_resetFor (k : EventKind) (cause : Nat) :
    (EventSet.resetFor cause).record k = { unit := 0, detail := if k = .restart then cause else 0, web := 0 } := by
  have hzero : 0 = k.index.val ↔ k = .restart := eq_comm.trans k.index_eq_zero_iff
  simp only [EventSet.record, EventSet.resetFor, Fin.getElem_fin, Vector.getElem_set, Vector.getElem_replicate, hzero]
  split <;> rfl

end Sys2Proof.Machine

namespace Sys2Proof.Proofs

open Sys2Proof.Machine

/-- Settles O41, by the lemmas on the stations, the lanes and the event set; every other unit's value is the one its
definition writes. -/
theorem resetValues : Obligations.ResetValues := by
  refine ⟨rfl, rfl, rfl, rfl, rfl, ?reference, rfl, ?entry, rfl, ?channel, rfl, ?tracker, State.reset_station, ?station,
    ?zone, State.reset_lane, ?lane, rfl, ?job, rfl, ?trace, rfl, ?link, rfl, ?events⟩
  case reference | entry | channel | tracker | station | zone | lane | job | trace => rfl
  case link => exact fun _ => rfl
  case events =>
    exact fun cause => ⟨fun k => ⟨EventSet.isIn_flags_resetFor k cause, EventSet.isIn_mask_resetFor k cause,
      EventSet.record_resetFor k cause⟩, rfl⟩

end Sys2Proof.Proofs
end

section
/-! Requests of a fixed length and refused requests on a link at rest, the checks and the clamping of SETUP ENTRY, and
the statement about its refusals and effects (O29). -/

namespace Sys2Proof.Machine

/-! ### Requests of a fixed length and refused requests (R177, R178, R191) -/

/-- Every fixed payload length is within what a frame carries (R191). -/
theorem ReqKind.fixedLength_le {k : ReqKind} {n : Nat} (h : k.fixedLength = some n) : n ≤ Config.maxPayload := by
  cases k <;> cases h <;> decide

/-- A payload of the fixed length of its kind fits. -/
theorem lengthFits_of_fixedLength {k : ReqKind} {p : List Octet} (h : k.fixedLength = some p.length) :
    lengthFits k p = true := by
  have hle : p.length ≤ Config.maxPayload := ReqKind.fixedLength_le h
  cases k with
  | defineMotif | loadPlan => nomatch h
  | _ => simp [lengthFits, hle, h]

/-- A request of a fitting length that is refused on a link at rest changes nothing but the reply slot (R178). -/
theorem request_refused {s : State} {k : ReqKind} {tag : Octet} {p : List Octet} {st : Status} (h : s.atRest = true)
    (hl : lengthFits k p = true) (hc : carryOut k p s = refuse st s) :
    request k tag p s = .next (s.replied k tag [statusCode st]) := by
  obtain ⟨-, -, hr, -⟩ := (atRest_iff s).mp h
  exact request_atRest h hl hc hr

/-- An accepted request reads CLAMPED when a value was changed, and OK otherwise. -/
theorem statusCode_okOr (clamped : Bool) : statusCode (okOr clamped) = if clamped then 0x01 else 0x00 := by
  cases clamped <;> rfl

/-! ### SETUP ENTRY (R37, R38) -/

theorem exec_setupEntry (tag : Octet) (p : List Octet) (s : State) :
    exec (.setupEntry tag p) s = request .setupEntry tag p s := rfl

/-- A band limit that SETUP ENTRY takes (R37). -/
def InBand (n : Nat) : Prop := 10 ≤ n ∧ n ≤ 20000

/-- The structural checks of SETUP ENTRY, as R37's table lists them. -/
theorem EntrySettings.valid_iff (e : EntrySettings) :
    e.valid = true ↔ InBand e.nmin ∧ InBand e.nmax ∧ InBand e.cmin ∧ InBand e.cmax ∧ e.nmin ≤ e.nmax ∧
      e.cmin ≤ e.cmax ∧ e.nmax < e.cmin ∧ 1 ≤ e.missLimit ∧ e.missLimit ≤ 31 ∧ e.spliceOffset ≤ 200000 := by
  simp only [EntrySettings.valid, InBand, Bool.and_eq_true, decide_eq_true_eq, and_assoc]

/-- Clamping leaves the settings as given exactly when it leaves each of the three tuning values (R38). -/
theorem EntrySettings.clamped_eq_self_iff (e : EntrySettings) :
    e.clamped = e ↔ e.clamped.ewin = e.ewin ∧ e.clamped.guard = e.guard ∧ e.clamped.wakeTravel = e.wakeTravel := by
  cases e
  simp [EntrySettings.clamped]

theorem reqSetupEntry_busy {s : State} (h : s.job.state ≠ .none) (p : List Octet) :
    reqSetupEntry p s = refuse .busy s :=
  if_pos h

theorem reqSetupEntry_badValue {s : State} {p : List Octet} (h : s.job.state = .none)
    (hv : ¬ (entryFields p).valid = true) : reqSetupEntry p s = refuse .badValue s := by
  simp [reqSetupEntry, h, hv]

/-- The state after SETUP ENTRY took the settings `e`: M0's counts start again at 0 (R38). -/
def State.withEntry (s : State) (e : EntrySettings) : State :=
  { s with entry := e, m0 := { s.m0 with rejected := 0, stray := 0 } }

theorem reqSetupEntry_accepted {s : State} {p : List Octet} (h : s.job.state = .none)
    (hv : (entryFields p).valid = true) :
    reqSetupEntry p s = accept (okOr ((entryFields p).clamped != entryFields p))
      (entryOctets (entryFields p).clamped) (s.withEntry (entryFields p).clamped) := by
  simp [reqSetupEntry, h, hv, State.withEntry]

/-- The status of an accepted SETUP ENTRY is OK exactly when clamping left the three tuning values (R38). -/
theorem statusCode_setupEntry (e : EntrySettings) :
    statusCode (okOr (e.clamped != e)) = if e.clamped.ewin = e.ewin ∧ e.clamped.guard = e.guard ∧
      e.clamped.wakeTravel = e.wakeTravel then 0x00 else 0x01 := by
  simp only [statusCode_okOr, ← e.clamped_eq_self_iff, bne_iff_ne, ite_not]

end Sys2Proof.Machine

namespace Sys2Proof.Proofs

open Sys2Proof.Machine

/-- Settles O29, by R37's cases in their order: the job state, then the structural checks. -/
theorem setupEntryTakesTheValues : Obligations.SetupEntryTakesTheValues := by
  intro s tag p hrest hlen band valid ewin guard travel
  have hfits : lengthFits .setupEntry p = true := lengthFits_of_fixedLength (congrArg some hlen.symm)
  have hvalid : (entryFields p).valid = true ↔ valid := (entryFields p).valid_iff
  rw [exec_setupEntry]
  refine ⟨fun hjob => ?busy, fun hjob hbad => ?badValue, fun hjob hok => ?accepted⟩
  case busy => exact request_refused hrest hfits (reqSetupEntry_busy hjob p)
  case badValue => exact request_refused hrest hfits (reqSetupEntry_badValue hjob (mt hvalid.mp hbad))
  case accepted =>
    obtain ⟨-, -, hreset, -⟩ := (atRest_iff s).mp hrest
    have hrun := request_atRest (tag := tag) hrest hfits (reqSetupEntry_accepted hjob (hvalid.mpr hok)) hreset
    rw [statusCode_setupEntry] at hrun
    exact hrun

end Sys2Proof.Proofs
end

section
/-! The fields of a reply read back out of its octets, the layout of a label record as READ QUEUE carries it, and the
statement about READ QUEUE's reply (O18). -/

namespace Sys2Proof.Machine

/-! ### Lengths of the octet encodings (R192) -/

@[simp] theorem octets_length (n v : Nat) : (octets n v).length = n := by
  induction n generalizing v with
  | zero => rfl
  | succ n ih => simp [octets, ih]

@[simp] theorem signedOctets_length (n : Nat) (v : Int) : (signedOctets n v).length = n := octets_length n _

@[simp] theorem posOctets_length (p : Option Pos) : (posOctets p).length = 4 := by
  cases p <;> exact octets_length 4 _

/-- An octet of a request, read as a number and written back, is the octet itself. -/
theorem octets_one_toNat (o : Octet) : octets 1 o.toNat = [o] := by simp [octets]

/-! ### Fields of a payload put together from parts (section 10.4) -/

/-- A field that ends within the first part is a field of that part. -/
theorem field_append_of_le {a : List Octet} {i n : Nat} (h : i + n ≤ a.length) (b : List Octet) :
    field (a ++ b) i n = field a i n := by
  simp only [field]
  rw [List.drop_append_of_le_length (by omega), List.take_append_of_le_length (by simp; omega)]

/-- A field that starts past the first part is a field of the rest. -/
theorem field_append_of_ge {a : List Octet} {i : Nat} (h : a.length ≤ i) (b : List Octet) (n : Nat) :
    field (a ++ b) i n = field b (i - a.length) n := by
  simp [field, List.drop_append, List.drop_of_length_le h]

/-- The field that spans a whole part is the part. -/
theorem field_whole {a : List Octet} {n : Nat} (h : a.length = n) : field a 0 n = a := by
  simp [field, ← h]

/-- A field that lies within one of equally long blocks is a field of that block. -/
theorem field_flatMap {α : Type} {f : α → List Octet} {m : Nat} (hf : ∀ x, (f x).length = m) {i n : Nat}
    (hin : i + n ≤ m) {xs : List α} {j : Nat} {x : α} (hx : xs[j]? = some x) :
    field (xs.flatMap f) (m * j + i) n = field (f x) i n := by
  induction xs generalizing j with
  | nil => simp at hx
  | cons y ys ih =>
    rw [List.flatMap_cons]
    cases j with
    | zero =>
      obtain rfl : y = x := by simpa using hx
      rw [Nat.mul_zero, Nat.zero_add, field_append_of_le (by rw [hf]; exact hin)]
    | succ j =>
      have hrest : m * (j + 1) + i - m = m * j + i := by rw [Nat.mul_succ]; omega
      rw [field_append_of_ge (by rw [hf, Nat.mul_succ]; omega), hf, hrest]
      exact ih (by simpa using hx)

/-- Equally long blocks, one after the other. -/
theorem length_flatMap_of_length {α : Type} {f : α → List Octet} {m : Nat} (hf : ∀ x, (f x).length = m)
    (xs : List α) : (xs.flatMap f).length = m * xs.length := by
  simp [List.length_flatMap, hf, Nat.mul_comm]

/-! ### Visit summaries and records as READ QUEUE carries them (R64, R196) -/

/-- A strike point that is absent reads as 0 (R196). -/
theorem posOctets_eq (p : Option Pos) :
    posOctets p = match p with | some p => octets 4 p.toNat | none => List.replicate 4 0x00 := by
  cases p <;> rfl

/-- A register error that is absent reads as 0 (R196). -/
theorem signedOctets_getD_zero (e : Option Int) :
    signedOctets 4 (e.getD 0) = match e with | some e => signedOctets 4 e | none => List.replicate 4 0x00 := by
  cases e <;> rfl

/-- The flags of a record by their weights (R196). -/
theorem LabelRecord.flagBits_eq (r : LabelRecord) :
    r.flagBits = (if r.splice then 1 else 0) + (if r.excess then 2 else 0) + (if r.cycleMark then 4 else 0) := by
  simp [LabelRecord.flagBits, bitsToNat, Nat.mul_add, Nat.add_assoc]

/-- A visit summary is 15 octets (R196). -/
@[simp] theorem visitOctets_length (v : Option Visit) : (visitOctets v).length = 15 := by
  cases v <;> simp [visitOctets]

/-- The six fields of the summary of a visit (R196). -/
theorem field_visitOctets (v : Visit) :
    field (visitOctets (some v)) 0 1 =
      octets 1 (v.state.code + 4 * decisionCode v.decision + 16 * outcomeCode v.outcome + 128) ∧
    field (visitOctets (some v)) 1 1 =
      octets 1 (decisionReason v.decision + 16 * v.feeds.length + if v.error.isSome then 64 else 0) ∧
    field (visitOctets (some v)) 2 1 = octets 1 v.regFlags.bits ∧
    field (visitOctets (some v)) 3 4 = octets 4 v.expected.toNat ∧
    field (visitOctets (some v)) 7 4 = posOctets v.strikePt ∧
    field (visitOctets (some v)) 11 4 = signedOctets 4 (v.error.getD 0) := by
  simp [visitOctets, -List.append_assoc, field_append_of_le, field_append_of_ge, field_whole]

/-- The record part, ahead of the four visit summaries (R196). -/
def LabelRecord.headOctets (r : LabelRecord) : List Octet :=
  octets 2 r.seq.toNat ++ octets 1 r.plan ++ octets 1 r.slot ++ octets 1 r.motif ++ octets 2 r.pitch ++
  octets 4 r.entryPos.toNat ++ octets 1 r.origin.code ++ octets 1 r.flagBits

theorem recordOctets_eq (r : LabelRecord) :
    recordOctets r = r.headOctets ++ allStations.flatMap fun st => visitOctets (r.visit st) := rfl

@[simp] theorem LabelRecord.headOctets_length (r : LabelRecord) : r.headOctets.length = 13 := by
  simp [LabelRecord.headOctets]

/-- A record is 73 octets: the record part and four summaries (R196). -/
theorem recordOctets_length (r : LabelRecord) : (recordOctets r).length = 73 := by
  simp [recordOctets_eq, allStations]

/-- The record part stands first. -/
theorem field_recordOctets_head (r : LabelRecord) : field (recordOctets r) 0 13 = r.headOctets := by
  rw [recordOctets_eq, field_append_of_le (by simp), field_whole r.headOctets_length]

/-- The summaries follow it in station order. -/
theorem field_recordOctets_visit (r : LabelRecord) (st : StationId) :
    field (recordOctets r) (13 + 15 * (st.number - 1)) 15 = visitOctets (r.visit st) := by
  have hst : allStations[st.number - 1]? = some st := by cases st <;> rfl
  have hlen (st) : (visitOctets (r.visit st)).length = 15 := visitOctets_length (r.visit st)
  have hblock := field_flatMap hlen (i := 0) (n := 15) (Nat.le_refl 15) hst
  rw [recordOctets_eq, field_append_of_ge (by simp), r.headOctets_length, Nat.add_sub_cancel_left]
  exact hblock.trans (field_whole (hlen st))

/-! ### READ QUEUE (R63) -/

theorem exec_readQueue (tag : Octet) (p : List Octet) (s : State) :
    exec (.readQueue tag p) s = request .readQueue tag p s := rfl

/-- The records that READ QUEUE returns: at most 3 of those asked for, from the start position on (R63). -/
def State.queueSlice (s : State) (start n : Octet) : List LabelRecord :=
  (s.queue.drop start.toNat).take (min 3 n.toNat)

theorem State.queueSlice_length (s : State) (start n : Octet) :
    (s.queueSlice start n).length = min (min 3 n.toNat) (s.queue.length - start.toNat) := by
  simp [State.queueSlice]

theorem State.queueSlice_getElem? (s : State) (start : Octet) {n : Octet} {j : Nat} (hj : j < min 3 n.toNat) :
    (s.queueSlice start n)[j]? = s.queue[start.toNat + j]? := by
  rw [State.queueSlice, List.getElem?_take_of_lt hj, List.getElem?_drop]

/-- The status and the counts, ahead of the records (R63). -/
def State.queueHeader (s : State) (start n : Octet) : List Octet :=
  [0x00] ++ octets 2 s.queue.length ++ [start] ++ octets 1 (s.queueSlice start n).length

/-- The payload of an accepted READ QUEUE (R63, R196). -/
def State.queueReply (s : State) (start n : Octet) : List Octet :=
  s.queueHeader start n ++ (s.queueSlice start n).flatMap recordOctets

theorem reqReadQueue_badValue {n : Octet} (h : n.toNat < 1 ∨ 8 < n.toNat) (start : Octet) (s : State) :
    reqReadQueue [start, n] s = refuse .badValue s :=
  if_pos h

theorem reqReadQueue_accepted {n : Octet} (h : ¬ (n.toNat < 1 ∨ 8 < n.toNat)) (start : Octet) (s : State) :
    reqReadQueue [start, n] s = (s.queueReply start n, s) := by
  have hrun : reqReadQueue [start, n] s = accept .ok (octets 2 s.queue.length ++ octets 1 start.toNat ++
      octets 1 (s.queueSlice start n).length ++ (s.queueSlice start n).flatMap recordOctets) s := if_neg h
  rw [hrun, octets_one_toNat]
  simp [accept, statusCode, State.queueReply, State.queueHeader]

@[simp] theorem State.queueHeader_length (s : State) (start n : Octet) : (s.queueHeader start n).length = 5 := by
  simp [State.queueHeader]

theorem State.queueReply_length (s : State) (start n : Octet) :
    (s.queueReply start n).length = 5 + 73 * (s.queueSlice start n).length := by
  simp [State.queueReply, length_flatMap_of_length recordOctets_length]

theorem State.field_queueReply_header (s : State) (start n : Octet) :
    field (s.queueReply start n) 0 5 = s.queueHeader start n := by
  rw [State.queueReply, field_append_of_le (by simp), field_whole (s.queueHeader_length start n)]

/-- A field of the record at place `j` of the reply is that field of the record's octets. -/
theorem State.field_queueReply_record {s : State} {start n : Octet} {j i k : Nat} {r : LabelRecord}
    (hr : (s.queueSlice start n)[j]? = some r) (hik : i + k ≤ 73) :
    field (s.queueReply start n) (5 + 73 * j + i) k = field (recordOctets r) i k := by
  rw [State.queueReply, field_append_of_ge (by simp; omega), s.queueHeader_length, Nat.add_assoc,
    Nat.add_sub_cancel_left]
  exact field_flatMap recordOctets_length hik hr

end Sys2Proof.Machine

namespace Sys2Proof.Proofs

open Sys2Proof.Machine

/-- Settles O18: each field asked for is a field of the reply's header, of a record's head or of a visit summary. -/
theorem readQueueReply : Obligations.ReadQueueReply := by
  intro s tag start n hrest
  have hfits : lengthFits .readQueue [start, n] = true := lengthFits_of_fixedLength rfl
  rw [exec_readQueue]
  refine ⟨fun hbad => request_refused hrest hfits (reqReadQueue_badValue hbad start s), fun hlow hhigh => ?_⟩
  obtain ⟨-, -, hreset, -⟩ := (atRest_iff s).mp hrest
  have hrun := reqReadQueue_accepted (n := n) (by omega) start s
  refine ⟨s.queueReply start n, request_atRest hrest hfits hrun hreset, ?header, ?length, fun j r hj hr => ?record⟩
  case header => rw [s.field_queueReply_header, State.queueHeader, s.queueSlice_length]
  case length => rw [s.queueReply_length, s.queueSlice_length]
  case record =>
    have hslice : (s.queueSlice start n)[j]? = some r := (s.queueSlice_getElem? start hj).trans hr
    refine ⟨?head, fun st => ?summary⟩
    case head =>
      have hhead := State.field_queueReply_record (i := 0) (k := 13) hslice (by decide)
      rw [Nat.add_zero, field_recordOctets_head, LabelRecord.headOctets, r.flagBits_eq] at hhead
      exact hhead
    case summary =>
      have hplace : 13 + 15 * (st.number - 1) + 15 ≤ 73 := by cases st <;> decide
      have hsummary := State.field_queueReply_record hslice hplace
      rw [field_recordOctets_visit, ← Nat.add_assoc] at hsummary
      intro summary
      have hvisit : summary = visitOctets (r.visit st) := hsummary
      refine ⟨fun hnone => by rw [hvisit, hnone]; rfl, fun v hv _ => ?fields⟩
      case fields =>
        rw [hvisit, hv]
        obtain ⟨hcodes, hreason, hflags, hexpected, hstrike, herror⟩ := field_visitOctets v
        exact ⟨hcodes, hreason, hflags, hexpected, hstrike.trans (posOctets_eq _),
          herror.trans (signedOctets_getD_zero _)⟩

end Sys2Proof.Proofs
end

section
/-! Accepted requests that leave the link alone, the return of a stopped job to ARMED, and the statement about EXTEND
BATCH (O28). -/

namespace Sys2Proof.Machine

/-! ### Accepted requests (R177, R193) -/

/-- An accepted request of a fitting length that leaves the link alone, on a link at rest, answers its state with the
reply placed. -/
theorem request_accepted {s s' : State} {k : ReqKind} {tag : Octet} {p body : List Octet} {st : Status}
    (h : s.atRest = true) (hl : lengthFits k p = true) (hc : carryOut k p s = accept st body s')
    (hlink : s'.link = s.link) : request k tag p s = .next (s'.replied k tag (statusCode st :: body)) := by
  obtain ⟨-, -, hreset, -⟩ := (atRest_iff s).mp h
  exact request_atRest h hl hc (by rw [hlink, hreset])

/-! ### EXTEND BATCH (R169) -/

theorem exec_extendBatch (tag : Octet) (p : List Octet) (s : State) :
    exec (.extendBatch tag p) s = request .extendBatch tag p s := rfl

/-- The job has stopped admitting: it is DRAINING or ENDED. -/
abbrev JobStore.Stopped (j : JobStore) : Prop := j.state = .draining ∨ j.state = .ended

/-- A stopped job whose target exceeds the admitted count, which EXTEND BATCH returns to ARMED (R169). -/
abbrev JobStore.Rearms (j : JobStore) : Prop := j.Stopped ∧ j.admitted < j.target

/-- A stopped job whose target exceeds the admitted count is ARMED again; a tracker in OFF then enters SEARCH. -/
theorem rearm_eq (s : State) :
    rearm s = { s with
      job := { s.job with state := if s.job.Rearms then .armed else s.job.state
                          endReason := if s.job.Rearms then none else s.job.endReason }
      tracker := if s.job.Rearms ∧ s.tracker.state = .off then s.tracker.enterSearch else s.tracker } := by
  by_cases hjob : s.job.Rearms
  · by_cases htracker : s.tracker.state = .off <;> simp [rearm, hjob, htracker, enterSearch]
  · simp [rearm, hjob]

/-- An extension that EXTEND BATCH takes (R169). -/
def InExtension (n : Nat) : Prop := 1 ≤ n ∧ n ≤ 1000000

theorem not_inExtension_iff (n : Nat) : ¬ InExtension n ↔ n < 1 ∨ 1000000 < n := by
  unfold InExtension
  omega

section
variable {p : List Octet} {s : State}

theorem reqExtendBatch_outOfRange (h : ¬ InExtension (u32 p 0)) : reqExtendBatch p s = refuse .badValue s :=
  if_pos ((not_inExtension_iff _).mp h)

/-- With an extension in range the job state and the target are tested next. -/
theorem reqExtendBatch_inRange (h : InExtension (u32 p 0)) :
    reqExtendBatch p s =
      if s.job.state = .none then refuse .notReady s
      else if s.job.target = 0 then refuse .badValue s
      else if s.job.Stopped ∧ s.job.endReason ≠ some .batch then refuse .notReady s
      else
        let s' := rearm { s with job := { s.job with target := min 1000000 (s.job.target + u32 p 0) } }
        accept (okOr (decide (1000000 < s.job.target + u32 p 0)))
          (octets 4 s'.job.target ++ octets 4 s'.job.admitted ++ octets 1 s'.job.state.code) s' :=
  if_neg (mt (not_inExtension_iff _).mpr (not_not_intro h))

theorem reqExtendBatch_noJob (h : InExtension (u32 p 0)) (hjob : s.job.state = .none) :
    reqExtendBatch p s = refuse .notReady s :=
  (reqExtendBatch_inRange h).trans (if_pos hjob)

theorem reqExtendBatch_noBatch (h : InExtension (u32 p 0)) (hjob : s.job.state ≠ .none) (htarget : s.job.target = 0) :
    reqExtendBatch p s = refuse .badValue s := by
  rw [reqExtendBatch_inRange h, if_neg hjob, if_pos htarget]

theorem reqExtendBatch_endedOtherwise (h : InExtension (u32 p 0)) (htarget : s.job.target ≠ 0)
    (hstopped : s.job.Stopped) (hreason : s.job.endReason ≠ some .batch) :
    reqExtendBatch p s = refuse .notReady s := by
  have hjob : s.job.state ≠ .none := by rcases hstopped with h | h <;> simp [h]
  rw [reqExtendBatch_inRange h, if_neg hjob, if_neg htarget, if_pos ⟨hstopped, hreason⟩]

theorem reqExtendBatch_accepted (h : InExtension (u32 p 0)) (hjob : s.job.state ≠ .none) (htarget : s.job.target ≠ 0)
    (hreason : s.job.Stopped → s.job.endReason = some .batch) :
    reqExtendBatch p s =
      let s' := rearm { s with job := { s.job with target := min 1000000 (s.job.target + u32 p 0) } }
      accept (okOr (decide (1000000 < s.job.target + u32 p 0)))
        (octets 4 s'.job.target ++ octets 4 s'.job.admitted ++ octets 1 s'.job.state.code) s' := by
  rw [reqExtendBatch_inRange h, if_neg hjob, if_neg htarget, if_neg fun hstop => hstop.2 (hreason hstop.1)]

end

end Sys2Proof.Machine

namespace Sys2Proof.Proofs

open Sys2Proof.Machine

/-- Settles O28, by R169's refusals in their order; an accepted request raises the target and then rearms. -/
theorem extendBatchRaisesTheTarget : Obligations.ExtendBatchRaisesTheTarget := by
  intro s tag a b c d hrest n out stopped
  have hfits : lengthFits .extendBatch [a, b, c, d] = true := lengthFits_of_fixedLength rfl
  have hout : out = request .extendBatch tag [a, b, c, d] s := exec_extendBatch tag _ s
  rw [hout]
  refine ⟨fun hbad => ?outOfRange, fun hlow hhigh hjob => ?noJob, fun hlow hhigh hjob htarget => ?noBatch,
    fun hlow hhigh htarget hstop hreason => ?endedOtherwise, fun hlow hhigh htarget hjob hreason => ?accepted⟩
  case outOfRange => exact request_refused hrest hfits (reqExtendBatch_outOfRange ((not_inExtension_iff n).mpr hbad))
  case noJob => exact request_refused hrest hfits (reqExtendBatch_noJob ⟨hlow, hhigh⟩ hjob)
  case noBatch => exact request_refused hrest hfits (reqExtendBatch_noBatch ⟨hlow, hhigh⟩ hjob htarget)
  case endedOtherwise =>
    exact request_refused hrest hfits (reqExtendBatch_endedOtherwise ⟨hlow, hhigh⟩ htarget hstop hreason)
  case accepted =>
    have hrun := request_accepted (tag := tag) hrest hfits
      (reqExtendBatch_accepted ⟨hlow, hhigh⟩ hjob htarget hreason) (by rw [rearm_eq])
    simp only [rearm_eq, statusCode_okOr, decide_eq_true_eq, apply_ite JobState.code] at hrun
    exact hrun

end Sys2Proof.Proofs
end

section
/-! The plan that a LOAD PLAN payload carries, and the statement about LOAD PLAN and DROP PLAN (O24). -/

namespace Sys2Proof.Machine

/-! ### The plan of a payload (R159, section 10.4) -/

/-- An octet field of a payload is at most 255. -/
theorem u8_le (p : List Octet) (i : Nat) : u8 p i ≤ 255 := Nat.le_of_lt_succ (BitVec.isLt _)

/-- The slots of a payload from an offset on: three octets each, one after the other. -/
theorem readSlots_eq (p : List Octet) (n i : Nat) :
    readSlots p n i = (List.range n).map fun j => { pitch := u16 p (i + 3 * j), motif := u8 p (i + 2 + 3 * j) } := by
  induction n generalizing i with
  | zero => rfl
  | succ n ih =>
    have hpitch (j : Nat) : i + 3 + 3 * j = i + 3 * (j + 1) := by omega
    have hmotif (j : Nat) : i + 3 + 2 + 3 * j = i + 2 + 3 * (j + 1) := by omega
    simp [readSlots, ih, List.range_succ_eq_map, hpitch, hmotif]

/-- The plan of a payload whose sync names a code. -/
def payloadPlan (p : List Octet) : Plan :=
  { id := u8 p 0, sync := if u8 p 1 = 0 then .cycle else .any, target := u32 p 2
    slots := (List.range (u8 p 6)).map fun j => { pitch := u16 p (7 + 3 * j), motif := u8 p (9 + 3 * j) } }

@[simp] theorem payloadPlan_slots_length (p : List Octet) : (payloadPlan p).slots.length = u8 p 6 := by
  simp [payloadPlan]

/-- Sync 0 and 1 are the two codes (R158, R192). -/
theorem planFields_eq (p : List Octet) : planFields p = if u8 p 1 ≤ 1 then some (payloadPlan p) else none := by
  have hsync : syncOf (u8 p 1) = if u8 p 1 ≤ 1 then some (if u8 p 1 = 0 then .cycle else .any) else none := by
    rcases u8 p 1 with _ | _ | k <;> simp [syncOf]
  by_cases h : u8 p 1 ≤ 1 <;> simp [planFields, hsync, h, payloadPlan, readSlots_eq]

/-- The ranges of a plan's values, as R159 lists them. -/
theorem Plan.valid_iff (p : Plan) :
    p.valid = true ↔ 1 ≤ p.id ∧ p.id ≤ 255 ∧ p.target ≤ 1000000 ∧ 1 ≤ p.slots.length ∧ p.slots.length ≤ 8 ∧
      ∀ t ∈ p.slots, 2000 ≤ t.pitch ∧ t.pitch ≤ 65000 ∧ t.motif < Config.motifCount := by
  simp only [Plan.valid, Bool.and_eq_true, List.all_eq_true, decide_eq_true_eq, and_assoc]

theorem State.motifsValid_iff (s : State) (p : Plan) :
    s.motifsValid p = true ↔ ∀ t ∈ p.slots, (s.motif t.motif).valid = true := by
  simp [State.motifsValid]

/-! ### LOAD PLAN and DROP PLAN (R159, R160) -/

theorem exec_loadPlan (tag : Octet) (p : List Octet) (s : State) :
    exec (.loadPlan tag p) s = request .loadPlan tag p s := rfl

theorem exec_dropPlan (tag : Octet) (p : List Octet) (s : State) :
    exec (.dropPlan tag p) s = request .dropPlan tag p s := rfl

theorem lengthFits_loadPlan {p : List Octet} (hmax : p.length ≤ 248) (hmin : 7 ≤ p.length)
    (hlen : p.length = 7 + 3 * u8 p 6) : lengthFits .loadPlan p = true := by
  have hframe : p.length ≤ Config.maxPayload := hmax
  simp only [lengthFits, Bool.and_eq_true, decide_eq_true_eq]
  exact ⟨hframe, hmin, hlen⟩

/-- The payload's values are ones LOAD PLAN takes: a sync code, a plan in range, and its motifs valid (R159). -/
def State.Takes (s : State) (p : List Octet) : Prop :=
  u8 p 1 ≤ 1 ∧ (payloadPlan p).valid = true ∧ s.motifsValid (payloadPlan p) = true

/-- The tests of LOAD PLAN on the fields of the payload. -/
theorem State.takes_iff (s : State) (p : List Octet) :
    s.Takes p ↔ 1 ≤ u8 p 0 ∧ u8 p 1 ≤ 1 ∧ u32 p 2 ≤ 1000000 ∧ 1 ≤ u8 p 6 ∧ u8 p 6 ≤ 8 ∧
      ∀ t ∈ (payloadPlan p).slots,
        2000 ≤ t.pitch ∧ t.pitch ≤ 65000 ∧ t.motif ≤ 15 ∧ (s.motif t.motif).valid = true := by
  have hcount (n : Nat) : n < Config.motifCount ↔ n ≤ 15 := Nat.lt_succ_iff
  have hid : (payloadPlan p).id = u8 p 0 := rfl
  have htarget : (payloadPlan p).target = u32 p 2 := rfl
  simp only [State.Takes, Plan.valid_iff, s.motifsValid_iff, hcount, hid, htarget, payloadPlan_slots_length, u8_le]
  simp only [imp_and, forall_and]
  tauto

/-- The state with the pending buffer replaced (R159, R160). -/
def State.withBuffer (s : State) (b : PlanBuffer) : State := { s with job := { s.job with buffer := b } }

theorem reqLoadPlan_busy {s : State} (h : s.planReady = true) (p : List Octet) :
    reqLoadPlan p s = refuse .busy s :=
  if_pos h

theorem reqLoadPlan_badValue {s : State} {p : List Octet} (h : s.planReady = false) (hbad : ¬ s.Takes p) :
    reqLoadPlan p s = refuse .badValue s := by
  by_cases hsync : u8 p 1 ≤ 1
  · have hplan : (payloadPlan p).valid = false ∨ s.motifsValid (payloadPlan p) = false := by
      by_contra hgood
      simp only [not_or, Bool.not_eq_false] at hgood
      exact hbad ⟨hsync, hgood⟩
    simp [reqLoadPlan, h, planFields_eq, hsync, hplan]
  · simp [reqLoadPlan, h, planFields_eq, hsync]

theorem reqLoadPlan_accepted {s : State} {p : List Octet} (h : s.planReady = false) (hgood : s.Takes p) :
    reqLoadPlan p s = accept .ok (octets 1 1 ++ octets 1 (u8 p 0)) (s.withBuffer (.loaded (payloadPlan p))) := by
  obtain ⟨hsync, hvalid, hmotifs⟩ := hgood
  have hrun : reqLoadPlan p s = accept .ok (bufferReply (s.withBuffer (.loaded (payloadPlan p))))
      (s.withBuffer (.loaded (payloadPlan p))) := by
    simp [reqLoadPlan, h, planFields_eq, hsync, hvalid, hmotifs, State.withBuffer]
  exact hrun

theorem reqDropPlan_eq (s : State) : reqDropPlan s = accept .ok [0x00] (s.withBuffer .empty) := rfl

end Sys2Proof.Machine

namespace Sys2Proof.Proofs

open Sys2Proof.Machine

/-- Settles O24, by R159's cases in their order: a READY plan, then the values of the payload's plan. -/
theorem loadAndDropPlan : Obligations.LoadAndDropPlan := by
  intro s tag p hrest hmax hmin hlen slots inRange
  have hfits : lengthFits .loadPlan p = true := lengthFits_loadPlan hmax hmin hlen
  have htakes : s.Takes p ↔ inRange := s.takes_iff p
  rw [exec_loadPlan, exec_dropPlan]
  refine ⟨fun hready => ?busy, fun hready hbad => ?badValue, fun hready hgood => ?loaded, ?dropped⟩
  case busy => exact request_refused hrest hfits (reqLoadPlan_busy hready p)
  case badValue => exact request_refused hrest hfits (reqLoadPlan_badValue hready (mt htakes.mp hbad))
  case loaded => exact request_accepted hrest hfits (reqLoadPlan_accepted hready (htakes.mpr hgood)) rfl
  case dropped =>
    have hnone : lengthFits .dropPlan [] = true := lengthFits_of_fixedLength rfl
    exact request_accepted hrest hnone (reqDropPlan_eq s) rfl

end Sys2Proof.Proofs
end

section
/-! The motif table: its locks, its octets, its replies, and the statement about READ MOTIF and CLEAR MOTIF (O22). -/

namespace Sys2Proof.Machine

/-! ### Locks (R157) -/

theorem refersTo_eq_placeNames (place : Option Plan) (n : Nat) : refersTo place n = placeNames place n := by
  cases place <;> rfl

theorem pendingPlan_eq_plan (s : State) : pendingPlan s = s.job.buffer.plan := by
  unfold pendingPlan PlanBuffer.plan
  cases s.job.buffer <;> rfl

/-- The holders, in the order of their bits. -/
theorem State.holders_eq (s : State) (n : Nat) :
    s.holders n = [refersTo s.job.active n, refersTo (pendingPlan s) n, refersTo s.job.draining n,
      s.queue.any fun r => r.motif == n] := by
  simp only [State.holders, refersTo_eq_placeNames, pendingPlan_eq_plan]

theorem State.locked_eq_motifLocked (s : State) (n : Nat) : s.locked n = motifLocked s n := by
  simp [State.locked, State.holders_eq, motifLocked, Bool.or_assoc]

/-! ### Octets of an entry (section 10.4) -/

/-- One octet of four flags, by their weights (R192). -/
theorem bitsToNat_four (a b c d : Bool) :
    bitsToNat [a, b, c, d] =
      (if a then 1 else 0) + (if b then 2 else 0) + (if c then 4 else 0) + (if d then 8 else 0) := by
  simp [bitsToNat, Nat.mul_add, Nat.add_assoc]

/-- A lane group is its count and four octets for each segment. -/
theorem groupOctets_length (gs : List Segment) : (groupOctets gs).length = 1 + 4 * gs.length := by
  have hsegment (g : Segment) : (octets 2 g.offset ++ octets 2 g.length).length = 4 := by simp
  simp [groupOctets, length_flatMap_of_length hsegment]

/-- The six lane groups of an entry. -/
theorem length_flatMap_groupOctets (segments : PerLane (List Segment)) :
    (allLanes.flatMap fun l => groupOctets (segments.get l)).length =
      6 + 4 * (allLanes.map fun l => (segments.get l).length).sum := by
  simp only [allLanes, List.flatMap_cons, List.flatMap_nil, List.map_cons, List.map_nil, List.length_append,
    groupOctets_length, List.sum_cons, List.sum_nil, List.length_nil]
  omega

/-! ### One entry replaced (R155, R156) -/

/-- Motif numbers go from 0 to 15. -/
theorem not_motifCount_le {n : Nat} (h : n ≤ 15) : ¬ Config.motifCount ≤ n :=
  Nat.not_le.mpr (Nat.lt_succ_of_le h)

/-- The entry of a motif number within the table is the one just written. -/
theorem motif_setMotif {n : Nat} (h : n ≤ 15) (m : Motif) (s : State) : (setMotif n m s).motif n = m := by
  have hn : n < 16 := by omega
  simp [State.motif, setMotif, hn]

/-- The reply after an entry is written: the number and the entry's valid flag. -/
theorem motifReply_setMotif {n : Octet} (h : n.toNat ≤ 15) (m : Motif) (s : State) :
    motifReply n.toNat (setMotif n.toNat m s) = [n, if m.valid then 1 else 0] := by
  rw [motifReply, motif_setMotif h, octets_one_toNat]
  rfl

/-! ### READ MOTIF and CLEAR MOTIF (R156) -/

theorem exec_readMotif (tag : Octet) (p : List Octet) (s : State) :
    exec (.readMotif tag p) s = request .readMotif tag p s := rfl

theorem exec_clearMotif (tag : Octet) (p : List Octet) (s : State) :
    exec (.clearMotif tag p) s = request .clearMotif tag p s := rfl

/-- The payload of an accepted READ MOTIF (R156). -/
def State.motifPayload (s : State) (n : Octet) : List Octet :=
  [0x00, n, if (s.motif n.toNat).valid then 1 else 0] ++ octets 1 (maskBits (s.motif n.toNat).mask) ++
    octets 1 (bitsToNat (s.holders n.toNat)) ++
    allLanes.flatMap fun l => groupOctets ((s.motif n.toNat).segments.get l)

section
variable {n : Octet}

theorem reqReadMotif_badValue (h : 15 < n.toNat) (s : State) : reqReadMotif [n] s = refuse .badValue s :=
  if_pos h

theorem reqClearMotif_badValue (h : 15 < n.toNat) (s : State) : reqClearMotif [n] s = refuse .badValue s :=
  if_pos h

theorem reqReadMotif_accepted (h : n.toNat ≤ 15) (s : State) :
    reqReadMotif [n] s = (s.motifPayload n, s) := by
  have hrun : reqReadMotif [n] s = accept .ok
      (octets 1 n.toNat ++ flagOctet (s.motif n.toNat).valid ++ octets 1 (maskBits (s.motif n.toNat).mask) ++
        octets 1 (bitsToNat (s.holders n.toNat)) ++
        allLanes.flatMap fun l => groupOctets ((s.motif n.toNat).segments.get l)) s := if_neg (not_motifCount_le h)
  rw [hrun, octets_one_toNat]
  rfl

theorem reqClearMotif_inUse {s : State} (h : n.toNat ≤ 15) (hlock : motifLocked s n.toNat = true) :
    reqClearMotif [n] s = refuse .inUse s :=
  (if_neg (not_motifCount_le h)).trans (if_pos ((s.locked_eq_motifLocked _).trans hlock))

theorem reqClearMotif_accepted {s : State} (h : n.toNat ≤ 15) (hlock : motifLocked s n.toNat = false) :
    reqClearMotif [n] s = accept .ok [n, 0x00] (setMotif n.toNat Motif.empty s) := by
  have hfree : ¬ s.locked n.toNat = true := by simp [s.locked_eq_motifLocked, hlock]
  have hrun : reqClearMotif [n] s = accept .ok (motifReply n.toNat (setMotif n.toNat Motif.empty s))
      (setMotif n.toNat Motif.empty s) := (if_neg (not_motifCount_le h)).trans (if_neg hfree)
  rw [hrun, motifReply_setMotif h]
  rfl

end

/-- The fields of READ MOTIF's reply, and its length (section 10.4). -/
theorem State.field_motifPayload (s : State) (n : Octet) :
    field (s.motifPayload n) 0 3 = [0x00, n, if (s.motif n.toNat).valid then 1 else 0] ∧
    field (s.motifPayload n) 3 1 = octets 1 (maskBits (s.motif n.toNat).mask) ∧
    field (s.motifPayload n) 4 1 = octets 1 (bitsToNat (s.holders n.toNat)) ∧
    (s.motifPayload n).drop 5 = allLanes.flatMap fun l => groupOctets ((s.motif n.toNat).segments.get l) :=
  ⟨rfl, rfl, rfl, rfl⟩

theorem State.motifPayload_length (s : State) (n : Octet) :
    (s.motifPayload n).length = 11 + 4 * (allLanes.map fun l => ((s.motif n.toNat).segments.get l).length).sum := by
  rw [State.motifPayload, List.length_append, length_flatMap_groupOctets]
  simp only [List.length_append, octets_length, List.length_cons, List.length_nil]
  omega

end Sys2Proof.Machine

namespace Sys2Proof.Proofs

open Sys2Proof.Machine

/-- Settles O22: both requests test the number, CLEAR MOTIF then the lock (R156). -/
theorem readAndClearMotif : Obligations.ReadAndClearMotif := by
  intro s tag n hrest
  have hread : lengthFits .readMotif [n] = true := lengthFits_of_fixedLength rfl
  have hclear : lengthFits .clearMotif [n] = true := lengthFits_of_fixedLength rfl
  rw [exec_readMotif, exec_clearMotif]
  refine ⟨fun hbad => ⟨request_refused hrest hread (reqReadMotif_badValue hbad s),
    request_refused hrest hclear (reqClearMotif_badValue hbad s)⟩,
    fun hn => ⟨⟨s.motifPayload n, ?reads, ?fields⟩, fun hlock => ?inUse, fun hfree => ?cleared⟩⟩
  case reads =>
    obtain ⟨-, -, hreset, -⟩ := (atRest_iff s).mp hrest
    exact request_atRest hrest hread (reqReadMotif_accepted hn s) hreset
  case fields =>
    obtain ⟨hentry, hmask, hholders, hgroups⟩ := s.field_motifPayload n
    rw [maskBits, bitsToNat_four] at hmask
    rw [s.holders_eq, bitsToNat_four] at hholders
    exact ⟨hentry, hmask, hgroups, hholders, s.motifPayload_length n⟩
  case inUse => exact request_refused hrest hclear (reqClearMotif_inUse hn hlock)
  case cleared => exact request_accepted hrest hclear (reqClearMotif_accepted hn hfree) rfl

end Sys2Proof.Proofs
end

section
/-! Lane groups read back out of a payload, the segment lists R155 accepts, and the statement about DEFINE MOTIF
(O23). -/

namespace Sys2Proof.Machine

/-! ### Two-octet fields written and read (R192) -/

/-- A number below 65,536, written as two octets and read back. -/
theorem exists_octets_two {v : Nat} (h : v ≤ 65535) : ∃ a b, octets 2 v = [a, b] ∧ u16 [a, b] 0 = v := by
  refine ⟨_, _, rfl, ?_⟩
  simp only [u16, u8, List.getD_cons_zero, List.getD_cons_succ, BitVec.toNat_ofNat]
  omega

/-! ### Lane groups (R191, section 10.4) -/

/-- A segment whose two values fit their fields. -/
def Segment.Encodable (g : Segment) : Prop := g.offset ≤ 65535 ∧ g.length ≤ 65535

/-- Segments are read back as they were written, and the octets after them are left. -/
theorem readSegments_flatMap {gs : List Segment} (h : ∀ g ∈ gs, g.Encodable) (rest : List Octet) :
    readSegments gs.length ((gs.flatMap fun g => octets 2 g.offset ++ octets 2 g.length) ++ rest) =
      some (gs, rest) := by
  induction gs with
  | nil => rfl
  | cons g gs ih =>
    obtain ⟨⟨hoffset, hlength⟩, hrest⟩ := List.forall_mem_cons.mp h
    obtain ⟨a, b, hab, hoff⟩ := exists_octets_two hoffset
    obtain ⟨c, d, hcd, hlen⟩ := exists_octets_two hlength
    simp [readSegments, hab, hcd, hoff, hlen, -List.append_assoc, ih hrest]

/-- A lane group whose count and values fit their fields. -/
def EncodableGroup (gs : List Segment) : Prop := gs.length ≤ 255 ∧ ∀ g ∈ gs, g.Encodable

/-- A count octet at the front says how many segments the first group holds. -/
theorem readGroups_groupOctets_append {gs : List Segment} (h : EncodableGroup gs) (n : Nat) (rest : List Octet) :
    readGroups (n + 1) (groupOctets gs ++ rest) = (readGroups n rest).map (gs :: ·) := by
  obtain ⟨hcount, hgs⟩ := h
  have hread : (BitVec.ofNat 8 gs.length).toNat = gs.length := Nat.mod_eq_of_lt (by omega)
  have hfront : groupOctets gs ++ rest = BitVec.ofNat 8 gs.length ::
      ((gs.flatMap fun g => octets 2 g.offset ++ octets 2 g.length) ++ rest) := rfl
  rw [hfront, readGroups, hread, readSegments_flatMap hgs]
  dsimp only
  cases readGroups n rest <;> rfl

/-- A list of lane groups is read back as it was written. -/
theorem readGroups_flatMap {groups : List (List Segment)} (h : ∀ gs ∈ groups, EncodableGroup gs) :
    readGroups groups.length (groups.flatMap groupOctets) = some groups := by
  induction groups with
  | nil => rfl
  | cons gs groups ih =>
    obtain ⟨hgs, hrest⟩ := List.forall_mem_cons.mp h
    rw [List.flatMap_cons, List.length_cons, readGroups_groupOctets_append hgs, ih hrest]
    rfl

/-- Groups that a frame carries have counts that fit their octets. -/
theorem encodableGroup_of_payload {groups : List (List Segment)} (hlen : (groups.flatMap groupOctets).length ≤ 246)
    (hvalues : ∀ gs ∈ groups, ∀ g ∈ gs, g.Encodable) : ∀ gs ∈ groups, EncodableGroup gs := by
  intro gs hgs
  refine ⟨?_, hvalues gs hgs⟩
  have hpart : (groupOctets gs).length ≤ (groups.flatMap groupOctets).length := by
    rw [List.length_flatMap]
    exact List.le_sum_of_mem (List.mem_map_of_mem hgs)
  rw [groupOctets_length] at hpart
  omega

/-! ### Segment lists that R155 accepts -/

/-- At most 4 segments in range, sorted without overlap (R154, R155). -/
def GoodSegments (gs : List Segment) : Prop :=
  gs.length ≤ 4 ∧ (∀ g ∈ gs, g.offset ≤ 65000 ∧ 50 ≤ g.length ∧ g.length ≤ 65000) ∧
    ∀ (j : Nat) (g h : Segment), gs[j]? = some g → gs[j + 1]? = some h → g.offset + g.length ≤ h.offset

theorem Segment.valid_iff (g : Segment) :
    g.valid = true ↔ g.offset ≤ 65000 ∧ 50 ≤ g.length ∧ g.length ≤ 65000 := by
  simp only [Segment.valid, Bool.and_eq_true, decide_eq_true_eq, and_assoc]

/-- Sorted without overlap: each segment ends by the start of the next. -/
theorem sortedSegments_iff (gs : List Segment) :
    sortedSegments gs = true ↔
      ∀ (j : Nat) (g h : Segment), gs[j]? = some g → gs[j + 1]? = some h → g.offset + g.length ≤ h.offset := by
  induction gs with
  | nil => simp [sortedSegments]
  | cons a rest ih =>
    cases rest with
    | nil => simp [sortedSegments]
    | cons b rest =>
      rw [sortedSegments, Bool.and_eq_true, decide_eq_true_eq, ih]
      constructor
      · rintro ⟨hfirst, hrest⟩ (_ | j) g h hg hh
        · cases hg
          cases hh
          exact hfirst
        · exact hrest j g h hg hh
      · exact fun hall => ⟨hall 0 a b rfl rfl, fun j => hall (j + 1)⟩

theorem validSegments_iff (gs : List Segment) : validSegments gs = true ↔ GoodSegments gs := by
  simp only [validSegments, GoodSegments, Bool.and_eq_true, decide_eq_true_eq, List.all_eq_true, Segment.valid_iff,
    sortedSegments_iff, and_assoc]

/-- Every lane's list is one R155 accepts. -/
theorem all_validSegments_iff (a b c d e f : List Segment) :
    (allLanes.all fun l => validSegments (PerLane.get ⟨a, b, c, d, e, f⟩ l)) = true ↔
      ∀ gs ∈ [a, b, c, d, e, f], GoodSegments gs := by
  simp only [← validSegments_iff, ← List.all_eq_true]
  rfl

/-! ### DEFINE MOTIF (R155) -/

theorem exec_defineMotif (tag : Octet) (p : List Octet) (s : State) :
    exec (.defineMotif tag p) s = request .defineMotif tag p s := rfl

/-- The payload of a DEFINE MOTIF: the number, the mask and the lane groups. -/
def motifDefinition (n mask : Octet) (groups : List (List Segment)) : List Octet :=
  n :: mask :: groups.flatMap groupOctets

/-- The lists of a payload are the six that were written. -/
theorem motifGroups_motifDefinition {a b c d e f : List Segment}
    (h : ∀ gs ∈ [a, b, c, d, e, f], EncodableGroup gs) (n mask : Octet) :
    motifGroups (motifDefinition n mask [a, b, c, d, e, f]) = some ⟨a, b, c, d, e, f⟩ := by
  have hread : readGroups 6 ([a, b, c, d, e, f].flatMap groupOctets) = some [a, b, c, d, e, f] := readGroups_flatMap h
  rw [motifDefinition, motifGroups, hread]

theorem lengthFits_motifDefinition {n mask : Octet} {groups : List (List Segment)} {segments : PerLane (List Segment)}
    (hlen : (groups.flatMap groupOctets).length ≤ 246)
    (hgroups : motifGroups (motifDefinition n mask groups) = some segments) :
    lengthFits .defineMotif (motifDefinition n mask groups) = true := by
  have hframe : (motifDefinition n mask groups).length ≤ Config.maxPayload := Nat.add_le_add_right hlen 2
  simp [lengthFits, hframe, hgroups]

/-- The stations of a mask: station 1 in bit 0 to station 4 in bit 3 (R192). -/
def maskStations (mask : Octet) : PerStation Bool := ⟨mask[0], mask[1], mask[2], mask[3]⟩

theorem maskOf_toNat {mask : Octet} (h : mask.toNat ≤ 15) : maskOf mask.toNat = some (maskStations mask) :=
  if_pos (Nat.lt_succ_of_le h)

theorem maskOf_eq_none {m : Nat} (h : 15 < m) : maskOf m = none :=
  if_neg (Nat.not_lt.mpr h)

/-- The entry that a DEFINE MOTIF writes (R155). -/
def definedMotif (mask : Octet) (segments : PerLane (List Segment)) : Motif :=
  { valid := true, mask := maskStations mask, segments }

section
variable {n mask : Octet} {groups : List (List Segment)} {segments : PerLane (List Segment)} {s : State}

theorem reqDefineMotif_badHeader (h : 15 < n.toNat ∨ 15 < mask.toNat) :
    reqDefineMotif (motifDefinition n mask groups) s = refuse .badValue s := by
  have hn : u8 (motifDefinition n mask groups) 0 = n.toNat := rfl
  have hm : u8 (motifDefinition n mask groups) 1 = mask.toNat := rfl
  rcases h with hnumber | hmask
  · have hrange : ¬ n.toNat < Config.motifCount := Nat.not_lt.mpr hnumber
    simp [reqDefineMotif, hn, hrange]
  · simp [reqDefineMotif, hm, maskOf_eq_none hmask]

/-- With a number and a mask in range the lock is tested, then the lists. -/
theorem reqDefineMotif_inRange (hn : n.toNat ≤ 15) (hm : mask.toNat ≤ 15)
    (hgroups : motifGroups (motifDefinition n mask groups) = some segments) :
    reqDefineMotif (motifDefinition n mask groups) s =
      if motifLocked s n.toNat = true then refuse .inUse s
      else if (allLanes.all fun l => validSegments (segments.get l)) = false then refuse .badValue s
      else accept .ok [n, 0x01] (setMotif n.toNat (definedMotif mask segments) s) := by
  have hnumber : u8 (motifDefinition n mask groups) 0 = n.toNat := rfl
  have hmask : u8 (motifDefinition n mask groups) 1 = mask.toNat := rfl
  have hrange : n.toNat < Config.motifCount := Nat.lt_succ_of_le hn
  have hreply : motifReply n.toNat (setMotif n.toNat (definedMotif mask segments) s) = [n, 0x01] :=
    motifReply_setMotif hn _ s
  rw [← hreply]
  simp only [reqDefineMotif, hnumber, hmask, hrange, decide_true, maskOf_toNat hm, hgroups, s.locked_eq_motifLocked,
    definedMotif]

end

end Sys2Proof.Machine

namespace Sys2Proof.Proofs

open Sys2Proof.Machine

/-- Settles O23: the payload reads back as the six lists it was made of, which R155 then tests in its order. -/
theorem defineMotifReplacesTheEntry : Obligations.DefineMotifReplacesTheEntry := by
  intro s tag n mask a b c d e f hrest group os hlen hvalues good
  have hos : os = [a, b, c, d, e, f].flatMap groupOctets := by simp [os, group, groupOctets]
  rw [hos] at hlen
  have hgroups := motifGroups_motifDefinition (encodableGroup_of_payload hlen hvalues) n mask
  have hfits := lengthFits_motifDefinition hlen hgroups
  have hgood := all_validSegments_iff a b c d e f
  rw [exec_defineMotif, hos]
  refine ⟨fun hbad => ?badHeader, fun hn hm hlock => ?inUse, fun hn hm hfree hbad => ?badLists,
    fun hn hm hfree hlists => ?defined⟩
  case badHeader => exact request_refused hrest hfits (reqDefineMotif_badHeader hbad)
  case inUse => exact request_refused hrest hfits ((reqDefineMotif_inRange hn hm hgroups).trans (if_pos hlock))
  case badLists =>
    have hrun := reqDefineMotif_inRange (s := s) hn hm hgroups
    rw [if_neg (by simp [hfree]), if_pos (Bool.eq_false_iff.mpr (mt hgood.mp hbad))] at hrun
    exact request_refused hrest hfits hrun
  case defined =>
    have hrun := reqDefineMotif_inRange (s := s) hn hm hgroups
    rw [if_neg (by simp [hfree]), if_neg (by simp [hgood.mpr hlists])] at hrun
    exact request_accepted hrest hfits hrun rfl

end Sys2Proof.Proofs
end

section
/-! Event sets read out of a payload and written back, and the statement about SET EVENT MASK and CLEAR EVENTS (O14). -/

namespace Sys2Proof.Machine

/-! ### Four-octet fields read and written (R192) -/

/-- A 4-octet field by the weights of its octets. -/
theorem u32_four (a b c d : Octet) :
    u32 [a, b, c, d] 0 = a.toNat + 256 * b.toNat + 65536 * c.toNat + 16777216 * d.toNat := by
  have hread : u32 [a, b, c, d] 0 = a.toNat + 256 * b.toNat + 65536 * (c.toNat + 256 * d.toNat) := rfl
  omega

/-- A 4-octet field that is read and written back is the field. -/
theorem octets_four_u32 (a b c d : Octet) : octets 4 (u32 [a, b, c, d] 0) = [a, b, c, d] := by
  have hlow {v : Nat} {o : Octet} (h : v % 256 = o.toNat) : BitVec.ofNat 8 v = o := BitVec.eq_of_toNat_eq h
  have ha := a.isLt
  have hb := b.isLt
  have hc := c.isLt
  have hd := d.isLt
  rw [u32_four]
  simp only [octets, List.cons.injEq, and_true]
  refine ⟨hlow ?_, hlow ?_, hlow ?_, hlow ?_⟩ <;> omega

/-! ### Event sets (R183, R184, R192) -/

/-- A 4-octet set names a kind above 23 exactly when its last octet is not 0. -/
theorem u32_lt_eventSet_iff (a b c d : Octet) : u32 [a, b, c, d] 0 < 16777216 ↔ d = 0x00 := by
  have ha := a.isLt
  have hb := b.isLt
  have hc := c.isLt
  have hlast : d = 0x00 ↔ d.toNat = 0 := (BitVec.toNat_inj (y := 0x00)).symm
  rw [u32_four, hlast]
  omega

/-- The set of a field whose last octet is 0. -/
def eventSetField (a b c : Octet) : BitVec 24 := BitVec.ofNat 24 (u32 [a, b, c, 0x00] 0)

theorem eventSetField_toNat (a b c : Octet) : (eventSetField a b c).toNat = u32 [a, b, c, 0x00] 0 :=
  Nat.mod_eq_of_lt ((u32_lt_eventSet_iff a b c 0x00).mpr rfl)

theorem eventSetOf_field (a b c : Octet) : eventSetOf (u32 [a, b, c, 0x00] 0) = some (eventSetField a b c) :=
  if_pos ((u32_lt_eventSet_iff a b c 0x00).mpr rfl)

theorem eventSetOf_eq_none {a b c d : Octet} (h : d ≠ 0x00) : eventSetOf (u32 [a, b, c, d] 0) = none :=
  if_neg (mt (u32_lt_eventSet_iff a b c d).mp h)

theorem eventOctets_field (a b c : Octet) : eventOctets (eventSetField a b c) = [a, b, c, 0x00] := by
  rw [eventOctets, eventSetField_toNat, octets_four_u32]

/-! ### SET EVENT MASK and CLEAR EVENTS (R183, R184) -/

theorem exec_setEventMask (tag : Octet) (p : List Octet) (s : State) :
    exec (.setEventMask tag p) s = request .setEventMask tag p s := rfl

theorem exec_clearEvents (tag : Octet) (p : List Octet) (s : State) :
    exec (.clearEvents tag p) s = request .clearEvents tag p s := rfl

section
variable {a b c d : Octet}

theorem reqSetEventMask_badValue (h : d ≠ 0x00) (s : State) :
    reqSetEventMask [a, b, c, d] s = refuse .badValue s := by
  simp only [reqSetEventMask, eventSetOf_eq_none h]

theorem reqClearEvents_badValue (h : d ≠ 0x00) (s : State) : reqClearEvents [a, b, c, d] s = refuse .badValue s := by
  simp only [reqClearEvents, eventSetOf_eq_none h]

theorem reqSetEventMask_accepted (s : State) :
    reqSetEventMask [a, b, c, 0x00] s =
      accept .ok [a, b, c, 0x00] { s with events := s.events.setMask (eventSetField a b c) } := by
  simp only [reqSetEventMask, eventSetOf_field, EventSet.setMask, eventOctets_field]

theorem reqClearEvents_accepted (s : State) :
    reqClearEvents [a, b, c, 0x00] s =
      accept .ok (eventOctets (s.events.clear (eventSetField a b c)).flags)
        { s with events := s.events.clear (eventSetField a b c) } := by
  simp only [reqClearEvents, eventSetOf_field]

end

end Sys2Proof.Machine

namespace Sys2Proof.Proofs

open Sys2Proof.Machine

/-- Settles O14: the last octet of the set tells whether it names a kind above 23. -/
theorem maskAndClearEvents : Obligations.MaskAndClearEvents := by
  refine ⟨rfl, fun s tag a b c d hrest => ?_⟩
  have hmask : lengthFits .setEventMask [a, b, c, d] = true := lengthFits_of_fixedLength rfl
  have hclear : lengthFits .clearEvents [a, b, c, d] = true := lengthFits_of_fixedLength rfl
  rw [exec_setEventMask, exec_clearEvents]
  refine ⟨?accepted, fun hbad => ⟨request_refused hrest hmask (reqSetEventMask_badValue hbad s),
    request_refused hrest hclear (reqClearEvents_badValue hbad s)⟩⟩
  case accepted =>
    rintro rfl
    exact ⟨eventSetField a b c, eventSetField_toNat a b c,
      request_accepted hrest hmask (reqSetEventMask_accepted s) rfl,
      request_accepted hrest hclear (reqClearEvents_accepted s) rfl⟩

end Sys2Proof.Proofs
end

section
/-! The parts of READ STATUS's reply and their fields, and the statement about IDENTIFY and READ STATUS (O16). -/

namespace Sys2Proof.Machine

/-! ### IDENTIFY (R188) -/

theorem exec_identify (tag : Octet) (p : List Octet) (s : State) :
    exec (.identify tag p) s = request .identify tag p s := rfl

/-- A value of a few bits, written as one octet. -/
theorem octets_one_toNat_setWidth {w : Nat} (v : BitVec w) : octets 1 v.toNat = [v.setWidth 8] := by
  simp [octets, BitVec.ofNat_toNat]

theorem reqIdentify_eq (s : State) :
    reqIdentify s =
      accept .ok [0x10, 0x04, 0x01, s.link.rate.setWidth 8, 0x00, 0x01, 0x10, 0x04, 0x06, 0x40] s := by
  rw [reqIdentify, octets_one_toNat_setWidth]
  rfl

/-! ### The three parts of READ STATUS's reply (R188, section 10.4) -/

@[simp] theorem jobStatus_length (s : State) : (jobStatus s).length = 19 := rfl

@[simp] theorem webStatus_length (s : State) : (webStatus s).length = 33 := by simp [webStatus, sourceStatus, flagOctet]

@[simp] theorem linkStatus_length (s : State) : (linkStatus s).length = 15 := rfl

/-- The press and job part. -/
theorem field_jobStatus (s : State) :
    field (jobStatus s) 0 1 = octets 1 s.mode.code ∧
    field (jobStatus s) 1 2 = octets 1 s.job.state.code ++ octets 1 (endReasonCode s.job.endReason) ∧
    field (jobStatus s) 3 1 = octets 1 (placeId s.job.active) ∧
    field (jobStatus s) 4 4 = octets 4 s.job.target ∧
    field (jobStatus s) 8 4 = octets 4 s.job.admitted ∧
    field (jobStatus s) 12 2 = octets 2 s.job.activeLive ∧
    field (jobStatus s) 14 2 = octets 1 s.job.buffer.code ++ octets 1 (placeId s.job.buffer.plan) ∧
    field (jobStatus s) 16 3 = octets 1 (placeId s.job.draining) ++ octets 2 s.job.drainingLive :=
  ⟨rfl, rfl, rfl, rfl, rfl, rfl, rfl, rfl⟩

/-- A source is enabled in every state but OFF. -/
theorem sourceStatus_eq (u : SourceUnit) :
    sourceStatus u = [if u.state = .off then 0 else 1] ++ octets 1 u.state.code := by
  cases h : u.state <;> simp [sourceStatus, flagOctet, h]

/-- A position takes four octets whether it is absent or not, so that what follows it stands at fixed offsets. -/
theorem exists_posOctets (p : Option Pos) : ∃ a b c d, posOctets p = [a, b, c, d] := by
  cases p <;> exact ⟨_, _, _, _, rfl⟩

/-- The reference, entry and queue part. -/
theorem field_webStatus (s : State) :
    field (webStatus s) 0 1 = octets 1 s.ref.selected.code ∧
    field (webStatus s) 1 4 = sourceStatus s.ref.line ++ sourceStatus s.ref.wheel ∧
    field (webStatus s) 5 8 = octets 4 s.web.toNat ++ octets 4 s.ref.hw.toNat ∧
    field (webStatus s) 13 4 = octets 2 s.ref.speed ++ octets 2 s.ref.rewound ∧
    field (webStatus s) 17 5 = octets 2 s.m0.rejected ++ octets 2 s.m0.stray ++ octets 1 s.zones.length ∧
    field (webStatus s) 22 2 = octets 1 s.tracker.state.code ++ octets 1 s.tracker.cursor ∧
    field (webStatus s) 24 4 = posOctets (s.tracker.window.map EntryWindow.expected) ∧
    field (webStatus s) 28 5 =
      octets 1 s.tracker.missRun ++ octets 2 s.tracker.seqCounter.toNat ++ octets 2 s.queue.length := by
  obtain ⟨a, b, c, d, hwindow⟩ := exists_posOctets (s.tracker.window.map EntryWindow.expected)
  simp only [webStatus, hwindow, List.append_assoc]
  exact ⟨rfl, rfl, rfl, rfl, rfl, rfl, rfl, rfl⟩

/-- The link part. -/
theorem field_linkStatus (s : State) :
    field (linkStatus s) 0 1 = [if s.events.attn then 1 else 0] ∧
    field (linkStatus s) 1 6 = octets 2 s.link.abandoned ++ octets 2 s.link.badLength ++ octets 2 s.link.badCrc ∧
    field (linkStatus s) 7 5 = [if s.link.overrun then 1 else 0, s.link.lostKind, s.link.lostTag] ++
      octets 2 s.link.overruns ∧
    field (linkStatus s) 12 3 = octets 1 s.trace.entries.length ++ octets 2 s.trace.dropped :=
  ⟨rfl, rfl, rfl, rfl⟩

/-- The expected position of an absent window reads as 0 (R188). -/
theorem posOctets_expected (window : Option EntryWindow) :
    posOctets (window.map EntryWindow.expected) =
      match window with | some w => octets 4 w.expected.toNat | none => octets 4 0 := by
  cases window <;> rfl

/-! ### READ STATUS (R188) -/

theorem exec_readStatus (tag : Octet) (p : List Octet) (s : State) :
    exec (.readStatus tag p) s = request .readStatus tag p s := rfl

/-- The payload of READ STATUS's reply. -/
def State.statusPayload (s : State) : List Octet := [0x00] ++ jobStatus s ++ webStatus s ++ linkStatus s

theorem State.statusPayload_length (s : State) : s.statusPayload.length = 68 := by simp [State.statusPayload]

section
variable {s : State} {i n : Nat} {v : List Octet}

/-- The press and job part stands from offset 1 on. -/
theorem field_statusPayload_job (h : field (jobStatus s) i n = v) (hin : i + n ≤ 19 := by decide) :
    field s.statusPayload (i + 1) n = v := by
  rw [State.statusPayload, field_append_of_le (by simp; omega), field_append_of_le (by simp; omega),
    field_append_of_ge (by simp), List.length_singleton, Nat.add_sub_cancel, h]

/-- The reference, entry and queue part stands from offset 20 on. -/
theorem field_statusPayload_web (h : field (webStatus s) i n = v) (hin : i + n ≤ 33 := by decide) :
    field s.statusPayload (i + 20) n = v := by
  have hfront : ([0x00] ++ jobStatus s).length = 20 := by simp
  rw [State.statusPayload, field_append_of_le (by simp; omega), field_append_of_ge (by simp), hfront,
    Nat.add_sub_cancel, h]

/-- The link part stands from offset 53 on. -/
theorem field_statusPayload_link (h : field (linkStatus s) i n = v) : field s.statusPayload (i + 53) n = v := by
  have hfront : ([0x00] ++ jobStatus s ++ webStatus s).length = 53 := by simp
  rw [State.statusPayload, field_append_of_ge (by simp), hfront, Nat.add_sub_cancel, h]

end

/-- A flag of one octet is set by every octet but 0 (R192). -/
theorem flagAt_singleton (o : Octet) : flagAt [o] 0 = decide (o ≠ 0x00) := by
  have hzero : o.toNat = 0 ↔ o = 0x00 := BitVec.toNat_inj (y := 0x00)
  simp [flagAt, u8, bne, beq_eq_decide, hzero]

theorem reqReadStatus_eq (clear : Octet) (s : State) :
    reqReadStatus [clear] s =
      (s.statusPayload, { s with link := if clear = 0x00 then s.link else s.link.cleared }) := by
  have hreply (t : State) : accept .ok (jobStatus s ++ webStatus s ++ linkStatus s) t = (s.statusPayload, t) := by
    simp [accept, statusCode, State.statusPayload]
  rw [reqReadStatus, hreply, flagAt_singleton]
  rcases eq_or_ne clear 0x00 with rfl | h
  · rfl
  · rw [if_pos (decide_eq_true h), if_neg h]

end Sys2Proof.Machine

namespace Sys2Proof.Proofs

open Sys2Proof.Machine

/-- Settles O16: each field asked for lies in one of the three parts of READ STATUS's reply, which is put together
before the clear option acts (R188). -/
theorem identifyAndReadStatus : Obligations.IdentifyAndReadStatus := by
  intro s tag clear hrest
  have hidentify : lengthFits .identify [] = true := lengthFits_of_fixedLength rfl
  have hstatus : lengthFits .readStatus [clear] = true := lengthFits_of_fixedLength rfl
  obtain ⟨-, -, hreset, -⟩ := (atRest_iff s).mp hrest
  rw [exec_identify, exec_readStatus]
  refine ⟨request_accepted hrest hidentify (reqIdentify_eq s) rfl, s.statusPayload,
    request_atRest hrest hstatus (reqReadStatus_eq clear s) ?resetPending, s.statusPayload_length, rfl, ?fields⟩
  case resetPending => split <;> exact hreset
  case fields =>
    obtain ⟨hmode, hjob, hactive, htarget, hadmitted, hlive, hbuffer, hdraining⟩ := field_jobStatus s
    obtain ⟨hselected, hsources, hweb, hspeed, hmarks, htracker, hwindow, hrun⟩ := field_webStatus s
    obtain ⟨hattn, hcounts, hoverrun, htrace⟩ := field_linkStatus s
    rw [sourceStatus_eq, sourceStatus_eq, ← List.append_assoc] at hsources
    exact ⟨field_statusPayload_job hmode, field_statusPayload_job hjob, field_statusPayload_job hactive,
      field_statusPayload_job htarget, field_statusPayload_job hadmitted, field_statusPayload_job hlive,
      field_statusPayload_job hbuffer, field_statusPayload_job hdraining, field_statusPayload_web hselected,
      field_statusPayload_web hsources, field_statusPayload_web hweb, field_statusPayload_web hspeed,
      field_statusPayload_web hmarks, field_statusPayload_web htracker,
      field_statusPayload_web (hwindow.trans (posOctets_expected _)), field_statusPayload_web hrun,
      field_statusPayload_link hattn, field_statusPayload_link hcounts, field_statusPayload_link hoverrun,
      field_statusPayload_link htrace⟩

end Sys2Proof.Proofs
end

section
/-! The laws that every command keeps, in one relation between a state and a later one, and the operations of the link,
the stations and the lanes that keep them (O58, O59, O60, O3). -/

namespace Sys2Proof.Machine

/-! ### Three relations between a state and a later one -/

/-- The laws of one station while the press is in a mode. -/
def Station.Lawful (u : Station) (mode : PressMode) : Prop :=
  u.Strokes ∧ u.HoldLaw ∧ u.TrimLaw ∧ u.zone.Regular ∧ u.SoftCauses mode

/-- From `s` to `t` stations, lanes, live records, the job, the events and the trace may have moved, and nothing else
but the transmitter; each station and lane keeps its laws, and of the live records some may have left at the head. -/
structure Acts (s t : State) : Prop where
  pending : t.pending = s.pending
  ref : t.ref = s.ref
  entry : t.entry = s.entry
  m0 : t.m0 = s.m0
  zones : t.zones = s.zones
  tracker : t.tracker = s.tracker
  mode : t.mode = s.mode
  wake : t.wake = s.wake
  received : t.link.rxQueue = s.link.rxQueue
  resetPending : t.link.resetPending = s.link.resetPending
  queue : ∃ n, t.queue.map LabelRecord.seq = (s.queue.map LabelRecord.seq).drop n
  trace : s.trace.entries.length ≤ Config.traceCapacity → t.trace.entries.length ≤ Config.traceCapacity
  due : s.events.Consistent → t.events.Consistent
  lanes : ∀ l, (s.lane l).Agrees → (t.lane l).Agrees
  stations : ∀ st mode, (s.station st).Lawful mode → (t.station st).Lawful mode

/-- From `s` to `t` the press mode stands, and each unit keeps its laws. -/
structure Keeps (s t : State) : Prop where
  pending : t.pending = s.pending
  mode : t.mode = s.mode
  wake : t.wake.isSome = s.wake.isSome
  due : s.events.Consistent → t.events.Consistent
  capacities : s.Capacities → t.Capacities
  numbered : s.Numbered → t.Numbered
  tracker : s.tracker.Windowed → t.tracker.Windowed
  lanes : ∀ l, (s.lane l).Agrees → (t.lane l).Agrees
  stations : ∀ st mode, (s.station st).Lawful mode → (t.station st).Lawful mode

/-- From `s` to `t` the waiting commands stand, and each law that held of the part holds. -/
structure Obeys (s t : State) : Prop where
  pending : t.pending = s.pending
  due : s.events.Consistent → t.events.Consistent
  capacities : s.Capacities → t.Capacities
  numbered : s.Numbered → t.Numbered
  units : unitLaws s → unitLaws t

theorem Acts.refl (s : State) : Acts s s :=
  ⟨rfl, rfl, rfl, rfl, rfl, rfl, rfl, rfl, rfl, rfl, ⟨0, rfl⟩, id, id, fun _ => id, fun _ _ => id⟩

theorem Acts.trans {s t u : State} (h : Acts s t) (h' : Acts t u) : Acts s u where
  pending := h'.pending.trans h.pending
  ref := h'.ref.trans h.ref
  entry := h'.entry.trans h.entry
  m0 := h'.m0.trans h.m0
  zones := h'.zones.trans h.zones
  tracker := h'.tracker.trans h.tracker
  mode := h'.mode.trans h.mode
  wake := h'.wake.trans h.wake
  received := h'.received.trans h.received
  resetPending := h'.resetPending.trans h.resetPending
  queue := by
    obtain ⟨n, hn⟩ := h.queue
    obtain ⟨m, hm⟩ := h'.queue
    exact ⟨n + m, by rw [hm, hn, List.drop_drop]⟩
  trace := h'.trace ∘ h.trace
  due := h'.due ∘ h.due
  lanes l := h'.lanes l ∘ h.lanes l
  stations st mode := h'.stations st mode ∘ h.stations st mode

theorem Keeps.refl (s : State) : Keeps s s := ⟨rfl, rfl, rfl, id, id, id, id, fun _ => id, fun _ _ => id⟩

theorem Keeps.trans {s t u : State} (h : Keeps s t) (h' : Keeps t u) : Keeps s u :=
  ⟨h'.pending.trans h.pending, h'.mode.trans h.mode, h'.wake.trans h.wake, h'.due ∘ h.due, h'.capacities ∘ h.capacities,
    h'.numbered ∘ h.numbered, h'.tracker ∘ h.tracker, fun l => h'.lanes l ∘ h.lanes l,
    fun st mode => h'.stations st mode ∘ h.stations st mode⟩

theorem Obeys.refl (s : State) : Obeys s s := ⟨rfl, id, id, id, id⟩

theorem Obeys.trans {s t u : State} (h : Obeys s t) (h' : Obeys t u) : Obeys s u :=
  ⟨h'.pending.trans h.pending, h'.due ∘ h.due, h'.capacities ∘ h.capacities, h'.numbered ∘ h.numbered,
    h'.units ∘ h.units⟩

/-- The numbering speaks of the sequence numbers of the live records alone. -/
theorem State.numbered_iff (s : State) :
    s.Numbered ↔ ∀ j n, (s.queue.map LabelRecord.seq)[j]? = some n →
      n = s.tracker.seqCounter - BitVec.ofNat 16 ((s.queue.map LabelRecord.seq).length - j) := by
  simp only [State.Numbered, List.getElem?_map, List.length_map, Option.map_eq_some_iff]
  exact ⟨fun h j n ⟨r, hr, hn⟩ => hn ▸ h j r hr, fun h j r hr => h j _ ⟨r, hr, rfl⟩⟩

/-- Records that leave at the head leave the others numbered. -/
theorem State.Numbered.of_drop {s t : State} (h : s.Numbered) {n : Nat}
    (hq : t.queue.map LabelRecord.seq = (s.queue.map LabelRecord.seq).drop n)
    (hc : t.tracker.seqCounter = s.tracker.seqCounter) : t.Numbered := by
  rw [State.numbered_iff] at h ⊢
  intro j x hx
  rw [hq, List.getElem?_drop] at hx
  rw [h _ x hx, hq, hc, List.length_drop, Nat.sub_sub]

theorem Acts.keeps {s t : State} (h : Acts s t) : Keeps s t where
  pending := h.pending
  mode := h.mode
  wake := by rw [h.wake]
  due := h.due
  capacities hs := by
    obtain ⟨n, hn⟩ := h.queue
    have hlen : t.queue.length = s.queue.length - n := by simpa using congrArg List.length hn
    have hroom := hs.queue
    exact ⟨by omega, h.trace hs.trace, h.received ▸ hs.received, h.zones ▸ hs.zones⟩
  numbered hs := by
    obtain ⟨n, hn⟩ := h.queue
    exact hs.of_drop hn (by rw [h.tracker])
  tracker hs := h.tracker ▸ hs
  lanes := h.lanes
  stations := h.stations

theorem Keeps.obeys {s t : State} (h : Keeps s t) : Obeys s t where
  pending := h.pending
  due := h.due
  capacities := h.capacities
  numbered := h.numbered
  units := by
    rintro ⟨hw, hm, hl, hs⟩
    exact ⟨h.tracker hw, by rw [h.wake, h.mode]; exact hm, fun l => h.lanes l (hl l),
      fun st => h.mode ▸ h.stations st _ (hs st)⟩

/-! ### Actions over lists -/

section
variable {s t : State}

/-- Actions that each keep the laws keep them when done one after the other. -/
theorem acts_foldl {α : Type} {f : State → α → State} (hf : ∀ x t, Acts s t → Acts s (f t x)) (xs : List α)
    (h : Acts s t) : Acts s (xs.foldl f t) := by
  induction xs generalizing t with
  | nil => exact h
  | cons x xs ih => exact ih (hf x t h)

theorem acts_overStations {f : StationId → State → State} (hf : ∀ st t, Acts s t → Acts s (f st t))
    {sts : List StationId} (h : Acts s t) : Acts s (overStations sts f t) := acts_foldl hf sts h

theorem acts_overLanes {f : LaneId → State → State} (hf : ∀ l t, Acts s t → Acts s (f l t)) {ls : List LaneId}
    (h : Acts s t) : Acts s (overLanes ls f t) := acts_foldl hf ls h

/-! ### The event set (R180 to R184) -/

/-- The transmitter takes the first notice due, if any (R179). -/
theorem EventSet.Consistent.tail {e : EventSet} (h : e.Consistent) {k : EventKind} {ks : List EventKind}
    (hd : e.due = k :: ks) : ({ e with due := ks } : EventSet).Consistent := by
  have hsub (j) (hj : j ∈ ks) : j ∈ e.due := hd ▸ List.mem_cons_of_mem k hj
  have hn := h.once
  rw [hd] at hn
  exact ⟨hn.of_cons, fun j hj => h.pending j (hsub j hj), fun j hj => h.maskedIn j (hsub j hj)⟩

theorem acts_txChoose (h : Acts s t) : Acts s (txChoose t) := by
  refine h.trans ?_
  obtain h | ⟨r, -, -, h⟩ | ⟨k, ks, -, -, hd, h⟩ := txChoose_cases t <;> rw [h]
  · exact .refl t
  · exact { Acts.refl t with }
  · exact { Acts.refl t with due := fun hc => hc.tail hd }

/-- A kind is in the set that holds it alone. -/
theorem EventKind.isIn_bit (k : EventKind) : k.isIn k.bit = true := by cases k <;> rfl

theorem EventKind.isIn_or (j : EventKind) (b c : BitVec 24) : j.isIn (b ||| c) = (j.isIn b || j.isIn c) :=
  BitVec.getLsbD_or

/-- A kind that was not pending joins the list at its end (R180). -/
theorem EventSet.Consistent.join {e : EventSet} (h : e.Consistent) {k : EventKind} (records : Vector RaiseRecord 24)
    (hp : k.isIn e.flags = false) (hm : k.isIn e.mask = true) :
    ({ e with records, flags := e.flags ||| k.bit, due := e.due ++ [k] } : EventSet).Consistent := by
  have hk : k ∉ e.due := fun hk => by simp [h.pending k hk] at hp
  refine ⟨?once, fun j hj => ?pending, fun j hj => ?maskedIn⟩
  case once => exact h.once.append (List.nodup_singleton k) (List.disjoint_singleton.mpr hk)
  case pending =>
    rw [EventKind.isIn_or]
    rcases List.mem_append.mp hj with hj | hj
    · simp [h.pending j hj]
    · simp [List.mem_singleton.mp hj, EventKind.isIn_bit]
  case maskedIn =>
    rcases List.mem_append.mp hj with hj | hj
    · exact h.maskedIn j hj
    · exact List.mem_singleton.mp hj ▸ hm

/-- More pending flags and other records leave the list consistent. -/
theorem EventSet.Consistent.flagged {e : EventSet} (h : e.Consistent) (k : EventKind) (records : Vector RaiseRecord 24) :
    ({ e with records, flags := e.flags ||| k.bit } : EventSet).Consistent :=
  ⟨h.once, fun j hj => by simp [EventKind.isIn_or, h.pending j hj], h.maskedIn⟩

theorem acts_raiseEvent {k : EventKind} {unit detail : Nat} (h : Acts s t) :
    Acts s (raiseEvent k unit detail t) := by
  rw [raiseEvent_eq]
  split
  · exact h.trans { Acts.refl t with due := fun hc => ⟨hc.once, hc.pending, hc.maskedIn⟩ }
  · next hp =>
    split
    · next hm =>
      exact acts_txChoose (h.trans { Acts.refl t with due := fun hc => hc.join _ (Bool.eq_false_iff.mpr hp) hm })
    · exact h.trans { Acts.refl t with due := fun hc => hc.flagged k _ }

/-! ### The trace queue (R186) -/

theorem acts_watermarkTest (h : Acts s t) : Acts s (watermarkTest t) := by
  unfold watermarkTest
  split
  · exact acts_raiseEvent h
  · exact h

theorem acts_writeTrace {e : TraceEntry} (h : Acts s t) : Acts s (writeTrace e t) := by
  rw [writeTrace_eq]
  split
  · next hroom => exact acts_watermarkTest (h.trans { Acts.refl t with trace := fun _ => by simpa using hroom })
  · exact acts_raiseEvent (h.trans { Acts.refl t with })

/-! ### Stations -/

/-- What a station's laws speak of, but for its trim. -/
def Station.ruled (u : Station) : Bool × HoldSet × ActuatorState × Valve × Option Nat × HeatZone :=
  (u.setup.enabled, u.hold, u.actuator, u.valve, u.stroke, u.zone)

/-- What the law of a station's trim speaks of. -/
def RegLoop.ruled (r : RegLoop) : Int × Nat := (r.trim, r.tuning.trimLimit)

theorem Station.ruled_eq_iff {u v : Station} :
    v.ruled = u.ruled ↔ v.setup.enabled = u.setup.enabled ∧ v.hold = u.hold ∧ v.actuator = u.actuator ∧
      v.valve = u.valve ∧ v.stroke = u.stroke ∧ v.zone = u.zone := by
  simp [Station.ruled]

/-- A station whose loop has another trim within its limit keeps its laws. -/
theorem Station.Lawful.trimmed {u v : Station} {mode : PressMode} (h : u.Lawful mode)
    (trim : v.loop.trim.natAbs ≤ v.loop.tuning.trimLimit) (he : v.ruled = u.ruled) : v.Lawful mode := by
  obtain ⟨enabled, hold, actuator, valve, stroke, zone⟩ := Station.ruled_eq_iff.mp he
  obtain ⟨hk, hh, -, hz, hc⟩ := h
  refine ⟨⟨?_, ?_⟩, ?_, trim, zone ▸ hz, ⟨?_, ?_⟩⟩
  · rw [stroke, actuator]; exact hk.timer
  · rw [valve, actuator]; exact hk.valve
  · rw [Station.HoldLaw, enabled, hold]; exact hh
  · rw [enabled, hold]; exact hc.idle
  · rw [enabled, hold, zone]; exact hc.thermal

/-- A station that differs in nothing its laws speak of. -/
theorem Station.Lawful.congr {u v : Station} {mode : PressMode} (h : u.Lawful mode) (he : v.ruled = u.ruled)
    (hl : v.loop.ruled = u.loop.ruled) : v.Lawful mode := by
  obtain ⟨htrim, hlimit⟩ := Prod.mk.inj hl
  refine h.trimmed ?_ he
  rw [htrim, hlimit]
  exact h.2.2.1

/-- A change of one station keeps the laws when it keeps the station's. -/
theorem acts_modStation {st : StationId} {f : Station → Station} (h : Acts s t)
    (hf : ∀ mode, (t.station st).Lawful mode → (f (t.station st)).Lawful mode) : Acts s (t.modStation st f) := by
  refine h.trans { Acts.refl t with stations := fun st' mode => ?_ }
  by_cases he : st' = st
  · subst he
    rw [State.modStation_station]
    exact hf mode
  · rw [State.modStation_station_of_ne t he]
    exact id

/-- An actuator's request keeps the station's laws when it keeps that of the strokes. -/
theorem Station.Lawful.stroke {u : Station} {mode : PressMode} (h : u.Lawful mode) {valve : Valve}
    {actuator : ActuatorState} {stroke : Option Nat} (hk : ({ u with valve, actuator, stroke } : Station).Strokes) :
    ({ u with valve, actuator, stroke } : Station).Lawful mode := by
  obtain ⟨-, hh, ht, hz, hc⟩ := h
  exact ⟨hk, hh, ht, hz, hc.idle, hc.thermal⟩

theorem Station.Strokes.engage {u : Station} (h : u.Strokes) : u.engage.Strokes := by
  unfold Station.engage
  split
  case h_1 | h_2 => split <;> exact ⟨by simp, by simp⟩
  case h_3 => exact h

theorem Station.Strokes.lift {u : Station} (h : u.Strokes) : u.lift.Strokes := by
  unfold Station.lift
  split
  case h_1 | h_2 => split <;> exact ⟨by simp, by simp⟩
  case h_3 => exact h

theorem Station.Lawful.engage {u : Station} {mode : PressMode} (h : u.Lawful mode) : u.engage.Lawful mode := by
  have hk := h.1.engage
  obtain ⟨valve, actuator, stroke, he⟩ := u.engage_frame
  rw [he] at hk ⊢
  exact h.stroke hk

theorem Station.Lawful.lift {u : Station} {mode : PressMode} (h : u.Lawful mode) : u.lift.Lawful mode := by
  have hk := h.1.lift
  obtain ⟨valve, actuator, stroke, he⟩ := u.lift_frame
  rw [he] at hk ⊢
  exact h.stroke hk

theorem Station.Lawful.cancelAndLift {u : Station} {mode : PressMode} (h : u.Lawful mode) :
    u.cancelAndLift.Lawful mode := Station.Lawful.lift (h.congr rfl rfl)

/-- A cause enters or leaves the hold set of a station as its laws allow. -/
theorem Station.Lawful.put {u : Station} {mode : PressMode} (h : u.Lawful mode) {c : Cause} {b : Bool}
    (henabled : b = true → u.setup.enabled = true)
    (hidle : c = .idle → u.setup.enabled = true → (b = true ↔ mode ≠ .run))
    (hthermal : c = .thermal → u.setup.enabled = true →
      (b = true ↔ u.zone.enabled = true ∧ u.zone.state ≠ .ready ∧ u.zone.state ≠ .fault)) :
    ({ u with hold := u.hold.put c b } : Station).Lawful mode := by
  obtain ⟨hk, hh, ht, hz, hc⟩ := h
  refine ⟨⟨hk.timer, hk.valve⟩, fun hd => ?_, ht, hz, fun he => ?_, fun he => ?_⟩
  · have hb : b = false := Bool.eq_false_iff.mpr fun hb => by simp [henabled hb] at hd
    have hempty : u.hold = HoldSet.empty := hh hd
    simp only [hempty, hb, HoldSet.put_empty]
  · cases c
    case idle => exact hidle rfl he
    all_goals exact hc.idle he
  · cases c
    case thermal => exact hthermal rfl he
    all_goals exact hc.thermal he

/-- A cause other than IDLE and THERMAL is added to an enabled station or removed. -/
theorem acts_addSoft {c : Cause} {st : StationId} (h : Acts s t) (hc : c ≠ .idle ∧ c ≠ .thermal) :
    Acts s (addSoft c st t) := by
  unfold addSoft
  split
  · next he => exact acts_modStation h fun _ hu => hu.put (fun _ => he) (absurd · hc.1) (absurd · hc.2)
  · exact h

theorem acts_dropCause {c : Cause} {st : StationId} (h : Acts s t) (hc : c ≠ .idle ∧ c ≠ .thermal) :
    Acts s (dropCause c st t) :=
  acts_modStation h fun _ hu => hu.put nofun (absurd · hc.1) (absurd · hc.2)

theorem acts_dropFoilOut {st : StationId} (h : Acts s t) : Acts s (dropFoilOut st t) := by
  unfold dropFoilOut
  split
  · exact h
  · exact acts_dropCause h (by decide)

/-! ### Lanes -/

theorem acts_modLane {l : LaneId} {f : Lane → Lane} (h : Acts s t)
    (hf : (t.lane l).Agrees → (f (t.lane l)).Agrees) : Acts s (t.modLane l f) := by
  refine h.trans { Acts.refl t with lanes := fun l' => ?_ }
  by_cases he : l' = l
  · subst he
    rw [State.modLane_lane]
    exact hf
  · rw [State.modLane_lane_of_ne t he]
    exact id

/-- What a lane's laws speak of. -/
def Lane.ruled (u : Lane) : Option StationId × LaneState × Bool := (u.station, u.state, u.lastFeed.isSome)

/-- A lane that differs in nothing its laws speak of. -/
theorem Lane.Agrees.congr {u v : Lane} (h : u.Agrees) (he : v.ruled = u.ruled) : v.Agrees := by
  simp only [Lane.ruled, Prod.mk.injEq] at he
  obtain ⟨station, state, lastFeed⟩ := he
  refine ⟨?_, ?_⟩
  · rw [station, state]; exact h.assigned
  · rw [lastFeed, state]; exact h.lastFeed

/-- A lane of a station without a last feed, in a state of such a lane. -/
theorem Lane.Agrees.idle {u v : Lane} (h : u.Agrees) (hu : u.state ≠ .unassigned)
    (hv : v.state ≠ .unassigned ∧ v.state ≠ .active) (station : v.station = u.station)
    (lastFeed : v.lastFeed = none) : v.Agrees := by
  refine ⟨?_, ?_⟩
  · rw [station]
    exact iff_of_false (mt h.assigned.mp hu) hv.1
  · rw [lastFeed]
    exact iff_of_false nofun hv.2

theorem Lane.Agrees.halt {u : Lane} (h : u.Agrees) (web : Pos) : (u.halt web).Agrees := by
  obtain ⟨hs, he⟩ | ⟨-, -, he⟩ := u.halt_cases web <;> rw [he]
  · exact h.idle (by rcases hs with hs | hs <;> simp [hs]) (by simp) rfl rfl
  · exact h

theorem Lane.Agrees.flush {u : Lane} (h : u.Agrees) (web : Pos) : (u.flush web).Agrees := (h.halt web).congr rfl

theorem Lane.Agrees.stopOne {u : Lane} (h : u.Agrees) (seq : BitVec 16) : (u.stopOne seq).Agrees := by
  unfold Lane.stopOne
  split
  · exact h
  · dsimp only [Lane.send]
    split
    · next g hg =>
      have hactive : u.state = .active := h.lastFeed.mp (by simp [hg])
      split
      · exact h.idle (by simp [hactive]) (by simp) rfl rfl
      · exact h.congr rfl
    · exact h.congr rfl

theorem Lane.Agrees.countIdle {u : Lane} (h : u.Agrees) (web : Pos) : (u.countIdle web).Agrees := by
  unfold Lane.countIdle
  dsimp only
  split
  · next hp => exact h.idle (by simp [hp.2.2]) (by simp) rfl rfl
  · exact h.congr rfl

theorem Lane.agrees_commit {u : Lane} (h : u.station ≠ none) (seq : BitVec 16) (f : FeedPlan) :
    (u.commit seq f).Agrees :=
  ⟨iff_of_false h nofun, iff_of_true rfl rfl⟩

theorem acts_countIdle {ls : List LaneId} (h : Acts s t) : Acts s (countIdle ls t) :=
  acts_overLanes (fun _ _ h => acts_modLane h fun hu => hu.countIdle _) h

theorem acts_lowSpoolTest {l : LaneId} (h : Acts s t) : Acts s (lowSpoolTest l t) := by
  unfold lowSpoolTest
  dsimp only
  split
  · exact acts_raiseEvent (acts_modLane h fun hu => hu.congr rfl)
  · exact h

theorem acts_commitFeed {seq : BitVec 16} {f : FeedPlan} {l : LaneId} (h : Acts s t)
    (hl : (t.lane l).station ≠ none) : Acts s (commitFeed seq f l t) :=
  acts_lowSpoolTest (acts_modLane h fun _ => Lane.agrees_commit hl seq f)

/-- A lane that is PARKED or ACTIVE is sent PARK and enters EMPTY. -/
theorem acts_parkEmpty {l : LaneId} {web : Pos} (h : Acts s t)
    (hl : (t.lane l).state = .parked ∨ (t.lane l).state = .active) :
    Acts s (t.modLane l fun u => { u.park web with state := .empty }) :=
  acts_modLane h fun hu => hu.idle (by rcases hl with hl | hl <;> simp [hl]) (by simp) rfl rfl

theorem acts_checkFailed {st : StationId} {seq : BitVec 16} {f : FeedPlan} {l : LaneId} (h : Acts s t) :
    Acts s (checkFailed st seq f l t) := by
  unfold checkFailed
  dsimp only
  generalize hlate : (if (t.lane l).lateFails t.ref.hw t.ref.speed f = true then
    t.modLane l fun u => { u with late := bump16 u.late } else t) = t'
  have ht : Acts s t' ∧ (t'.lane l).state = (t.lane l).state := by
    rw [← hlate]
    split
    · exact ⟨acts_modLane h fun hu => hu.congr rfl, by simp⟩
    · exact ⟨h, rfl⟩
  split
  · next hshort =>
    refine acts_addSoft (acts_raiseEvent (acts_parkEmpty ht.1 ?_)) (by decide)
    simpa [ht.2] using (Bool.and_eq_true_iff.mp hshort).2
  · exact ht.1

/-! ### Visits, and what decisions and outcomes ask of the actuator (R105 to R109) -/

theorem map_seq_modRecord (seq : BitVec 16) {f : LabelRecord → LabelRecord} (hf : ∀ r, (f r).seq = r.seq)
    (q : List LabelRecord) : (modRecord seq f q).map LabelRecord.seq = q.map LabelRecord.seq := by
  simp only [modRecord, List.map_map]
  refine List.map_congr_left fun r _ => ?_
  simp only [Function.comp_apply]
  split <;> simp [hf]

theorem acts_modVisit {seq : BitVec 16} {st : StationId} {f : Visit → Visit} (h : Acts s t) :
    Acts s (modVisit seq st f t) :=
  h.trans { Acts.refl t with queue := ⟨0, map_seq_modRecord seq (fun _ => by rfl) _⟩ }

theorem acts_strikeDecided {seq : BitVec 16} {st : StationId} (h : Acts s t) : Acts s (strikeDecided seq st t) := by
  unfold strikeDecided
  refine acts_modStation h fun _ hu => ?_
  dsimp only
  split
  · exact hu.congr rfl rfl
  · exact Station.Lawful.engage (hu.congr rfl rfl)

theorem acts_skipDecided {seq : BitVec 16} {st : StationId} (h : Acts s t) : Acts s (skipDecided seq st t) := by
  unfold skipDecided
  split
  · exact h
  · exact acts_modStation h fun _ hu => hu.cancelAndLift

theorem acts_idleLiftReached {st : StationId} (h : Acts s t) : Acts s (idleLiftReached st t) := by
  unfold idleLiftReached
  refine acts_modStation h fun _ hu => ?_
  dsimp only
  split
  · exact hu.congr rfl rfl
  · exact Station.Lawful.lift (hu.congr rfl rfl)

theorem acts_setIdleLift {st : StationId} {p : Pos} (h : Acts s t) : Acts s (setIdleLift st p t) := by
  unfold setIdleLift
  dsimp only
  split
  · exact acts_idleLiftReached (acts_modStation h fun _ hu => hu.congr rfl rfl)
  · exact acts_modStation h fun _ hu => hu.congr rfl rfl

theorem acts_strikeOutcome {seq : BitVec 16} {st : StationId} {p : Pos} {pitch : Nat} (h : Acts s t) :
    Acts s (strikeOutcome seq st p pitch t) := by
  unfold strikeOutcome
  split
  · split
    · exact acts_modStation h fun _ hu => hu.lift
    · exact h
  · exact acts_setIdleLift h

theorem acts_skipOutcome {seq : BitVec 16} {st : StationId} (h : Acts s t) : Acts s (skipOutcome seq st t) := by
  unfold skipOutcome
  split
  · split
    · exact acts_modStation h fun _ hu => hu.engage
    · exact h
  · exact h

/-! ### Conversion, hard causes and strokes (R55 to R57, R94, R96, R101, R102) -/

theorem acts_convertVisit {seq : BitVec 16} {st : StationId} {reason : SkipReason} {feeds : List FeedRecord}
    (h : Acts s t) : Acts s (convertVisit seq st reason feeds t) :=
  acts_skipDecided (acts_overLanes (fun _ _ h => acts_modLane h fun hu => hu.stopOne seq) (acts_modVisit h))

theorem acts_convertAll {st : StationId} (h : Acts s t) : Acts s (convertAll st t) := by
  unfold convertAll
  exact acts_foldl (fun _ _ => acts_convertVisit) _ h

theorem acts_haltLanes {st : StationId} (h : Acts s t) : Acts s (haltLanes st t) :=
  acts_overLanes (fun _ _ h => acts_modLane h fun hu => hu.halt _) h

theorem acts_faultActions {st : StationId} (h : Acts s t) : Acts s (faultActions st t) :=
  acts_haltLanes (acts_convertAll (acts_modStation h fun _ hu => hu.cancelAndLift))

theorem acts_addHard {c : Cause} {st : StationId} (h : Acts s t) (hc : c ≠ .idle ∧ c ≠ .thermal) :
    Acts s (addHard c st t) := by
  unfold addHard
  split
  · exact acts_faultActions (acts_addSoft h hc)
  · exact h

theorem acts_addReference (h : Acts s t) : Acts s (addReference t) :=
  acts_overStations (fun _ _ h => acts_addHard h (by decide)) h

theorem Station.Lawful.engagedConfirm {u : Station} {mode : PressMode} (h : u.Lawful mode) (level : Bool) :
    (u.engagedConfirm level).Lawful mode := by
  have hv : u.valve = .engage ↔ u.actuator = .engaging ∨ u.actuator = .engaged := h.1.valve
  unfold Station.engagedConfirm
  dsimp only
  split
  · next hr =>
    have ha : u.actuator = .engaging := by simpa using (Bool.and_eq_true_iff.mp hr).2
    exact Station.Lawful.stroke (u := { u with engagedIn := level }) (h.congr rfl rfl) ⟨by simp, by simp [hv, ha]⟩
  · exact h.congr rfl rfl

theorem Station.Lawful.liftedConfirm {u : Station} {mode : PressMode} (h : u.Lawful mode) (level : Bool) :
    (u.liftedConfirm level).Lawful mode := by
  have hv : u.valve = .engage ↔ u.actuator = .engaging ∨ u.actuator = .engaged := h.1.valve
  unfold Station.liftedConfirm
  dsimp only
  split
  · next hr =>
    have ha : u.actuator = .lifting := by simpa using (Bool.and_eq_true_iff.mp hr).2
    exact Station.Lawful.stroke (u := { u with liftedIn := level }) (h.congr rfl rfl) ⟨by simp, by simp [hv, ha]⟩
  · exact h.congr rfl rfl

theorem acts_jam {st : StationId} {detail : Nat} (h : Acts s t) :
    Acts s (addHard .actuator st (raiseEvent .impressionFault st.number detail
      (t.modStation st fun u => { u with valve := .lift, actuator := .jammed, stroke := none }))) :=
  acts_addHard (acts_raiseEvent (acts_modStation h fun _ hu => hu.stroke ⟨by simp, by simp⟩)) (by decide)

theorem acts_strokeExpired {st : StationId} (h : Acts s t) : Acts s (strokeExpired st t) := by
  unfold strokeExpired
  split
  · exact acts_jam h
  · exact acts_jam h
  · exact h

end

end Sys2Proof.Machine
end

section
/-! The operations of the label queue, the register loops and the heat zones keep the laws (O58, O59, O60). -/

namespace Sys2Proof.Machine

section
variable {s t : State}

/-! ### Retirement and outcomes (R43, R58 to R60) -/

theorem acts_drainedTest (h : Acts s t) : Acts s (drainedTest t) := by
  unfold drainedTest
  split
  · exact acts_raiseEvent (h.trans { Acts.refl t with })
  · exact h

theorem acts_planRetired {id : Nat} (h : Acts s t) : Acts s (planRetired id t) := by
  unfold planRetired
  split
  · exact acts_drainedTest (h.trans { Acts.refl t with })
  · split
    · exact h.trans { Acts.refl t with }
    · exact h

/-- The head of the queue leaves it. -/
theorem acts_tail {r : LabelRecord} {rest : List LabelRecord} (h : Acts s t) (hq : t.queue = r :: rest) :
    Acts s { t with queue := rest } :=
  h.trans { Acts.refl t with queue := ⟨1, by simp [hq]⟩ }

theorem acts_retireHeads {fuel : Nat} (h : Acts s t) : Acts s (retireHeads fuel t) := by
  induction fuel generalizing t with
  | zero => exact h
  | succ fuel ih =>
    unfold retireHeads
    split
    · exact h
    · next r rest hq =>
      split
      · exact ih (acts_planRetired (acts_tail h hq))
      · exact h

theorem acts_retire (h : Acts s t) : Acts s (retire t) := acts_retireHeads h

/-- Counting an outcome changes nothing the laws speak of. -/
theorem Station.Lawful.count {u : Station} {mode : PressMode} (h : u.Lawful mode) (o : VisitOutcome) :
    (u.count o).Lawful mode := by
  cases o <;> exact h.congr rfl rfl

/-- What is acted on only under a condition. -/
theorem acts_ite {c : Prop} [Decidable c] {t' : State} (h : Acts s t) (h' : Acts s t') :
    Acts s (if c then t else t') := by
  split
  · exact h
  · exact h'

theorem acts_fixOutcome {r : LabelRecord} {st : StationId} {v : Visit} {p : Pos} (h : Acts s t) :
    Acts s (fixOutcome r st v p t) := by
  unfold fixOutcome
  extract_lets o t₁ t₂ t₃ t₄ t₅ t₆
  have hcounted : Acts s t₃ :=
    acts_modStation (acts_overLanes (fun _ _ h => acts_modLane h fun hu => hu.congr rfl) (acts_modVisit h))
      fun _ hu => hu.count _
  have hasked : Acts s t₄ := acts_ite (acts_strikeOutcome hcounted) (acts_skipOutcome hcounted)
  have hraised : Acts s t₅ := acts_ite (acts_raiseEvent hasked) hasked
  exact acts_retire (acts_ite (acts_writeTrace hraised) hraised)

theorem acts_strikeIfReached {seq : BitVec 16} {st : StationId} (h : Acts s t) : Acts s (strikeIfReached seq st t) := by
  unfold strikeIfReached
  split
  · exact h
  · split
    · exact h
    · split
      · exact h
      · split
        · exact acts_fixOutcome h
        · exact h

/-! ### The strike decision (R52 to R54) -/

@[simp] theorem lowSpoolTest_lane_station (l k : LaneId) (t : State) :
    ((lowSpoolTest l t).lane k).station = (t.lane k).station := by
  unfold lowSpoolTest
  dsimp only
  split
  · rw [raiseEvent_lane]
    by_cases hk : k = l
    · subst hk; simp
    · rw [State.modLane_lane_of_ne t hk]
  · rfl

/-- A commit leaves every lane at its station. -/
@[simp] theorem commitFeed_lane_station (seq : BitVec 16) (f : FeedPlan) (l k : LaneId) (t : State) :
    ((commitFeed seq f l t).lane k).station = (t.lane k).station := by
  rw [commitFeed, lowSpoolTest_lane_station]
  by_cases hk : k = l
  · subst hk
    rw [State.modLane_lane]
    rfl
  · rw [State.modLane_lane_of_ne t hk]

theorem acts_commitFeeds {seq : BitVec 16} (feeds : List (LaneId × FeedPlan))
    (hf : ∀ x ∈ feeds, (t.lane x.1).station ≠ none) (h : Acts s t) :
    Acts s (feeds.foldl (fun s x => commitFeed seq x.2 x.1 s) t) := by
  induction feeds generalizing t with
  | nil => exact h
  | cons x xs ih =>
    refine ih (fun y hy => ?_) (acts_commitFeed h (hf x List.mem_cons_self))
    rw [commitFeed_lane_station]
    exact hf y (List.mem_cons_of_mem x hy)

theorem mem_lanesOf {l : LaneId} {st : StationId} : l ∈ t.lanesOf st ↔ (t.lane l).station = some st := by
  have hall : l ∈ allLanes := by cases l <;> decide
  simp [State.lanesOf, hall]

theorem mem_committing {l : LaneId} {st : StationId} {motif : Nat} (h : l ∈ t.committing st motif) :
    (t.lane l).station = some st := by
  unfold State.committing State.concerned at h
  split at h
  · exact mem_lanesOf.mp (List.mem_filter.mp h).1
  · nomatch h

theorem acts_carryStrike {r : LabelRecord} {st : StationId} {p : Pos} (h : Acts s t) :
    Acts s (carryStrike r st p t) := by
  unfold carryStrike
  refine acts_strikeDecided (acts_countIdle (acts_commitFeeds _ (fun x hx => ?_) (acts_modVisit h)))
  obtain ⟨l, hl, rfl⟩ := List.mem_map.mp hx
  have hst : (t.lane l).station = some st := mem_committing hl
  exact fun hn => nomatch hst.symm.trans hn

theorem acts_carrySkip {r : LabelRecord} {st : StationId} {p : Pos} {reason : SkipReason} {checked : Bool}
    (h : Acts s t) : Acts s (carrySkip r st p reason checked t) := by
  unfold carrySkip
  exact acts_countIdle (acts_foldl (fun _ _ => acts_checkFailed) _ (acts_skipDecided (acts_modVisit h)))

theorem acts_decideVisit {seq : BitVec 16} {st : StationId} (h : Acts s t) : Acts s (decideVisit seq st t) := by
  unfold decideVisit
  split
  · exact h
  · split
    · exact h
    · split
      · exact h
      · split
        · exact acts_carryStrike h
        · exact acts_carrySkip h

/-! ### The unusable run, drift and windows (R45 to R51) -/

theorem acts_unusableReading {st : StationId} (h : Acts s t) : Acts s (unusableReading st t) := by
  unfold unusableReading
  dsimp only
  have hrun := acts_modStation (st := st) (f := fun u => { u with unusable := min 31 ((t.station st).unusable + 1) }) h
    fun _ hu => hu.congr rfl rfl
  split
  · exact acts_raiseEvent (acts_addSoft hrun (by decide))
  · exact hrun

theorem acts_usableReading {st : StationId} (h : Acts s t) : Acts s (usableReading st t) :=
  acts_dropCause (acts_modStation h fun _ hu => hu.congr rfl rfl) (by decide)

theorem acts_learnDrift {r : LabelRecord} {st : StationId} {mark : Pos} (h : Acts s t) :
    Acts s (learnDrift r st mark t) := by
  unfold learnDrift
  split
  · exact acts_modStation h fun _ hu => hu.congr rfl rfl
  · exact h

theorem acts_windowExpired {seq : BitVec 16} {st : StationId} (h : Acts s t) : Acts s (windowExpired seq st t) :=
  acts_strikeIfReached (acts_decideVisit (acts_unusableReading (acts_modVisit h)))

theorem acts_stationWindowExpiry (h : Acts s t) : Acts s (stationWindowExpiry t) := by
  unfold stationWindowExpiry
  split
  · split
    · exact acts_windowExpired h
    · exact h
  · exact h

theorem acts_strikePoint (h : Acts s t) : Acts s (strikePoint t) := by
  unfold strikePoint
  split
  · split
    · exact acts_strikeIfReached h
    · exact h
  · exact h

/-! ### The trim (R67, R82) -/

/-- A trim through the saturation rule lies within the limit. -/
theorem Tuning.natAbs_saturate_le (t : Tuning) (trim : Int) : (t.saturate trim).natAbs ≤ t.trimLimit := by
  unfold Tuning.saturate clampInt
  omega

theorem acts_trimSaturated {st : StationId} {source : Nat} (h : Acts s t) : Acts s (trimSaturated st source t) :=
  acts_raiseEvent (acts_modStation h fun _ hu => hu.congr rfl rfl)

theorem acts_setTrimTo {st : StationId} {trim : Int} {source : Nat} (h : Acts s t) :
    Acts s (setTrimTo st trim source t) := by
  unfold setTrimTo
  dsimp only
  have hset := acts_modStation (st := st) (f := fun u => { u with loop := { u.loop with
      trim := (t.station st).loop.tuning.saturate trim, settleCtr := (t.station st).loop.tuning.settle } }) h
    fun _ hu => hu.trimmed (Tuning.natAbs_saturate_le _ _) rfl
  split
  · exact hset
  · exact acts_trimSaturated hset

/-! ### Pairing and correction (R70 to R81) -/

/-- A correction keeps the trim or saturates a new one (R67). -/
theorem RegLoop.natAbs_correct_le {l : RegLoop} (h : l.trim.natAbs ≤ l.tuning.trimLimit) (flags : RegFlags)
    (agree : Bool) (e : Int) : (l.correct flags agree e).trim.natAbs ≤ l.tuning.trimLimit := by
  unfold RegLoop.correct
  dsimp only
  split
  · exact h
  · split
    · exact h
    · split
      · exact h
      · split
        · exact h
        · exact Tuning.natAbs_saturate_le _ _

theorem acts_pairUp {st : StationId} {mark : Pos} {seq : BitVec 16} {slot : Nat} {gate : Pos} {gateSlot : Nat}
    (h : Acts s t) : Acts s (pairUp st mark seq slot gate gateSlot t) := by
  unfold pairUp
  extract_lets l e agree c t₁ t₂ t₃
  have hpaired : Acts s t₂ :=
    acts_modStation (acts_modVisit h) fun _ hu => hu.trimmed (RegLoop.natAbs_correct_le hu.2.2.1 _ _ _) rfl
  have hread : Acts s t₃ := acts_ite (acts_usableReading hpaired) (acts_unusableReading hpaired)
  exact acts_ite (acts_raiseEvent hread) (acts_ite (acts_trimSaturated hread) hread)

theorem acts_endNoGate {st : StationId} {w : WaitingMark} (h : Acts s t) : Acts s (endNoGate st w t) :=
  acts_unusableReading (acts_modVisit h)

theorem acts_waitingExpired {st : StationId} {w : WaitingMark} (h : Acts s t) : Acts s (waitingExpired st w t) :=
  acts_endNoGate (acts_modStation h fun _ hu => hu.congr rfl rfl)

theorem acts_orphanGate {st : StationId} (h : Acts s t) : Acts s (orphanGate st t) :=
  acts_modStation h fun _ hu => hu.congr rfl rfl

theorem acts_markWaits {st : StationId} {mark : Pos} {seq : BitVec 16} {slot : Nat} (h : Acts s t) :
    Acts s (markWaits st mark seq slot t) := by
  unfold markWaits
  extract_lets t₁ tuning w t₂
  have hfree : Acts s t₁ := by
    dsimp only [t₁]
    split
    · exact acts_waitingExpired h
    · exact h
  have hheld : Acts s t₂ := acts_modStation hfree fun _ hu => hu.congr rfl rfl
  exact acts_ite (acts_waitingExpired hheld) hheld

theorem acts_takeMark {st : StationId} {mark : Pos} {seq : BitVec 16} {slot : Nat} (h : Acts s t) :
    Acts s (takeMark st mark seq slot t) := by
  unfold takeMark
  dsimp only
  split
  · split
    · exact acts_pairUp (acts_modStation h fun _ hu => hu.congr rfl rfl)
    · exact acts_markWaits h
  · exact acts_markWaits h

theorem acts_gateWaits {st : StationId} {gate : Pos} {slot : Nat} (h : Acts s t) :
    Acts s (gateWaits st gate slot t) := by
  unfold gateWaits
  extract_lets t₁ tuning g t₂
  have hfree : Acts s t₁ := by
    dsimp only [t₁]
    split
    · exact acts_orphanGate h
    · exact h
  have hheld : Acts s t₂ := acts_modStation hfree fun _ hu => hu.congr rfl rfl
  exact acts_ite (acts_orphanGate hheld) hheld

theorem acts_takeGate {st : StationId} {gate : Pos} {slot : Nat} (h : Acts s t) :
    Acts s (takeGate st gate slot t) := by
  unfold takeGate
  dsimp only
  split
  · split
    · exact acts_pairUp (acts_modStation h fun _ hu => hu.congr rfl rfl)
    · exact acts_gateWaits h
  · exact acts_gateWaits h

theorem acts_gateTaken {st : StationId} {index : Bool} (h : Acts s t) : Acts s (gateTaken st index t) := by
  have hcursor {c : Nat} : Acts s (t.modStation st fun u => { u with loop := { u.loop with
      cursor := c, synced := u.loop.synced || index } }) := acts_modStation h fun _ hu => hu.congr rfl rfl
  unfold gateTaken
  dsimp only
  split
  · exact acts_takeGate hcursor
  · exact hcursor
  · exact acts_takeGate hcursor
  · refine acts_takeGate ?_
    split
    · exact hcursor
    · exact acts_raiseEvent hcursor

theorem acts_waitingMarkExpiry {st : StationId} (h : Acts s t) : Acts s (waitingMarkExpiry st t) := by
  unfold waitingMarkExpiry
  split
  · split
    · exact acts_waitingExpired h
    · exact h
  · exact h

theorem acts_unpairedGateExpiry {st : StationId} (h : Acts s t) : Acts s (unpairedGateExpiry st t) := by
  unfold unpairedGateExpiry
  split
  · split
    · exact acts_orphanGate h
    · exact h
  · exact h

theorem acts_stationMatch {st : StationId} {mark : Pos} {r : LabelRecord} (h : Acts s t) :
    Acts s (stationMatch st mark r t) :=
  acts_takeMark (acts_strikeIfReached (acts_decideVisit (acts_learnDrift (acts_modVisit h))))

theorem acts_stationMark {st : StationId} {mark : Pos} (h : Acts s t) : Acts s (stationMark st mark t) := by
  have hstray := acts_modStation (st := st)
    (f := fun u => { u with channel := { u.channel with stray := bump16 u.channel.stray } }) h fun _ hu => hu.congr rfl rfl
  unfold stationMark
  dsimp only
  split
  · split
    · exact acts_stationMatch h
    · exact hstray
  · exact hstray

/-! ### Heat zones (R138 to R142) -/

theorem HeatZone.holds_iff (z : HeatZone) :
    z.holds = true ↔ z.enabled = true ∧ z.state ≠ .ready ∧ z.state ≠ .fault := by
  simp [HeatZone.holds, and_assoc]

/-- A station whose zone and THERMAL agree. -/
theorem Station.Lawful.zoned {u : Station} {mode : PressMode} (h : u.Lawful mode) {z : HeatZone} {b : Bool}
    (hz : z.Regular) (hb : u.setup.enabled = true → b = z.holds) (hd : u.setup.enabled = false → b = u.hold.thermal) :
    ({ u with zone := z, hold := { u.hold with thermal := b } } : Station).Lawful mode := by
  obtain ⟨hk, hh, ht, -, hc⟩ := h
  refine ⟨⟨hk.timer, hk.valve⟩, fun he => ?_, ht, hz, hc.idle, fun he => ?_⟩
  · exact (congrArg (fun b => ({ u.hold with thermal := b } : HoldSet)) (hd he)).trans (hh he)
  · have hbz : b = z.holds := hb he
    simp only [hbz]
    exact z.holds_iff

/-- A disabled station does not hold THERMAL. -/
theorem Station.Lawful.thermal_eq_false {u : Station} {mode : PressMode} (h : u.Lawful mode)
    (he : u.setup.enabled = false) : u.hold.thermal = false := by
  have hempty : u.hold = HoldSet.empty := h.2.1 he
  rw [hempty]
  rfl

theorem State.modStation_modStation (t : State) (st : StationId) (f g : Station → Station) :
    (t.modStation st f).modStation st g = t.modStation st fun u => g (f u) := by
  simp only [State.modStation, State.setStation, State.station, PerStation.get_put_self, PerStation.put_put]

/-- A zone's change with THERMAL following it, at an enabled station or when it releases it (R94, R95). -/
theorem setZone_eq (st : StationId) (z : HeatZone) (t : State) :
    setZone st z t = t.modStation st fun u => { u with
      zone := z
      hold := if z.holds && !u.setup.enabled then u.hold else { u.hold with thermal := z.holds } } := by
  unfold setZone addSoft dropCause
  dsimp only
  simp only [State.modStation_modStation, State.enabled, State.modStation_station]
  cases hz : z.holds
  · simp [HoldSet.put]
  · cases he : (t.station st).setup.enabled <;> simp [State.modStation, he, HoldSet.put]

theorem acts_setZone {st : StationId} {z : HeatZone} (h : Acts s t)
    (hz : (t.station st).zone.Regular → z.Regular) : Acts s (setZone st z t) := by
  rw [setZone_eq]
  refine acts_modStation h fun mode hu => ?_
  cases he : (t.station st).setup.enabled
  · cases hh : z.holds
    · exact hu.zoned (hz hu.2.2.2.1) (fun h' => absurd h' (by simp [he])) fun _ => (hu.thermal_eq_false he).symm
    · have hzoned := hu.zoned (hz hu.2.2.2.1) (b := (t.station st).hold.thermal) (fun h' => absurd h' (by simp [he]))
        fun _ => rfl
      simpa [he] using hzoned
  · have hzoned := hu.zoned (hz hu.2.2.2.1) (b := z.holds) (fun _ => rfl) fun h' => absurd h' (by simp [he])
    simpa [he] using hzoned

/-- A zone in FAULT, its heater off and its soak timer stopped (R141). -/
theorem HeatZone.regular_fault {z : HeatZone} (he : z.enabled = true) :
    ({ z with heater := false, soakTimer := none, state := .fault } : HeatZone).Regular :=
  ⟨by simp [he], by simp, fun _ => rfl⟩

/-- The transmitter's choice has nothing to do with the stations. -/
theorem txChoose_modStation (t : State) (st : StationId) (f : Station → Station) :
    (txChoose t).modStation st f = txChoose (t.modStation st f) := by
  obtain ⟨pending, ref, entry, m0, zones, tracker, queue, stations, lanes, job, mode, wake,
    ⟨held, gap, ab, bl, bc, rx, ov, lk, lt, ovs, rp, slot, tx, rate⟩, ⟨flags, mask, records, due⟩, trace⟩ := t
  cases tx <;> cases slot <;> cases due <;> rfl

/-- A raise has nothing to do with the stations. -/
theorem raiseEvent_modStation (k : EventKind) (unit detail : Nat) (t : State) (st : StationId) (f : Station → Station) :
    (raiseEvent k unit detail t).modStation st f = raiseEvent k unit detail (t.modStation st f) := by
  rw [raiseEvent_eq, raiseEvent_eq, State.modStation_events]
  split
  · rfl
  · split
    · rw [txChoose_modStation]
      rfl
    · rfl

theorem acts_zoneFaults {st : StationId} {cause : Nat} (h : Acts s t) (he : (t.station st).zone.enabled = true) :
    Acts s (zoneFaults st cause t) := by
  unfold zoneFaults
  refine acts_addHard ?_ (by decide)
  rw [dropCause, raiseEvent_modStation, State.modStation_modStation]
  exact acts_raiseEvent (acts_modStation h fun _ hu => hu.zoned (HeatZone.regular_fault he)
    (fun _ => by simp [HeatZone.holds]) fun hd => (hu.thermal_eq_false hd).symm)

/-- An enabled zone is not OFF, nor a disabled one anything else (R138). -/
theorem HeatZone.Regular.enabled_of {z : HeatZone} (h : z.Regular) (hs : z.state ≠ .off) : z.enabled = true := by
  simpa using mt h.off.mpr hs

/-- An enabled zone takes a state with the soak timer that goes with it, its heater off in FAULT. -/
theorem HeatZone.regular_of {z : HeatZone} (he : z.enabled = true) (hs : z.state ≠ .off)
    (hsoak : z.soakTimer.isSome = true ↔ z.state = .soaking) (hf : z.state = .fault → z.heater = false) : z.Regular :=
  ⟨iff_of_false hs (by simp [he]), hsoak, fun h => h.elim (absurd · hs) hf⟩

theorem acts_reheatZone {st : StationId} (h : Acts s t) : Acts s (reheatZone st t) := by
  unfold reheatZone
  dsimp only
  split
  · next hz =>
    have he : (t.station st).zone.enabled = true := (Bool.and_eq_true_iff.mp hz).1
    exact acts_setZone h fun _ => HeatZone.regular_of he (by simp [HeatZone.reheat]) (by simp [HeatZone.reheat])
      (by simp [HeatZone.reheat])
  · exact h

theorem acts_heatReady {st : StationId} (h : Acts s t) : Acts s (heatReady st t) := acts_raiseEvent h

/-- The hysteresis rule changes nothing but the heater. -/
theorem HeatZone.regulate_frame (z : HeatZone) (mode : PressMode) (x : Int) :
    ∃ heater, z.regulate mode x = { z with heater := heater } := by
  unfold HeatZone.regulate
  dsimp only
  split
  · exact ⟨_, rfl⟩
  · split
    · exact ⟨_, rfl⟩
    · exact ⟨z.heater, rfl⟩

/-- A zone takes its band test's state: what it was, and the timer that goes with it (R140). -/
theorem acts_bandTest {st : StationId} {z : HeatZone} {x : Int} (h : Acts s t) (he : z.enabled = true)
    (hf : z.state ≠ .fault) (hsoak : (t.station st).zone.Regular → (z.soakTimer.isSome = true ↔ z.state = .soaking))
    (hoff : z.state ≠ .off) : Acts s (bandTest st z x t) := by
  unfold bandTest
  split
  · next hz _ =>
    split
    · exact acts_heatReady (acts_setZone h fun hr => HeatZone.regular_of he nofun (by simp [hsoak hr, hz]) nofun)
    · exact acts_setZone h fun _ => HeatZone.regular_of he nofun (by simp) nofun
  · exact acts_setZone h fun _ => HeatZone.regular_of he nofun (by simp [HeatZone.reheat]) nofun
  · next hz _ => exact acts_setZone h fun hr => HeatZone.regular_of he nofun (by simp [hsoak hr, hz]) nofun
  · next hz _ => exact acts_setZone h fun hr => HeatZone.regular_of he nofun (by simp [hsoak hr, hz]) nofun
  · exact acts_setZone h fun hr => HeatZone.regular_of he hoff (hsoak hr) (absurd · hf)

/-- A change of a zone that leaves THERMAL's condition as it was (R95). -/
theorem acts_modZone {st : StationId} {z : HeatZone} (h : Acts s t) (hz : (t.station st).zone.Regular → z.Regular)
    (hh : z.holds = (t.station st).zone.holds) : Acts s (t.modStation st fun u => { u with zone := z }) :=
  acts_modStation h fun _ hu => hu.zoned (b := (t.station st).hold.thermal) (hz hu.2.2.2.1)
    (fun he => Bool.eq_iff_iff.mpr ((hu.2.2.2.2.thermal he).trans ((HeatZone.holds_iff _).symm.trans (by rw [hh]))))
    fun _ => rfl

theorem acts_temperatureSample {st : StationId} {x : Int} (h : Acts s t) : Acts s (temperatureSample st x t) := by
  unfold temperatureSample
  extract_lets latest z t₁ z'
  have hsampled : Acts s t₁ := acts_modZone h (fun hr => ⟨hr.off, hr.soak, hr.heater⟩) rfl
  split
  · exact hsampled
  · next hz =>
    simp only [Bool.or_eq_true, Bool.not_eq_true', beq_iff_eq, not_or, Bool.not_eq_false] at hz
    obtain ⟨⟨he, hoff⟩, hfault⟩ := hz
    have hzone : (t₁.station st).zone = z := by simp [t₁]
    split
    · exact acts_zoneFaults hsampled (by rw [hzone]; exact he)
    · obtain ⟨heater, hr⟩ := z.regulate_frame t₁.mode x
      have hregulated : z' = { z with heater := heater } := hr
      rw [hregulated]
      split
      · exact acts_modZone hsampled
          (fun hr => HeatZone.regular_of he hoff (by rw [hzone] at hr; exact hr.soak) (absurd · hfault)) (by rw [hzone]; rfl)
      · exact acts_bandTest hsampled he hfault (fun hr => by rw [hzone] at hr; exact hr.soak) hoff

theorem acts_sensorFault {st : StationId} {level : Bool} (h : Acts s t) : Acts s (sensorFault st level t) := by
  unfold sensorFault
  extract_lets z t₁
  have htaken : Acts s t₁ := acts_modZone h (fun hr => ⟨hr.off, hr.soak, hr.heater⟩) rfl
  split
  · next hz =>
    simp only [Bool.and_eq_true] at hz
    obtain ⟨⟨-, he⟩, -⟩ := hz
    exact acts_zoneFaults htaken (by simp only [t₁, State.modStation_station]; exact he)
  · exact htaken

theorem acts_soakExpired {st : StationId} (h : Acts s t) : Acts s (soakExpired st t) := by
  unfold soakExpired
  dsimp only
  split
  · next hz =>
    exact acts_heatReady (acts_setZone h fun hr =>
      HeatZone.regular_of (hr.enabled_of (by simp [hz])) nofun (by simp) nofun)
  · exact h

end

end Sys2Proof.Machine
end

section
/-! The operations of the reference unit, the marks, the splices and the entry tracker keep the laws (O58, O59, O60). -/

namespace Sys2Proof.Machine

/-- What the laws speak of, but for the splice zones and the tracker's window. -/
def State.ruled (s : State) : (List Instr × PressMode × Bool × BitVec 16 × List LabelRecord) ×
    EventSet × TraceQueue × List Frame × PerStation Station × PerLane Lane :=
  ((s.pending, s.mode, s.wake.isSome, s.tracker.seqCounter, s.queue), s.events, s.trace, s.link.rxQueue, s.stations,
    s.lanes)

/-- What differs in nothing the laws speak of but zones and tracker keeps the laws when it keeps theirs. -/
theorem Keeps.of_ruled {s t : State} (he : t.ruled = s.ruled)
    (zones : s.zones.length ≤ Config.zoneCapacity → t.zones.length ≤ Config.zoneCapacity)
    (tracker : s.tracker.Windowed → t.tracker.Windowed) : Keeps s t := by
  simp only [State.ruled, Prod.mk.injEq] at he
  obtain ⟨⟨pending, mode, wake, seqCounter, queue⟩, events, trace, received, stations, lanes⟩ := he
  exact {
    pending, mode, wake, tracker
    due := events ▸ id
    capacities := fun h => ⟨queue ▸ h.queue, trace ▸ h.trace, received ▸ h.received, zones h.zones⟩
    numbered := fun h => h.of_drop (n := 0) (by rw [queue]; rfl) seqCounter
    lanes := fun l => by rw [State.lane, State.lane, lanes]; exact id
    stations := fun st mode => by rw [State.station, State.station, stations]; exact id }

/-- What differs in nothing the laws speak of keeps them. -/
theorem Keeps.of_same {s t : State} (he : t.ruled = s.ruled) (hz : t.zones = s.zones)
    (ht : t.tracker = s.tracker) : Keeps s t :=
  .of_ruled he (fun h => hz ▸ h) fun h => ht ▸ h

section
variable {s t : State}

/-- What only stations, lanes, live records, job, events and trace do comes on top. -/
theorem Keeps.acts {u : State} (h : Keeps s t) (h' : Acts t u) : Keeps s u := h.trans h'.keeps

theorem keeps_ite {c : Prop} [Decidable c] {t' : State} (h : Keeps s t) (h' : Keeps s t') :
    Keeps s (if c then t else t') := by
  split
  · exact h
  · exact h'

theorem keeps_raiseEvent {k : EventKind} {unit detail : Nat} (h : Keeps s t) :
    Keeps s (raiseEvent k unit detail t) := h.acts (acts_raiseEvent (.refl t))

/-! ### The flush (R12) -/

theorem keeps_enterSearch (h : Keeps s t) : Keeps s (enterSearch t) :=
  h.trans (.of_ruled rfl (fun h => h) fun _ => iff_of_false nofun nofun)

theorem keeps_enterOff (h : Keeps s t) : Keeps s (enterOff t) :=
  h.trans (.of_ruled rfl (fun h => h) fun _ => iff_of_false nofun nofun)

theorem acts_flushJob (h : Acts s t) : Acts s (flushJob t) := by
  unfold flushJob
  split
  · exact acts_raiseEvent (h.trans { Acts.refl t with })
  · exact h

/-- The queue is emptied. -/
theorem acts_emptyQueue (h : Acts s t) : Acts s (emptyQueue (voidVisits t)) :=
  h.trans { Acts.refl t with queue := ⟨t.queue.length, by simp [emptyQueue]⟩ }

theorem keeps_flush (h : Keeps s t) : Keeps s (flush t) := by
  unfold flush
  extract_lets removed t₁ t₂ t₃ t₄ t₅ t₆ ref t₇ t₈
  have hstations : Keeps s t₂ :=
    h.acts (acts_overStations (fun _ _ h => acts_modStation h fun _ hu => hu.congr rfl rfl) (acts_emptyQueue (.refl t)))
  have hlanes : Keeps s t₄ :=
    (hstations.trans (t := t₂) (u := t₃) (.of_same rfl rfl rfl)).acts
      (acts_overLanes (fun _ _ h => acts_modLane h fun hu => hu.flush _) (.refl t₃))
  have htracker : Keeps s t₅ := keeps_ite (keeps_enterSearch hlanes) (keeps_enterOff hlanes)
  have hjob : Keeps s t₆ := htracker.acts (acts_flushJob (.refl t₅))
  have hwake : Keeps s t₈ :=
    (hjob.trans (t := t₆) (u := t₇) (.of_same rfl rfl rfl)).trans (.of_same (by simp [State.ruled, t₈]) rfl rfl)
  exact keeps_raiseEvent hwake

/-! ### Sources and counts (R3 to R16) -/

/-- A change of the reference unit alone. -/
theorem keeps_ref {r : Reference} (h : Keeps s t) : Keeps s { t with ref := r } := h.trans (.of_same rfl rfl rfl)

theorem keeps_closeSpan (h : Keeps s t) : Keeps s (closeSpan t) := by
  unfold closeSpan
  split
  · exact h
  · exact keeps_ite (keeps_ite (keeps_raiseEvent (keeps_ref h)) (keeps_ref h)) h

theorem keeps_addReference (h : Keeps s t) : Keeps s (addReference t) := h.acts (acts_addReference (.refl t))

theorem keeps_sourceFaults {x : Source} (h : Keeps s t) : Keeps s (sourceFaults x t) :=
  keeps_raiseEvent (keeps_ite (keeps_flush (keeps_addReference (keeps_ref h))) (keeps_ref h))

theorem keeps_sourceFaultAsserted {x : Source} (h : Keeps s t) : Keeps s (sourceFaultAsserted x t) := by
  unfold sourceFaultAsserted
  dsimp only
  split
  · exact keeps_sourceFaults (keeps_ref h)
  · exact keeps_sourceFaults (keeps_ref h)
  · exact keeps_ref h

theorem keeps_motionExpired {x : Source} (h : Keeps s t) : Keeps s (motionExpired x t) :=
  keeps_ite (keeps_ref h) h

theorem keeps_reverseTest (h : Keeps s t) : Keeps s (reverseTest t) :=
  keeps_ite (keeps_flush (keeps_raiseEvent (keeps_addReference h))) h

theorem keeps_moveWeb {forward : Bool} {k : Nat} (h : Keeps s t) : Keeps s (moveWeb forward k t) :=
  keeps_ite (keeps_ref h) (keeps_reverseTest (keeps_ref h))

theorem keeps_countTaken {x : Source} {forward : Bool} (h : Keeps s t) : Keeps s (countTaken x forward t) :=
  keeps_ref (keeps_ite (keeps_closeSpan (keeps_moveWeb h)) (keeps_ref h))

theorem keeps_pairChanges {x : Source} {a b : Bool} (h : Keeps s t) : Keeps s (pairChanges x a b t) := by
  unfold pairChanges
  extract_lets u t₁
  have htaken : Keeps s t₁ := keeps_ref h
  split
  · exact keeps_countTaken htaken
  · exact keeps_countTaken htaken
  · exact htaken

theorem keeps_dieGate {st : StationId} {index : Bool} (h : Keeps s t) : Keeps s (dieGate st index t) :=
  keeps_ite (keeps_ref h) (keeps_ite (h.acts (acts_gateTaken (.refl t))) h)

/-! ### Splice zones (R24 to R26, R56) -/

theorem acts_flagSplice {r : LabelRecord} (h : Acts s t) : Acts s (flagSplice r t) := by
  unfold flagSplice
  dsimp only
  refine acts_overStations (fun st t h => ?_)
    (h.trans { Acts.refl t with queue := ⟨0, map_seq_modRecord r.seq (fun _ => by rfl) _⟩ })
  split
  · exact acts_ite (acts_convertVisit h) h
  · exact h

/-- A full list lets its oldest zone go first (R24). -/
theorem joinZones_length_le {zs : List SpliceZone} (h : zs.length ≤ Config.zoneCapacity) (z : SpliceZone) :
    (joinZones zs z).length ≤ Config.zoneCapacity := by
  unfold joinZones Config.zoneCapacity at *
  split <;> simp only [List.length_append, List.length_drop, List.length_singleton] <;> omega

theorem keeps_spliceEdge {leading : Bool} (h : Keeps s t) : Keeps s (spliceEdge leading t) := by
  unfold spliceEdge
  refine keeps_ite (keeps_ref h) (keeps_ite ?_ h)
  have hjoined : Keeps s { t with zones := joinZones t.zones (t.entry.zoneAt t.web) } :=
    h.trans (.of_ruled rfl (fun hz => joinZones_length_le hz _) fun h => h)
  exact hjoined.acts (acts_foldl (fun _ _ => acts_flagSplice) _ (.refl _))

theorem keeps_spliceZoneRemoval (h : Keeps s t) : Keeps s (spliceZoneRemoval t) := by
  unfold spliceZoneRemoval
  split
  · exact h.trans (.of_ruled rfl (fun hz => (List.length_erase_le).trans hz) fun h => h)
  · exact h

/-! ### The batch and the changeover (R34 to R36, R166) -/

theorem acts_changeover {k : Nat} (h : Acts s t) : Acts s (changeover k t) := by
  unfold changeover
  split
  · exact acts_raiseEvent (h.trans { Acts.refl t with })
  · exact h

theorem keeps_drainedTest (h : Keeps s t) : Keeps s (drainedTest t) := h.acts (acts_drainedTest (.refl t))

theorem keeps_batchStop (h : Keeps s t) : Keeps s (batchStop t) :=
  keeps_drainedTest (keeps_enterSearch (h.acts { Acts.refl t with }))

theorem keeps_batchTest (h : Keeps s t) : Keeps s (batchTest t) := keeps_ite (keeps_batchStop h) h

/-! ### Admission (R29, R40 to R44) -/

theorem acts_expireReached {seq : BitVec 16} {fuel : Nat} (h : Acts s t) : Acts s (expireReached seq fuel t) := by
  induction fuel generalizing t with
  | zero => exact h
  | succ fuel ih =>
    unfold expireReached
    dsimp only
    split
    · exact ih (acts_windowExpired h)
    · exact h

/-- The next record takes the next sequence number (R40). -/
theorem State.Numbered.join {s t : State} (h : s.Numbered) {r : LabelRecord} (hr : r.seq = s.tracker.seqCounter)
    (hq : t.queue = s.queue ++ [r]) (hc : t.tracker.seqCounter = s.tracker.seqCounter + 1) : t.Numbered := by
  intro j x hx
  rw [hq] at hx ⊢
  rw [hc, List.length_append, List.length_singleton]
  rcases Nat.lt_trichotomy j s.queue.length with hj | rfl | hj
  · rw [List.getElem?_append_left hj] at hx
    rw [h j x hx, show s.queue.length + 1 - j = s.queue.length - j + 1 by omega, BitVec.ofNat_add]
    simp [BitVec.sub_eq_add_neg]
  · obtain rfl : r = x := by simpa using hx
    simp [hr]
  · simp [List.getElem?_append_right hj.le, show j - s.queue.length ≠ 0 by omega] at hx

/-- The queue and the tracker's counter as a record joins a queue with room (R29 steps 3 to 5). -/
theorem keeps_join {r : LabelRecord} {job : JobStore} (h : Keeps s t) (hr : r.seq = t.tracker.seqCounter)
    (hroom : t.queue.length < Config.queueCapacity) :
    Keeps s { t with tracker := { t.tracker with seqCounter := t.tracker.seqCounter + 1 }
                     queue := t.queue ++ [r], job } :=
  h.trans ⟨rfl, rfl, rfl, id, fun hc => ⟨by simpa using hroom, hc.trace, hc.received, hc.zones⟩,
    fun hn => hn.join hr rfl rfl, id, fun _ => id, fun _ _ => id⟩

/-- A tracker that is LOCKED or locks now takes its entry window (R29 step 6). -/
theorem keeps_afterTracking {c : AdmitCase} {plan cursor : Nat} {w : EntryWindow} (h : Keeps s t)
    (hlocked : c = .lock ∨ t.tracker.state = .locked) :
    Keeps s (afterTracking c plan { t with tracker := { t.tracker with cursor, window := some w } }) := by
  cases c with
  | lock => exact keeps_raiseEvent (h.trans (.of_ruled rfl (fun h => h) fun _ => iff_of_true rfl rfl))
  | inWindow => exact h.trans (.of_ruled rfl (fun h => h) fun _ => iff_of_true (hlocked.resolve_left nofun) rfl)
  | slip k =>
    exact keeps_raiseEvent (h.trans (.of_ruled rfl (fun h => h) fun _ => iff_of_true (hlocked.resolve_left nofun) rfl))
  | predicted => exact h.trans (.of_ruled rfl (fun h => h) fun _ => iff_of_true (hlocked.resolve_left nofun) rfl)

theorem keeps_admitUnder {plan : Plan} {slot : PlanSlot} {k : Nat} {e : Pos} {c : AdmitCase} {cycleMark : Bool}
    (h : Keeps s t) (hlocked : c = .lock ∨ t.tracker.state = .locked)
    (hroom : t.queue.length < Config.queueCapacity) : Keeps s (admitUnder plan slot k e c cycleMark t) := by
  unfold admitUnder
  extract_lets r tracker job t₁ t₂ tracker' t₃
  have hacts : Acts { t₁ with queue := t.queue ++ [r], job := { t₁.job with activeLive := t₁.job.activeLive + 1 } } t₂ :=
    acts_retire (acts_expireReached (.refl _))
  have hjoined : Keeps s t₂ := (keeps_join (r := r) h rfl hroom).acts hacts
  have htracker : t₂.tracker.state = t.tracker.state := by rw [hacts.tracker]
  exact keeps_batchTest (keeps_afterTracking hjoined (hlocked.imp_right htracker.trans))

theorem keeps_admitLabel {k : Nat} {e : Pos} {c : AdmitCase} {cycleMark : Bool} (h : Keeps s t)
    (hlocked : c = .lock ∨ t.tracker.state = .locked) : Keeps s (admitLabel k e c cycleMark t) := by
  unfold admitLabel
  split
  · exact keeps_enterSearch (keeps_raiseEvent h)
  · next hroom =>
    have hacts : Acts t (changeover k t) := acts_changeover (.refl t)
    have hlen : (changeover k t).queue.length ≤ t.queue.length := by
      obtain ⟨n, hn⟩ := hacts.queue
      have := congrArg List.length hn
      simp only [List.length_map, List.length_drop] at this
      omega
    dsimp only
    split
    · exact h.acts hacts
    · split
      · exact h.acts hacts
      · exact keeps_admitUnder (h.acts hacts) (by rwa [hacts.tracker]) (by omega)

theorem keeps_searchMark {p : Pos} {c : MarkClass} (h : Keeps s t) : Keeps s (searchMark p c t) := by
  unfold searchMark
  split
  · exact h
  · exact h
  · exact keeps_admitLabel h (.inl rfl)

theorem keeps_entryStray (h : Keeps s t) : Keeps s (entryStray t) := h.trans (.of_same rfl rfl rfl)

theorem keeps_lockedMark {p : Pos} {c : MarkClass} (h : Keeps s t) (hl : t.tracker.state = .locked) :
    Keeps s (lockedMark p c t) := by
  unfold lockedMark
  split
  · exact keeps_entryStray h
  · refine keeps_ite ?_ (keeps_entryStray h)
    split <;> exact keeps_admitLabel h (.inr hl)

theorem keeps_entryMark {p : Pos} {c : MarkClass} (h : Keeps s t) : Keeps s (entryMark p c t) := by
  unfold entryMark
  split
  · exact h
  · exact keeps_ite (keeps_batchStop h) (keeps_searchMark h)
  · next hl => exact keeps_ite (keeps_batchStop h) (keeps_lockedMark h hl)

theorem keeps_entryExpired {w : EntryWindow} (h : Keeps s t) (hl : t.tracker.state = .locked) :
    Keeps s (entryExpired w t) := by
  unfold entryExpired
  extract_lets run cursor tracker t₁
  have hrun : Keeps s t₁ := h.trans (.of_ruled rfl (fun h => h) fun h => h)
  exact keeps_ite (keeps_batchTest (keeps_raiseEvent (keeps_enterSearch hrun)))
    (keeps_ite (keeps_batchStop hrun) (keeps_admitLabel hrun (.inr hl)))

theorem keeps_entryWindowExpiry (h : Keeps s t) : Keeps s (entryWindowExpiry t) := by
  unfold entryWindowExpiry
  split
  · split
    · next hw => exact keeps_entryExpired h hw.1
    · exact h
  · exact h

/-! ### Mark channels (R20 to R23) -/

theorem keeps_setChannel {ch : Channel} {c : MarkChannel} (h : Keeps s t) : Keeps s (t.setChannel ch c) := by
  cases ch with
  | m0 => exact h.trans (.of_same rfl rfl rfl)
  | station st =>
    have hacts : Acts t (t.modStation st fun u => { u with channel := c }) :=
      acts_modStation (.refl t) fun _ hu => hu.congr rfl rfl
    exact h.acts hacts

theorem keeps_markLeadingEdge {ch : Channel} (h : Keeps s t) : Keeps s (markLeadingEdge ch t) :=
  keeps_ite (keeps_ref h) (keeps_setChannel h)

theorem keeps_qualified {ch : Channel} {p : Pos} {c : MarkClass} (h : Keeps s t) : Keeps s (qualified ch p c t) := by
  cases ch with
  | m0 => exact keeps_entryMark h
  | station st => exact keeps_ite (h.acts (acts_stationMark (.refl t))) h

theorem keeps_markTrailingEdge {ch : Channel} (h : Keeps s t) : Keeps s (markTrailingEdge ch t) := by
  unfold markTrailingEdge
  refine keeps_ite (keeps_ref h) ?_
  dsimp only
  split
  · exact h
  · exact keeps_setChannel h
  · split
    · exact keeps_setChannel h
    · exact keeps_qualified (keeps_setChannel h)

theorem keeps_overwidthThreshold {ch : Channel} (h : Keeps s t) : Keeps s (overwidthThreshold ch t) := by
  unfold overwidthThreshold
  dsimp only
  split
  · exact keeps_ite (keeps_setChannel h) h
  · exact h

end

end Sys2Proof.Machine
end

section
/-! What a hard cause does at its station, said exactly, and the requests keep the laws (O58, O59, O60). -/

namespace Sys2Proof.Machine

/-! ### Stations after a change of all, and after conversions and hard causes (R55 to R57, R94, R96) -/

/-- A change of each station in turn is a change of the table. -/
theorem overStations_modStation (f : Station → Station) (s : State) :
    overStations allStations (fun st s => s.modStation st f) s = { s with stations := s.stations.map f } := rfl

theorem addSoft_eq_modStation (c : Cause) (st : StationId) (s : State) :
    addSoft c st s = s.modStation st fun u => if u.setup.enabled then { u with hold := u.hold.put c true } else u := by
  unfold addSoft State.enabled
  cases he : (s.station st).setup.enabled
  · have hput : s.stations.put st (s.station st) = s.stations := PerStation.put_get _ _
    simp [State.modStation, State.setStation, he, hput]
  · simp [State.modStation, he]

theorem overLanes_modLane_stations (g : State → Lane → Lane) (ls : List LaneId) (s : State) :
    (overLanes ls (fun l s => s.modLane l (g s)) s).stations = s.stations := by
  obtain ⟨lanes, h⟩ := overLanes_modLane_frame g ls s
  rw [h]

/-- A conversion leaves every station as it was, but for the lift its own may make (R57, R106). -/
theorem convertVisit_station (seq : BitVec 16) (st : StationId) (reason : SkipReason) (feeds : List FeedRecord)
    (s : State) (st' : StationId) :
    (convertVisit seq st reason feeds s).station st' = s.station st' ∨
    st' = st ∧ (convertVisit seq st reason feeds s).station st' = (s.station st).cancelAndLift := by
  have hstations := overLanes_modLane_stations (fun _ u => u.stopOne seq) (feeds.map FeedRecord.lane)
    (modVisit seq st (fun v => { v with decision := some (.skip reason) }) s)
  unfold convertVisit
  generalize overLanes _ _ _ = t at hstations
  have hstation (k : StationId) : t.station k = s.station k := by rw [State.station, hstations]; rfl
  unfold skipDecided
  split
  · exact .inl (hstation st')
  · by_cases he : st' = st
    · subst he
      exact .inr ⟨rfl, by rw [State.modStation_station, hstation]⟩
    · exact .inl (by rw [State.modStation_station_of_ne t he, hstation])

/-- The conversions of a station that is lifted already leave every station as it was. -/
theorem convertAll_station {st : StationId} {s : State} (h : (s.station st).cancelAndLift = s.station st)
    (st' : StationId) : (convertAll st s).station st' = s.station st' := by
  unfold convertAll
  suffices hall : ∀ (xs : List (BitVec 16 × List FeedRecord)) (t : State), (∀ k, t.station k = s.station k) →
      ∀ k, (xs.foldl (fun s x => convertVisit x.1 st .hold x.2 s) t).station k = s.station k from
    hall _ s (fun _ => rfl) st'
  intro xs
  induction xs with
  | nil => exact fun t ht => ht
  | cons x xs ih =>
    refine fun t ht => ih _ fun k => ?_
    rcases convertVisit_station x.1 st .hold x.2 t k with hk | ⟨rfl, hk⟩
    · rw [hk, ht]
    · rw [hk, ht, h]

/-- The fault actions cancel the idle-lift point and lift at their station, and leave the others (R96). -/
theorem faultActions_station (st : StationId) (s : State) (st' : StationId) :
    (faultActions st s).station st' = (s.modStation st Station.cancelAndLift).station st' := by
  have hlifted : ((s.modStation st Station.cancelAndLift).station st).cancelAndLift =
      (s.modStation st Station.cancelAndLift).station st := by
    rw [State.modStation_station, Station.cancelAndLift_twice]
  have hhalt := overLanes_modLane_stations (fun s u => u.halt s.web)
    ((convertAll st (s.modStation st Station.cancelAndLift)).lanesOf st)
    (convertAll st (s.modStation st Station.cancelAndLift))
  rw [faultActions, haltLanes, State.station, hhalt]
  exact convertAll_station hlifted st'

/-- A station that a hard cause enters (R94, R96). -/
def Station.struckBy (u : Station) (c : Cause) : Station :=
  ({ u with hold := u.hold.put c true } : Station).cancelAndLift

/-- The stations after a hard cause: it enters where it is not held and the station is enabled (R94, R96). -/
theorem addHard_station (c : Cause) (st : StationId) (s : State) (st' : StationId) :
    (addHard c st s).station st' =
      if st' = st ∧ s.enabled st = true ∧ (s.station st).hold.has c = false then (s.station st).struckBy c
      else s.station st' := by
  unfold addHard
  by_cases hh : (s.enabled st && !(s.station st).hold.has c) = true
  · have hcond : s.enabled st = true ∧ (s.station st).hold.has c = false := by simpa using hh
    rw [if_pos hh, faultActions_station, addSoft, if_pos hcond.1]
    by_cases he : st' = st
    · subst he
      rw [if_pos ⟨rfl, hcond⟩, State.modStation_station, State.modStation_station]
      rfl
    · rw [if_neg fun h => he h.1, State.modStation_station_of_ne _ he, State.modStation_station_of_ne _ he]
  · have hcond : ¬ (st' = st ∧ s.enabled st = true ∧ (s.station st).hold.has c = false) := by
      rintro ⟨-, h1, h2⟩
      simp [h1, h2] at hh
    rw [if_neg hh, if_neg hcond]

section
variable {s t : State}

/-! ### Press modes (R146 to R150) -/

/-- The IDLE cause at every enabled station. -/
theorem addIdle_eq (s : State) : addIdle s = { s with stations := s.stations.map fun u =>
    if u.setup.enabled then { u with hold := u.hold.put .idle true } else u } := by
  have hadd : addSoft .idle = fun st (s : State) => s.modStation st fun u =>
      if u.setup.enabled then { u with hold := u.hold.put .idle true } else u :=
    funext fun st => funext fun s => addSoft_eq_modStation .idle st s
  rw [addIdle, hadd, overStations_modStation]

/-- The IDLE cause leaves every station. -/
theorem dropIdle_eq (s : State) : dropIdle s = { s with stations := s.stations.map fun u =>
    { u with hold := u.hold.put .idle false } } := rfl

theorem Station.Lawful.toIdle {u : Station} {mode mode' : PressMode} (h : u.Lawful mode) (hm : mode' ≠ .run) :
    (if u.setup.enabled then { u with hold := u.hold.put .idle true } else u : Station).Lawful mode' := by
  obtain ⟨hk, hh, ht, hz, hc⟩ := h
  split
  · next he => exact ⟨⟨hk.timer, hk.valve⟩, fun hd => absurd he (by simp [show u.setup.enabled = false from hd]), ht, hz,
      fun _ => iff_of_true rfl hm, hc.thermal⟩
  · next he => exact ⟨hk, hh, ht, hz, fun h => absurd h he, hc.thermal⟩

theorem Station.Lawful.toRun {u : Station} {mode : PressMode} (h : u.Lawful mode) :
    ({ u with hold := u.hold.put .idle false } : Station).Lawful .run := by
  obtain ⟨hk, hh, ht, hz, hc⟩ := h
  refine ⟨⟨hk.timer, hk.valve⟩, fun hd => ?_, ht, hz, fun _ => iff_of_false nofun (absurd rfl), hc.thermal⟩
  have hempty : u.hold = HoldSet.empty := hh hd
  simp only [hempty, HoldSet.put_empty]

/-- Between IDLE and STANDBY the hold sets stand. -/
theorem Station.Lawful.outsideRun {u : Station} {mode mode' : PressMode} (h : u.Lawful mode) (hm : mode ≠ .run)
    (hm' : mode' ≠ .run) : u.Lawful mode' := by
  obtain ⟨hk, hh, ht, hz, hc⟩ := h
  exact ⟨hk, hh, ht, hz, fun he => (hc.idle he).trans (iff_of_true hm hm'), hc.thermal⟩

/-- The units keep their laws through a change of the press mode, of the wake threshold and of the stations. -/
theorem obeys_mode {mode : PressMode} {wake : Option Pos} {stations : PerStation Station}
    (hw : wake.isSome = true ↔ mode = .standby)
    (hs : ∀ st, (s.station st).Lawful s.mode → (stations.get st).Lawful mode) :
    Obeys s { s with mode, wake, stations } :=
  ⟨rfl, id, fun h => ⟨h.queue, h.trace, h.received, h.zones⟩, id,
    fun ⟨ht, _, hl, hu⟩ => ⟨ht, hw, hl, fun st => hs st (hu st)⟩⟩

/-- What the part does with the mode set to STANDBY, before its wake threshold stands (R148). -/
theorem obeys_enterStandby : Obeys s (enterStandby s) := by
  unfold enterStandby
  extract_lets fromRun t₁ t₂ t₃ t₄ t₅
  have hkeeps : Keeps t₂ t₅ := by
    have hlifted : Keeps t₂ t₃ := (acts_overStations (fun _ _ h => acts_modStation h fun _ hu => hu.lift) (.refl t₂)).keeps
    exact (keeps_enterOff (keeps_flush hlifted)).acts (acts_overStations (fun _ _ => acts_reheatZone) (.refl t₄))
  have hidle : t₂ = { s with mode := .standby, stations := t₂.stations } ∧
      ∀ st, (s.station st).Lawful s.mode → (t₂.station st).Lawful .standby := by
    dsimp only [t₂, fromRun]
    split
    · refine ⟨by rw [addIdle_eq], fun st h => ?_⟩
      rw [addIdle_eq, State.station, PerStation.get_map]
      exact h.toIdle nofun
    · next hr => exact ⟨rfl, fun st h => h.outsideRun (by simpa using hr) nofun⟩
  obtain ⟨heq, hst⟩ := hidle
  have hbefore : Obeys s { s with mode := .standby, wake := some 0, stations := t₂.stations } :=
    obeys_mode (iff_of_true rfl rfl) hst
  rw [heq] at hkeeps
  refine ⟨hkeeps.pending, hkeeps.due, fun h => ?_, hkeeps.numbered, fun h => ?_⟩
  · have hc := hkeeps.capacities ⟨h.queue, h.trace, h.received, h.zones⟩
    exact ⟨hc.queue, hc.trace, hc.received, hc.zones⟩
  · obtain ⟨htr, -, hl, hu⟩ := hbefore.units h
    exact ⟨hkeeps.tracker htr, iff_of_true rfl hkeeps.mode, fun l => hkeeps.lanes l (hl l),
      fun st => by have := hkeeps.stations st _ (hu st); rwa [← hkeeps.mode] at this⟩

theorem obeys_leaveStandby {mode : PressMode} {cause : Nat} (hm : s.mode = .standby) (hm' : mode ≠ .standby) :
    Obeys s (leaveStandby mode cause s) := by
  unfold leaveStandby
  extract_lets t₁ t₂ t₃ t₄
  have hkeeps : Keeps t₂ (raiseEvent .woke 0 cause t₄) := by
    have hheated : Keeps t₂ t₃ := (acts_overStations (fun _ _ => acts_reheatZone) (.refl t₂)).keeps
    exact keeps_raiseEvent (keeps_ite (keeps_enterSearch hheated) hheated)
  refine Obeys.trans (t := t₂) ?_ hkeeps.obeys
  have hwake : (none : Option Pos).isSome = true ↔ mode = .standby := iff_of_false nofun hm'
  dsimp only [t₂]
  split
  · next hr =>
    subst hr
    rw [dropIdle_eq]
    exact obeys_mode hwake fun st h => by rw [PerStation.get_map]; exact h.toRun
  · next hr => exact obeys_mode hwake fun st h => h.outsideRun (by simp [hm]) hr

theorem obeys_wakeThreshold : Obeys s (wakeThreshold s) := by
  unfold wakeThreshold
  split
  · split
    · next h => exact obeys_leaveStandby h.1 nofun
    · exact .refl s
  · exact .refl s

theorem obeys_changeMode (mode : PressMode) : Obeys s (changeMode mode s) := by
  unfold changeMode
  split
  · next hm =>
    rw [addIdle_eq]
    refine ⟨rfl, id, fun h => ⟨h.queue, h.trace, h.received, h.zones⟩, id, fun ⟨ht, hw, hl, hu⟩ => ⟨ht, ?_, hl, fun st => ?_⟩⟩
    · exact hw.trans (iff_of_false (by simp [hm]) nofun)
    · rw [State.station, PerStation.get_map]
      exact Station.Lawful.toIdle (hu st) nofun
  · next hm =>
    rw [dropIdle_eq]
    refine ⟨rfl, id, fun h => ⟨h.queue, h.trace, h.received, h.zones⟩, id, fun ⟨ht, hw, hl, hu⟩ => ⟨ht, ?_, hl, fun st => ?_⟩⟩
    · exact hw.trans (iff_of_false (by simp [hm]) nofun)
    · rw [State.station, PerStation.get_map]
      exact Station.Lawful.toRun (hu st)
  · exact obeys_enterStandby
  · exact obeys_enterStandby
  · next hm => exact obeys_leaveStandby hm nofun
  · next hm => exact obeys_leaveStandby hm nofun
  · exact .refl s

/-! ### SET SOURCE (R18) -/

theorem keeps_sourceAction {action : Nat} {x : Source} (h : Keeps s t) : Keeps s (sourceAction action x t) := by
  unfold sourceAction
  split
  · exact keeps_ite (keeps_ite (keeps_sourceFaults h) (keeps_ref h)) h
  · exact keeps_ite h (keeps_ref h)
  · exact keeps_ite h (keeps_ref h)
  · exact h

theorem keeps_applySource {x : Source} {action scale limit tolerance : Nat} (h : Keeps s t) :
    Keeps s (applySource x action scale limit tolerance t) := by
  have hacted : Keeps s (sourceAction action x { t with ref := t.ref.withSource x { t.ref.source x with
      k := if scale = 0 then (t.ref.source x).k else scale } }) := keeps_sourceAction (keeps_ref h)
  exact keeps_ref (keeps_ite hacted (keeps_reverseTest (keeps_ref hacted)))

/-! ### SETUP STATION (R92, R97) -/

/-- A station being disabled keeps its laws, whatever its setup becomes. -/
theorem Station.Lawful.disable {u : Station} {mode : PressMode} (h : u.Lawful mode) {c : StationSetup}
    (hc : c.enabled = false) (dieSlots : Nat) (changed : Bool) :
    ({ u with setup := c, loop := u.loop.resync dieSlots changed } : Station).disable.Lawful mode := by
  obtain ⟨hk, -, ht, hz, -⟩ := h
  have hempty : ({ u with setup := c, loop := u.loop.resync dieSlots changed, hold := HoldSet.empty } : Station).Lawful
      mode :=
    ⟨⟨hk.timer, hk.valve⟩, fun _ => rfl, ht, hz, fun he => absurd he (by simp [hc]), fun he => absurd he (by simp [hc])⟩
  exact hempty.cancelAndLift.congr rfl rfl

/-- An enabled station on the way to its full hold set: its laws but for IDLE and THERMAL, which it does not hold yet. -/
structure Station.Filling (u : Station) (z : HeatZone) : Prop where
  strokes : u.Strokes
  trim : u.TrimLaw
  zone : u.zone = z
  enabled : u.setup.enabled = true
  idle : u.hold.idle = false
  thermal : u.hold.thermal = false

theorem Station.Filling.cancelAndLift {u : Station} {z : HeatZone} (h : u.Filling z) : u.cancelAndLift.Filling z := by
  have hk : u.cancelAndLift.Strokes := Station.Strokes.lift ⟨h.strokes.timer, h.strokes.valve⟩
  obtain ⟨valve, actuator, stroke, he⟩ := Station.lift_frame { u with idleLift := none }
  rw [Station.cancelAndLift, he] at hk ⊢
  exact ⟨hk, h.trim, h.zone, h.enabled, h.idle, h.thermal⟩

/-- A cause other than IDLE and THERMAL leaves the hold set on its way. -/
theorem Station.Filling.put {u : Station} {z : HeatZone} (h : u.Filling z) {c : Cause}
    (hc : c ≠ .idle ∧ c ≠ .thermal) (b : Bool) : ({ u with hold := u.hold.put c b } : Station).Filling z := by
  refine ⟨⟨h.strokes.timer, h.strokes.valve⟩, h.trim, h.zone, h.enabled, ?_, ?_⟩
  · exact (HoldSet.has_put_of_ne u.hold hc.1.symm b).trans h.idle
  · exact (HoldSet.has_put_of_ne u.hold hc.2.symm b).trans h.thermal

/-- The full hold set: IDLE and THERMAL as their conditions stand (R95, R97). -/
theorem Station.Filling.lawful {u v : Station} {z : HeatZone} (h : u.Filling z) (hz : z.Regular) {mode : PressMode}
    (idle : v.hold.idle = (mode != .run)) (thermal : v.hold.thermal = z.holds)
    (hv : v = { u with hold := v.hold }) : v.Lawful mode := by
  rw [hv]
  refine ⟨⟨h.strokes.timer, h.strokes.valve⟩, fun hd => absurd h.enabled (by simp [show u.setup.enabled = false from hd]),
    h.trim, h.zone ▸ hz, fun _ => by simp [idle], fun _ => ?_⟩
  rw [thermal, HeatZone.holds_iff, h.zone]

/-- A station on its way to a full hold set, the others as they were, and the rest within its laws. -/
structure Fills (st : StationId) (s t : State) : Prop where
  acts : Acts s t
  here : ∀ z, (s.station st).Filling z → (t.station st).Filling z
  others : ∀ k, k ≠ st → t.station k = s.station k

theorem Fills.hard {st : StationId} {c : Cause} {b : Bool} (h : Fills st s t) (hc : c ≠ .idle ∧ c ≠ .thermal) :
    Fills st s (if b then addHard c st t else t) := by
  cases b
  · exact h
  · refine ⟨acts_addHard h.acts hc, fun z hz => ?_, fun k hk => ?_⟩
    · rw [if_pos rfl, addHard_station]
      split
      · exact ((h.here z hz).put hc true).cancelAndLift
      · exact h.here z hz
    · rw [if_pos rfl, addHard_station, if_neg fun he => hk he.1]
      exact h.others k hk

/-- What only the stations tell from a state whose laws are kept, stations excepted, keeps the laws with its own. -/
theorem Acts.obeys_stations {u u' : State} (h : Acts t u) (ht : t = { s with stations := t.stations })
    (hu : u' = { u with stations := u'.stations })
    (hs : ∀ st, (s.station st).Lawful s.mode → (u'.station st).Lawful s.mode) : Obeys s u' := by
  have hk := h.keeps
  rw [ht] at hk
  rw [hu]
  refine ⟨hk.pending, hk.due, fun hc => ?_, hk.numbered, fun ⟨htr, hw, hl, hst⟩ => ?_⟩
  · have hc' := hk.capacities ⟨hc.queue, hc.trace, hc.received, hc.zones⟩
    exact ⟨hc'.queue, hc'.trace, hc'.received, hc'.zones⟩
  · have hm : u.mode = s.mode := hk.mode
    refine ⟨hk.tracker htr, ?_, fun l => hk.lanes l (hl l), fun st => ?_⟩
    · rw [hm]
      exact hk.wake ▸ hw
    · rw [hm]
      exact hs st (hst st)

/-- The hard causes whose conditions hold at an enabling, in the order of R97. -/
def fillHard (st : StationId) (s : State) : State :=
  hardCauses.foldl (fun s c => if s.conditionHolds st c then addHard c st s else s) s

/-- The soft causes whose conditions hold at an enabling, in the order of R97. -/
def fillSoft (st : StationId) (s : State) : State :=
  [Cause.thermal, .foilOut, .idle].foldl (fun s c => if s.conditionHolds st c then addSoft c st s else s) s

theorem fillHold_eq (st : StationId) (s : State) : fillHold st s = fillSoft st (fillHard st s) := rfl

theorem fills_fillHard (st : StationId) (s : State) : Fills st s (fillHard st s) := by
  suffices hall : ∀ (cs : List Cause) (t : State), (∀ c ∈ cs, c ≠ .idle ∧ c ≠ .thermal) → Fills st s t →
      Fills st s (cs.foldl (fun s c => if s.conditionHolds st c then addHard c st s else s) t) from
    hall _ s (by decide) ⟨.refl s, fun _ h => h, fun _ _ => rfl⟩
  intro cs
  induction cs with
  | nil => exact fun t _ h => h
  | cons c cs ih => exact fun t hcs h => ih _ (fun d hd => hcs d (List.mem_cons_of_mem c hd)) (h.hard (hcs c List.mem_cons_self))

theorem HoldSet.put_has (h : HoldSet) (c : Cause) : h.put c (h.has c) = h := by cases c <;> rfl

@[simp] theorem State.modStation_id (t : State) (st : StationId) : (t.modStation st fun u => u) = t := by
  have hput : t.stations.put st (t.station st) = t.stations := PerStation.put_get _ _
  simp [State.modStation, State.setStation, hput]

/-- A soft cause under a condition, at an enabled station. -/
theorem addSoft_ite {st : StationId} {t : State} (he : t.enabled st = true) (c : Cause) (b : Bool) :
    (if b then addSoft c st t else t) =
      t.modStation st fun u => { u with hold := u.hold.put c (u.hold.has c || b) } := by
  cases b
  · simp [HoldSet.put_has]
  · simp [addSoft, he]

/-- The soft causes of an enabling at an enabled station (R95, R97). -/
theorem fillSoft_eq {st : StationId} {t : State} (he : t.enabled st = true) :
    fillSoft st t = t.modStation st fun u => { u with hold := { u.hold with
      thermal := u.hold.thermal || (t.station st).zone.holds
      foilOut := u.hold.foilOut || t.anyEmpty st
      idle := u.hold.idle || t.mode != .run } } := by
  have hen {f : Station → Station} (hf : (f (t.station st)).setup = (t.station st).setup) :
      (t.modStation st f).enabled st = true := by
    simpa [State.enabled, hf] using he
  unfold fillSoft
  simp only [List.foldl_cons, List.foldl_nil]
  rw [addSoft_ite he .thermal, addSoft_ite (hen rfl) .foilOut, State.modStation_modStation,
    addSoft_ite (hen rfl) .idle, State.modStation_modStation]
  rfl

/-- The soft causes of an enabling change their station alone. -/
theorem fillSoft_modStation (st : StationId) (t : State) : ∃ g, fillSoft st t = t.modStation st g := by
  suffices hall : ∀ (cs : List Cause) (u : State), (∃ g, u = t.modStation st g) →
      ∃ g, cs.foldl (fun s c => if s.conditionHolds st c then addSoft c st s else s) u = t.modStation st g from
    hall _ t ⟨fun u => u, (t.modStation_id st).symm⟩
  intro cs
  induction cs with
  | nil => exact fun u h => h
  | cons c cs ih =>
    rintro u ⟨g, rfl⟩
    refine ih _ ?_
    dsimp only
    split
    · exact ⟨_, by rw [addSoft_eq_modStation, State.modStation_modStation]⟩
    · exact ⟨g, rfl⟩

/-- Enabling fills the hold set of a station that held nothing (R97). -/
theorem obeys_fillHold {st : StationId} {f : Station → Station}
    (hf : ∀ mode, (s.station st).Lawful mode → (f (s.station st)).Filling (s.station st).zone) :
    Obeys s (fillHold st (s.modStation st f)) := by
  obtain ⟨hacts, hhere, hothers⟩ := fills_fillHard st (s.modStation st f)
  rw [fillHold_eq]
  generalize fillHard st (s.modStation st f) = t at hacts hhere hothers
  rw [State.modStation_station] at hhere
  have hmode : t.mode = s.mode := hacts.mode
  obtain ⟨g, hg⟩ := fillSoft_modStation st t
  refine hacts.obeys_stations rfl (u' := fillSoft st t) (by rw [hg]; rfl) fun k hk => ?_
  by_cases he : k = st
  · subst he
    have hfill := hhere _ (hf _ hk)
    rw [fillSoft_eq hfill.enabled, State.modStation_station]
    exact hfill.lawful hk.2.2.2.1 (by simp [hfill.idle, hmode]) (by simp [hfill.thermal, hfill.zone]) rfl
  · rw [hg, State.modStation_station_of_ne t he, hothers k he, State.modStation_station_of_ne s he]
    exact hk

theorem obeys_applySetup (st : StationId) (c : StationSetup) : Obeys s (applySetup st c s) := by
  unfold applySetup
  extract_lets old enabling disabling t₁
  split
  · next hd =>
    have hoff : c.enabled = false := by simpa using (Bool.and_eq_true_iff.mp hd).2
    rw [State.modStation_modStation]
    exact (acts_modStation (.refl s) fun _ hu => hu.disable hoff _ _).keeps.obeys
  · next hd =>
    split
    · next he =>
      obtain ⟨hold, hnew⟩ := Bool.and_eq_true_iff.mp he
      have hold' : (s.station st).setup.enabled = false := by simpa [old] using hold
      refine obeys_fillHold fun mode hu => ?_
      have hempty : (s.station st).hold = HoldSet.empty := hu.2.1 hold'
      exact ⟨⟨hu.1.timer, hu.1.valve⟩, hu.2.2.1, rfl, hnew, by simp [hempty, HoldSet.empty], by simp [hempty, HoldSet.empty]⟩
    · next he =>
      have hsame : c.enabled = (s.station st).setup.enabled := by
        cases ho : (s.station st).setup.enabled <;> cases hc : c.enabled <;>
          simp_all [enabling, disabling, old]
      exact (acts_modStation (.refl s) fun _ hu => hu.congr (Station.ruled_eq_iff.mpr ⟨hsame, rfl, rfl, rfl, rfl, rfl⟩) rfl).keeps.obeys

/-! ### TUNE REGISTER (R84) -/

/-- A trim set through the saturation rule lies within the limit, whatever the loop was before (R67). -/
theorem acts_setTrimTo_modStation {st : StationId} {f : Station → Station} {trim : Int} {source : Nat} (h : Acts s t)
    (hf : ∀ u, f u = { u with loop := (f u).loop }) : Acts s (setTrimTo st trim source (t.modStation st f)) := by
  have hset : Acts s ((t.modStation st f).modStation st fun u => { u with loop := { u.loop with
      trim := ((t.modStation st f).station st).loop.tuning.saturate trim
      settleCtr := ((t.modStation st f).station st).loop.tuning.settle } }) := by
    rw [State.modStation_modStation]
    refine acts_modStation h fun mode hu => ?_
    rw [hf (t.station st)]
    refine hu.trimmed ?_ rfl
    rw [State.modStation_station]
    exact Tuning.natAbs_saturate_le _ _
  exact acts_ite hset (acts_trimSaturated hset)

theorem acts_applyTuning {st : StationId} {tuning : Tuning} (h : Acts s t) : Acts s (applyTuning st tuning t) := by
  unfold applyTuning
  extract_lets t₁ trim
  split
  · next hs =>
    refine acts_modStation h fun _ hu => hu.trimmed ?_ rfl
    have hle := Tuning.natAbs_saturate_le tuning trim
    rw [hs] at hle
    simpa [trim, t₁] using hle
  · exact acts_setTrimTo_modStation h fun _ => rfl

/-! ### SETUP HEAT (R145) -/

theorem acts_zoneFaults_modStation {st : StationId} {cause : Nat} {z : HeatZone} (h : Acts s t)
    (he : z.enabled = true) : Acts s (zoneFaults st cause (t.modStation st fun u => { u with zone := z })) := by
  unfold zoneFaults
  refine acts_addHard ?_ (by decide)
  rw [dropCause, raiseEvent_modStation, State.modStation_modStation, State.modStation_modStation]
  refine acts_raiseEvent (acts_modStation h fun _ hu => ?_)
  rw [State.modStation_station]
  exact hu.zoned (HeatZone.regular_fault he) (fun _ => by simp [HeatZone.holds]) fun hd => (hu.thermal_eq_false hd).symm

theorem acts_applyHeat {st : StationId} {enabled : Bool} {set : HeatSettings} (h : Acts s t) :
    Acts s (applyHeat st enabled set t) := by
  unfold applyHeat
  extract_lets z
  split
  · split
    · exact acts_zoneFaults_modStation h rfl
    · exact acts_setZone h fun _ => HeatZone.regular_of rfl nofun (iff_of_false nofun nofun) nofun
  · exact acts_setZone h fun _ => ⟨iff_of_true rfl rfl, by simp, fun _ => rfl⟩
  · exact acts_modZone h (fun hr => ⟨hr.off, hr.soak, hr.heater⟩) rfl

/-! ### CLEAR FAULT (R99, R134, R142) -/

theorem acts_releaseZone {st : StationId} (h : Acts s t) : Acts s (releaseZone st t) := by
  unfold releaseZone
  dsimp only
  split
  · next hz =>
    exact acts_setZone h fun hr => HeatZone.regular_of (hr.enabled_of (by simp [hz])) nofun
      (iff_of_false (mt hr.soak.mp (by simp [hz])) nofun) nofun
  · exact h

theorem acts_releaseLane {l : LaneId} (h : Acts s t) : Acts s (releaseLane l t) :=
  acts_modLane h fun hu => by
    split
    · next hs =>
      exact ⟨iff_of_false (mt hu.assigned.mp (by simp [hs])) nofun, iff_of_false (mt hu.lastFeed.mp (by simp [hs])) nofun⟩
    · exact hu

theorem acts_removalAction {c : Cause} {st : StationId} (h : Acts s t) : Acts s (removalAction c st t) := by
  unfold removalAction
  split
  · exact acts_modStation h fun _ hu => hu.stroke ⟨by simp, by simp⟩
  · exact acts_releaseZone h
  · exact acts_overLanes (fun _ _ => acts_releaseLane) h
  · exact h

theorem acts_clearCauses {st : StationId} {cs : List Cause} (hcs : ∀ c ∈ cs, c ≠ .idle ∧ c ≠ .thermal) (h : Acts s t) :
    Acts s (cs.foldl (fun s c => clearCause st c s) t) := by
  induction cs generalizing t with
  | nil => exact h
  | cons c cs ih =>
    exact ih (fun d hd => hcs d (List.mem_cons_of_mem c hd))
      (acts_ite (acts_removalAction (acts_dropCause h (hcs c List.mem_cons_self))) h)

theorem acts_clearStation {st : StationId} (h : Acts s t) : Acts s (clearStation st t) := by
  unfold clearStation clearDisabled
  have hlanes := acts_overLanes (ls := (t.lanesOf st).filter fun l => !(t.lane l).faultIn)
    (f := releaseLane) (fun _ _ => acts_releaseLane) h
  exact acts_modStation (acts_ite (acts_clearCauses (by decide) h) (acts_ite (acts_releaseZone hlanes) hlanes))
    fun _ hu => hu.congr rfl rfl

/-! ### Lanes (R116, R117, R132, R133) -/

theorem Lane.Agrees.fail {u : Lane} (h : u.Agrees) (hu : u.state ≠ .unassigned) (web : Pos) : (u.fail web).Agrees :=
  h.idle hu ⟨nofun, nofun⟩ rfl rfl

theorem acts_laneFaults {l : LaneId} {st : StationId} (h : Acts s t) (hl : (t.lane l).state ≠ .unassigned) :
    Acts s (laneFaults l st t) := by
  have hraised : Acts s (raiseDriveFault l st (t.modLane l (Lane.fail t.web))) :=
    acts_raiseEvent (acts_modLane h fun hu => hu.fail hl _)
  exact acts_addHard (acts_ite (acts_dropFoilOut hraised) hraised) (by decide)

theorem acts_driveFault {l : LaneId} {level : Bool} (h : Acts s t) : Acts s (driveFault l level t) := by
  have htaken : Acts s (t.modLane l fun u => { u with faultIn := level }) := acts_modLane h fun hu => hu.congr rfl
  unfold driveFault
  dsimp only
  split
  case h_1 hs | h_2 hs | h_3 hs => exact acts_laneFaults htaken (by simp [hs])
  case h_4 => exact htaken

/-- A lane whose station changes has no last feed, in a state of a lane of its new station. -/
theorem Lane.agrees_moveTo (u : Lane) (web : Pos) (target : Option StationId) : (u.moveTo web target).Agrees := by
  have hstate : (u.stateAt target = .unassigned ↔ target = none) ∧ u.stateAt target ≠ .active := by
    unfold Lane.stateAt
    cases target
    · simp
    · dsimp only
      split <;> [skip; split] <;> simp
  unfold Lane.moveTo
  dsimp only
  split
  · next hf => exact ⟨by simp [Lane.fail, Lane.stopAll, Lane.send, ← hstate.1, hf], by simp [Lane.fail, Lane.stopAll]⟩
  · exact ⟨by simp [hstate.1], by simp [hstate.2]⟩

theorem acts_changeStation {l : LaneId} {target : Option StationId} (h : Acts s t) :
    Acts s (changeStation l target t) := by
  unfold changeStation
  extract_lets old t₁ t₂
  have hmoved : Acts s t₁ := acts_modLane h fun _ => Lane.agrees_moveTo _ _ _
  have hleft : Acts s t₂ := by
    cases hold : old with
    | none => simpa only [t₂, hold] using hmoved
    | some st => simpa only [t₂, hold] using acts_dropFoilOut hmoved
  split
  · unfold arrive
    split
    · exact acts_addSoft hleft (by decide)
    · exact acts_addHard (acts_raiseEvent hleft) (by decide)
    · exact hleft
  · exact hleft

theorem acts_applyLane {l : LaneId} {target : Option StationId} {set : LaneSettings} (h : Acts s t) :
    Acts s (applyLane l target set t) := by
  have hset : Acts s (t.modLane l fun u => { u with set }) := acts_modLane h fun hu => hu.congr rfl
  exact acts_ite hset (acts_changeStation hset)

theorem Lane.Agrees.load {u : Lane} (h : u.Agrees) (hu : u.station ≠ none) (web : Pos) (length : Nat) :
    (u.load web length).Agrees := by
  have hparked {v : Lane} (hv : v.station = u.station) (hf : v.lastFeed = none) (hs : v.state = .parked ∨ v.state = .empty) :
      v.Agrees := by
    refine ⟨?_, ?_⟩
    · rw [hv]
      exact iff_of_false hu (by rcases hs with hs | hs <;> simp [hs])
    · rw [hf]
      exact iff_of_false nofun (by rcases hs with hs | hs <;> simp [hs])
  unfold Lane.load
  dsimp only
  refine hparked ?_ ?_ ?_
  · split <;> rfl
  · split
    · rfl
    · next hn => simpa using mt h.lastFeed.mp (not_or.mp hn).1
  · exact ite_eq_or_eq (0 < length) LaneState.parked LaneState.empty

theorem acts_applySpool {l : LaneId} {st : StationId} {length : Nat} (h : Acts s t) (hl : (t.lane l).station ≠ none) :
    Acts s (applySpool l st length t) := by
  have hloaded : Acts s (t.modLane l (Lane.load t.web length)) := acts_modLane h fun hu => hu.load hl _ _
  exact acts_ite (acts_addSoft hloaded (by decide)) (acts_dropFoilOut hloaded)

end

end Sys2Proof.Machine
end

section
/-! Every request, the link and the timers keep the laws, and with them every command and every step (O58, O59, O60, O3,
O1). -/

namespace Sys2Proof.Machine

section
variable {s t : State}

/-! ### The job store and the link's own requests (R155 to R169, R183 to R189) -/

/-- A change of the job store alone. -/
theorem keeps_job {j : JobStore} (h : Keeps s t) : Keeps s { t with job := j } := h.trans (.of_same rfl rfl rfl)

theorem keeps_commitPlan {p : Plan} (h : Keeps s t) : Keeps s (commitPlan p t) := by
  unfold commitPlan
  split
  · exact keeps_enterSearch ((keeps_job h).acts
      (acts_overStations (fun _ _ h => acts_modStation h fun _ hu => hu.congr rfl rfl) (.refl _)))
  · exact keeps_ite (keeps_enterSearch (keeps_job h)) (keeps_job h)

theorem keeps_rearm (h : Keeps s t) : Keeps s (rearm t) :=
  keeps_ite (keeps_ite (keeps_enterSearch (keeps_job h)) (keeps_job h)) h

/-- A filter of the notice-due list that keeps to what is pending and masked in. -/
theorem EventSet.Consistent.filter {e e' : EventSet} (h : e.Consistent) {p : EventKind → Bool}
    (hd : e'.due = e.due.filter p) (hp : ∀ k, p k = true → k.isIn e.flags = true → k.isIn e'.flags = true)
    (hm : ∀ k, p k = true → k.isIn e.mask = true → k.isIn e'.mask = true) : e'.Consistent := by
  have hmem (k) (hk : k ∈ e'.due) : k ∈ e.due ∧ p k = true := List.mem_filter.mp (hd ▸ hk)
  exact ⟨hd ▸ h.once.filter p, fun k hk => hp k (hmem k hk).2 (h.pending k (hmem k hk).1),
    fun k hk => hm k (hmem k hk).2 (h.maskedIn k (hmem k hk).1)⟩

theorem EventSet.Consistent.setMask {e : EventSet} (h : e.Consistent) (m : BitVec 24) : (e.setMask m).Consistent :=
  h.filter rfl (fun _ _ hk => hk) fun _ hk _ => hk

theorem EventSet.Consistent.clear {e : EventSet} (h : e.Consistent) (m : BitVec 24) : (e.clear m).Consistent :=
  h.filter rfl (fun k hk hf => by
    have hlt : k.index.val < 24 := k.index.isLt
    simp only [EventKind.isIn, EventSet.clear, BitVec.getLsbD_and, BitVec.getLsbD_not, Bool.not_eq_true'] at hk hf ⊢
    simpa [hf, hlt] using hk) fun _ _ hk => hk

theorem acts_takeTrace {n w : Nat} {clear : Bool} (h : Acts s t) : Acts s (takeTrace n clear w t) := by
  unfold takeTrace
  extract_lets q t₁
  have hfewer (hl : t.trace.entries.length ≤ Config.traceCapacity) :
      (t.trace.entries.drop n).length ≤ Config.traceCapacity :=
    (List.drop_sublist n _).length_le.trans hl
  have htaken : Acts s t₁ := h.trans { Acts.refl t with trace := hfewer }
  exact acts_ite htaken (acts_watermarkTest htaken)

/-- A change of the link that lets its receive queue hold no more frames than it may. -/
theorem keeps_link {l : Link} (h : Keeps s t)
    (hl : t.link.rxQueue.length ≤ Config.rxCapacity → l.rxQueue.length ≤ Config.rxCapacity) :
    Keeps s { t with link := l } :=
  h.trans ⟨rfl, rfl, rfl, id, fun hc => ⟨hc.queue, hc.trace, hl hc.received, hc.zones⟩, id, id, fun _ => id,
    fun _ _ => id⟩

/-- A change of the events alone. -/
theorem obeys_events {e : EventSet} (he : s.events.Consistent → e.Consistent) : Obeys s { s with events := e } :=
  ({ Acts.refl s with due := he } : Acts s { s with events := e }).keeps.obeys

theorem Obeys.of_same {s t : State} (he : t.ruled = s.ruled) (hz : t.zones = s.zones)
    (ht : t.tracker = s.tracker) : Obeys s t :=
  (Keeps.of_same he hz ht).obeys

/-! ### Requests (R177) -/

theorem obeys_ite {c : Prop} [Decidable c] {a b : Answer} (h : Obeys s a.2) (h' : Obeys s b.2) :
    Obeys s (if c then a else b).2 := by
  split
  · exact h
  · exact h'

theorem obeys_reqSetMode (p : List Octet) : Obeys s (reqSetMode p s).2 := by
  unfold reqSetMode
  split
  · exact .refl s
  · exact obeys_changeMode _

theorem obeys_reqSetSource (p : List Octet) : Obeys s (reqSetSource p s).2 := by
  unfold reqSetSource
  dsimp only
  split
  · exact .refl s
  · exact obeys_ite (.refl s) (obeys_ite (.refl s) (obeys_ite (.refl s) (obeys_ite (.refl s)
      (keeps_applySource (.refl s)).obeys)))

theorem obeys_reqSetupEntry (p : List Octet) : Obeys s (reqSetupEntry p s).2 :=
  obeys_ite (.refl s) (obeys_ite (.refl s) (.of_same rfl rfl rfl))

theorem obeys_reqSetupStation (p : List Octet) : Obeys s (reqSetupStation p s).2 := by
  unfold reqSetupStation
  split
  · exact .refl s
  · refine obeys_ite (.refl s) ?_
    split
    · exact .refl s
    · exact obeys_ite (.refl s) (obeys_ite (.refl s) (obeys_applySetup _ _))

theorem obeys_reqTuneRegister (p : List Octet) : Obeys s (reqTuneRegister p s).2 := by
  unfold reqTuneRegister
  split
  · exact (acts_applyTuning (.refl s)).keeps.obeys
  · exact .refl s

theorem obeys_reqSetTrim (p : List Octet) : Obeys s (reqSetTrim p s).2 := by
  unfold reqSetTrim
  split
  · exact .refl s
  · exact obeys_ite (.refl s) (acts_setTrimTo (.refl s)).keeps.obeys

theorem obeys_reqNudgeTrim (p : List Octet) : Obeys s (reqNudgeTrim p s).2 := by
  unfold reqNudgeTrim
  split
  · exact .refl s
  · exact (acts_setTrimTo (.refl s)).keeps.obeys

theorem obeys_reqSetupHeat (p : List Octet) : Obeys s (reqSetupHeat p s).2 := by
  unfold reqSetupHeat
  split
  · exact .refl s
  · exact obeys_ite (.refl s) (acts_applyHeat (.refl s)).keeps.obeys

theorem obeys_reqSetupLane (p : List Octet) : Obeys s (reqSetupLane p s).2 := by
  unfold reqSetupLane
  split
  · exact .refl s
  · refine obeys_ite (.refl s) ?_
    split
    · exact .refl s
    · exact obeys_ite (.refl s) (acts_applyLane (.refl s)).keeps.obeys

theorem obeys_reqLoadSpool (p : List Octet) : Obeys s (reqLoadSpool p s).2 := by
  unfold reqLoadSpool
  split
  · exact .refl s
  · refine obeys_ite (.refl s) ?_
    split
    · exact .refl s
    · exact .refl s
    · exact .refl s
    · next hst _ _ => exact (acts_applySpool (.refl s) (by simp [hst])).keeps.obeys

theorem obeys_reqPause (p : List Octet) : Obeys s (reqPause p s).2 := by
  unfold reqPause
  split
  · exact .refl s
  · exact obeys_ite (acts_overStations (fun _ _ h => acts_addSoft h (by decide)) (.refl s)).keeps.obeys (.refl s)

theorem obeys_reqResume (p : List Octet) : Obeys s (reqResume p s).2 := by
  unfold reqResume
  split
  · exact .refl s
  · exact obeys_ite (acts_overStations (fun _ _ h => acts_dropCause h (by decide)) (.refl s)).keeps.obeys (.refl s)

theorem obeys_reqClearFault (p : List Octet) : Obeys s (reqClearFault p s).2 := by
  unfold reqClearFault
  split
  · exact .refl s
  · exact obeys_ite (.refl s) (acts_overStations (fun _ _ => acts_clearStation) (.refl s)).keeps.obeys

theorem obeys_reqDefineMotif (p : List Octet) : Obeys s (reqDefineMotif p s).2 := by
  unfold reqDefineMotif
  dsimp only
  split
  · exact obeys_ite (.refl s) (obeys_ite (.refl s) (keeps_job (.refl s)).obeys)
  · exact .refl s

theorem obeys_reqClearMotif (p : List Octet) : Obeys s (reqClearMotif p s).2 :=
  obeys_ite (.refl s) (obeys_ite (.refl s) (keeps_job (.refl s)).obeys)

theorem obeys_reqReadMotif (p : List Octet) : Obeys s (reqReadMotif p s).2 := obeys_ite (.refl s) (.refl s)

theorem obeys_reqLoadPlan (p : List Octet) : Obeys s (reqLoadPlan p s).2 := by
  unfold reqLoadPlan
  refine obeys_ite (.refl s) ?_
  split
  · exact .refl s
  · exact obeys_ite (.refl s) (keeps_job (.refl s)).obeys

theorem obeys_reqCommitPlan : Obeys s (reqCommitPlan s).2 := by
  unfold reqCommitPlan
  split
  · exact .refl s
  · exact .refl s
  · split
    · exact .refl s
    · exact (keeps_commitPlan (.refl s)).obeys

theorem obeys_reqEndJob : Obeys s (reqEndJob s).2 := by
  unfold reqEndJob
  split
  · exact .refl s
  · exact (keeps_drainedTest (keeps_enterSearch (keeps_job (.refl s)))).obeys
  · exact .refl s
  · exact (keeps_enterOff (keeps_job (.refl s))).obeys

theorem obeys_reqExtendBatch (p : List Octet) : Obeys s (reqExtendBatch p s).2 :=
  obeys_ite (.refl s) (obeys_ite (.refl s) (obeys_ite (.refl s) (obeys_ite (.refl s)
    (keeps_rearm (keeps_job (.refl s))).obeys)))

theorem obeys_reqReadStation (p : List Octet) : Obeys s (reqReadStation p s).2 := by
  unfold reqReadStation
  split
  · exact .refl s
  · exact (acts_ite (acts_modStation (.refl s) fun _ hu => hu.congr rfl rfl) (.refl s)).keeps.obeys

theorem obeys_reqReadLane (p : List Octet) : Obeys s (reqReadLane p s).2 := by
  unfold reqReadLane
  split
  · exact .refl s
  · exact (acts_ite (acts_modLane (.refl s) fun hu => hu.congr rfl) (.refl s)).keeps.obeys

theorem obeys_reqReadQueue (p : List Octet) : Obeys s (reqReadQueue p s).2 := obeys_ite (.refl s) (.refl s)

theorem obeys_reqReadTrace (p : List Octet) : Obeys s (reqReadTrace p s).2 :=
  obeys_ite (.refl s) (acts_takeTrace (.refl s)).keeps.obeys

theorem obeys_reqSetEventMask (p : List Octet) : Obeys s (reqSetEventMask p s).2 := by
  unfold reqSetEventMask
  split
  · exact .refl s
  · exact obeys_events fun h => h.setMask _

theorem obeys_reqClearEvents (p : List Octet) : Obeys s (reqClearEvents p s).2 := by
  unfold reqClearEvents
  split
  · exact .refl s
  · exact obeys_events fun h => h.clear _

theorem obeys_reqReadStatus (p : List Octet) : Obeys s (reqReadStatus p s).2 :=
  (keeps_ite (keeps_link (l := s.link.cleared) (.refl s) fun h => h) (.refl s)).obeys

theorem obeys_carryOut (k : ReqKind) (p : List Octet) : Obeys s (carryOut k p s).2 := by
  cases k with
  | identify => exact .refl s
  | reset => exact (keeps_link (l := { s.link with resetPending := true }) (.refl s) fun h => h).obeys
  | setMode => exact obeys_reqSetMode p
  | readStatus => exact obeys_reqReadStatus p
  | setSource => exact obeys_reqSetSource p
  | setupEntry => exact obeys_reqSetupEntry p
  | setupStation => exact obeys_reqSetupStation p
  | tuneRegister => exact obeys_reqTuneRegister p
  | setTrim => exact obeys_reqSetTrim p
  | nudgeTrim => exact obeys_reqNudgeTrim p
  | setupHeat => exact obeys_reqSetupHeat p
  | setupLane => exact obeys_reqSetupLane p
  | loadSpool => exact obeys_reqLoadSpool p
  | pause => exact obeys_reqPause p
  | resume => exact obeys_reqResume p
  | clearFault => exact obeys_reqClearFault p
  | defineMotif => exact obeys_reqDefineMotif p
  | clearMotif => exact obeys_reqClearMotif p
  | readMotif => exact obeys_reqReadMotif p
  | loadPlan => exact obeys_reqLoadPlan p
  | commitPlan => exact obeys_reqCommitPlan
  | dropPlan => exact (keeps_job (.refl s)).obeys
  | endJob => exact obeys_reqEndJob
  | extendBatch => exact obeys_reqExtendBatch p
  | readStation => exact obeys_reqReadStation p
  | readLane => exact obeys_reqReadLane p
  | readQueue => exact obeys_reqReadQueue p
  | readTrace => exact obeys_reqReadTrace p
  | setEventMask => exact obeys_reqSetEventMask p
  | readEvents => exact .refl s
  | clearEvents => exact obeys_reqClearEvents p

theorem obeys_answer (kind : Octet) (p : List Octet) : Obeys s (answer kind p s).2 := by
  unfold answer
  split
  · exact .refl s
  · exact obeys_ite (obeys_carryOut _ p) (.refl s)

/-! ### The dispatcher, the transmitter and the receiver (R174 to R179) -/

theorem obeys_takeFrame {f : Frame} {rest : List Frame} (hq : s.link.rxQueue = f :: rest) :
    Obeys s (takeFrame f rest s) := by
  have htaken : Keeps s { s with link := { s.link with rxQueue := rest } } :=
    keeps_link (.refl s) fun h => by
      rw [hq, List.length_cons] at h
      exact Nat.le_of_succ_le h
  exact (htaken.obeys.trans (obeys_answer f.kind f.payload)).trans (.of_same rfl rfl rfl)

theorem obeys_pump {n : Nat} (h : Obeys s t) : Obeys s (pump n t) := by
  induction n generalizing t with
  | zero => exact h
  | succ n ih =>
    unfold pump
    split
    · next hq => exact ih ((h.trans (obeys_takeFrame hq)).trans (acts_txChoose (.refl _)).keeps.obeys)
    · exact h

theorem obeys_settle (h : Obeys s t) : Obeys s (settle t) :=
  obeys_pump (h.trans (acts_txChoose (.refl t)).keeps.obeys)

/-- A good frame joins the receive queue only where that has room (R176). -/
theorem Link.takeGood_length_le {l : Link} (h : l.rxQueue.length ≤ Config.rxCapacity) (f : Frame) :
    (l.takeGood f).rxQueue.length ≤ Config.rxCapacity := by
  unfold Link.takeGood
  split
  · next hroom => simpa using hroom
  · dsimp only
    split <;> exact h

theorem obeys_deliver (kind tag : Octet) (payload : List Octet) : Obeys s (deliver kind tag payload s) :=
  obeys_settle (keeps_link (.refl s) fun h => Link.takeGood_length_le h _).obeys

theorem scan_rxQueue_length_le (n : Nat) (os : List Octet) {l : Link} (h : l.rxQueue.length ≤ Config.rxCapacity) :
    (scan n os l).rxQueue.length ≤ Config.rxCapacity := by
  induction os generalizing n l with
  | nil => cases n <;> exact h
  | cons o os ih =>
    cases n with
    | succ n => exact ih n h
    | zero =>
      rw [scan]
      split
      · split
        · exact h
        · exact ih 0 (l := { l with badLength := bump16 l.badLength }) h
        · exact ih 0 (l := { l with badCrc := bump16 l.badCrc }) h
        · exact ih _ (Link.takeGood_length_le h _)
      · exact ih 0 h

theorem obeys_octetReceived (o : Octet) : Obeys s (octetReceived o s) :=
  obeys_settle (keeps_link (l := (scan 0 (s.link.held ++ [o]) s.link).restartGap) (.refl s) fun h =>
    scan_rxQueue_length_le 0 _ h).obeys

theorem keeps_gapExpired (h : Keeps s t) : Keeps s (gapExpired t) :=
  keeps_link h fun hl => by
    unfold Link.abandon
    split <;> exact hl

/-! ### Resets (R189) -/

/-- RESTART alone is pending and due after a reset. -/
theorem EventSet.consistent_resetFor (cause : Nat) : (EventSet.resetFor cause).Consistent :=
  ⟨List.nodup_singleton _, fun k hk => by simp [List.mem_singleton.mp hk], fun k _ => by simp⟩

/-- A station at its reset values, whatever its pins show, keeps its laws. -/
theorem Station.lawful_restart (u : Station) : u.restart.Lawful .idle :=
  ⟨⟨by simp [Station.restart, Station.reset], by simp [Station.restart, Station.reset]⟩, fun _ => rfl,
    Nat.zero_le _, ⟨iff_of_true rfl rfl, iff_of_false nofun nofun, fun _ => rfl⟩, nofun, nofun⟩

theorem Lane.agrees_restart (u : Lane) : u.restart.Agrees := ⟨iff_of_true rfl rfl, iff_of_false nofun nofun⟩

theorem State.restart_queue (s : State) (cause : Nat) (rate : BitVec 2) : (s.restart cause rate).queue = [] := rfl

theorem State.numbered_of_empty (h : s.queue = []) : s.Numbered := by
  rw [State.Numbered, h]
  simp

theorem Tracker.windowed_reset : Tracker.reset.Windowed := by
  unfold Tracker.Windowed
  decide

theorem State.reset_wakes : State.reset.wake.isSome = true ↔ State.reset.mode = .standby := by decide

theorem obeys_restart (cause : Nat) (rate : BitVec 2) : Obeys s (s.restart cause rate) where
  pending := rfl
  due _ := EventSet.consistent_resetFor cause
  capacities _ := ⟨Nat.zero_le _, Nat.zero_le _, Nat.zero_le _, Nat.zero_le _⟩
  numbered _ := State.numbered_of_empty (State.restart_queue s cause rate)
  units _ := by
    refine ⟨Tracker.windowed_reset, State.reset_wakes, fun l => ?_, fun st => ?_⟩
    · rw [State.lane, State.restart, PerLane.get_map]
      exact Lane.agrees_restart _
    · rw [State.station, State.restart, PerStation.get_map]
      exact Station.lawful_restart _

theorem obeys_partReset (cause : Nat) (rate : BitVec 2) : Obeys s (partReset cause rate s) := by
  unfold partReset
  dsimp only
  split
  · exact (obeys_restart cause rate).trans (keeps_sourceFaults (.refl _)).obeys
  · exact obeys_restart cause rate

theorem obeys_frameSent : Obeys s (frameSent s) := by
  have hchosen : Obeys s (txChoose s) := (acts_txChoose (.refl s)).keeps.obeys
  unfold frameSent
  dsimp only
  split
  · exact hchosen
  · split
    · exact hchosen.trans (obeys_partReset 2 _)
    · exact obeys_settle (hchosen.trans (.of_same rfl rfl rfl))

/-! ### One millisecond (log 3) -/

@[simp] theorem countDown_isSome (n : Option Nat) : (countDown n).isSome = n.isSome := by cases n <;> rfl

theorem Station.Lawful.tick {u : Station} {mode : PressMode} (h : u.Lawful mode) : u.tick.Lawful mode := by
  obtain ⟨hk, hh, ht, hz, hc⟩ := h
  exact ⟨⟨by simpa [Station.tick] using hk.timer, hk.valve⟩, hh, ht,
    ⟨hz.off, by simpa [Station.tick] using hz.soak, hz.heater⟩, hc.idle, hc.thermal⟩

theorem keeps_tick (h : Keeps s t) : Keeps s t.tick := by
  refine h.trans ⟨rfl, rfl, rfl, id, fun hc => ⟨hc.queue, hc.trace, hc.received, hc.zones⟩, id, id, fun _ => id,
    fun st mode hu => ?_⟩
  rw [State.station, State.tick, PerStation.get_map]
  exact hu.tick

theorem keeps_msTick (s : State) : Keeps s (msTick s) := by
  unfold msTick
  have hticked : Keeps s (txChoose s).tick := keeps_tick (acts_txChoose (.refl s)).keeps
  have hmotion (x : Source) {t : State} (h : Keeps s t) : Keeps s (motionDue x t) := keeps_ite (keeps_motionExpired h) h
  have hgap : Keeps s (gapDue (sampleDue (motionDue .wheel (motionDue .line (txChoose s).tick)))) := by
    have hsampled := keeps_ite (c := (motionDue .wheel (motionDue .line (txChoose s).tick)).ref.sampleTimer = 0)
      (keeps_ref (r := (speedSample (motionDue .wheel (motionDue .line (txChoose s).tick))).ref)
        (hmotion .wheel (hmotion .line hticked))) (hmotion .wheel (hmotion .line hticked))
    exact keeps_ite (keeps_gapExpired hsampled) hsampled
  exact hgap.acts (acts_overStations (fun _ _ h => acts_ite (acts_soakExpired h) h)
    (acts_overStations (fun _ _ h => acts_ite (acts_strokeExpired h) h) (.refl _)))

/-! ### Every command and every step -/

theorem acts_idleLiftDue {st : StationId} (h : Acts s t) : Acts s (idleLiftDue st t) := by
  unfold idleLiftDue
  split
  · exact acts_ite (acts_idleLiftReached h) h
  · exact h

/-- Every command answers a next state, in which every law that held still holds. -/
theorem exec_obeys (i : Instr) (s : State) : ∃ t, exec i s = .next t ∧ Obeys s t := by
  cases i with
  | identify | reset | setMode | readStatus | setSource | setupEntry | setupStation | tuneRegister | setTrim | nudgeTrim
    | setupHeat | setupLane | loadSpool | pause | resume | clearFault | defineMotif | clearMotif | readMotif | loadPlan
    | commitPlan | dropPlan | endJob | extendBatch | readStation | readLane | readQueue | readTrace | setEventMask
    | readEvents | clearEvents | unknownKindRequest => exact ⟨_, exec_deliver rfl s, obeys_deliver _ _ _⟩
  | octetReceived o => exact ⟨_, rfl, obeys_octetReceived o⟩
  | missingStopBit | gapTimerExpiry => exact ⟨_, rfl, (keeps_gapExpired (.refl s)).obeys⟩
  | frameSent => exact ⟨_, rfl, obeys_frameSent⟩
  | hardwareReset | powerOnReset => exact ⟨_, rfl, obeys_partReset 1 _⟩
  | sourceCount => exact ⟨_, rfl, (keeps_pairChanges (.refl s)).obeys⟩
  | sourceFaultInputAsserted => exact ⟨_, rfl, (keeps_sourceFaultAsserted (.refl s)).obeys⟩
  | sourceFaultInputClears | speedSampleTimerExpiry => exact ⟨_, rfl, (keeps_ref (.refl s)).obeys⟩
  | motionTimerExpiry => exact ⟨_, rfl, (keeps_motionExpired (.refl s)).obeys⟩
  | markLeadingEdge => exact ⟨_, rfl, (keeps_markLeadingEdge (.refl s)).obeys⟩
  | markTrailingEdge => exact ⟨_, rfl, (keeps_markTrailingEdge (.refl s)).obeys⟩
  | overwidthThreshold => exact ⟨_, rfl, (keeps_overwidthThreshold (.refl s)).obeys⟩
  | entryWindowExpiry => exact ⟨_, rfl, (keeps_entryWindowExpiry (.refl s)).obeys⟩
  | spliceEdge => exact ⟨_, rfl, (keeps_spliceEdge (.refl s)).obeys⟩
  | spliceZoneRemoval => exact ⟨_, rfl, (keeps_spliceZoneRemoval (.refl s)).obeys⟩
  | stationWindowExpiry => exact ⟨_, rfl, (acts_stationWindowExpiry (.refl s)).keeps.obeys⟩
  | strikePoint => exact ⟨_, rfl, (acts_strikePoint (.refl s)).keeps.obeys⟩
  | dieGate => exact ⟨_, rfl, (keeps_dieGate (.refl s)).obeys⟩
  | waitingMarkExpiry => exact ⟨_, rfl, (acts_waitingMarkExpiry (.refl s)).keeps.obeys⟩
  | unpairedGateExpiry => exact ⟨_, rfl, (acts_unpairedGateExpiry (.refl s)).keeps.obeys⟩
  | engagedConfirm => exact ⟨_, rfl, (acts_modStation (.refl s) fun _ hu => hu.engagedConfirm _).keeps.obeys⟩
  | liftedConfirm => exact ⟨_, rfl, (acts_modStation (.refl s) fun _ hu => hu.liftedConfirm _).keeps.obeys⟩
  | strokeTimerExpiry => exact ⟨_, rfl, (acts_strokeExpired (.refl s)).keeps.obeys⟩
  | idleLiftPoint => exact ⟨_, rfl, (acts_idleLiftDue (.refl s)).keeps.obeys⟩
  | driveFaultInput => exact ⟨_, rfl, (acts_driveFault (.refl s)).keeps.obeys⟩
  | temperatureSample => exact ⟨_, rfl, (acts_temperatureSample (.refl s)).keeps.obeys⟩
  | sensorFaultInput => exact ⟨_, rfl, (acts_sensorFault (.refl s)).keeps.obeys⟩
  | soakTimerExpiry => exact ⟨_, rfl, (acts_soakExpired (.refl s)).keeps.obeys⟩
  | wakeThreshold => exact ⟨_, rfl, obeys_wakeThreshold⟩

/-- Every law that holds before a step holds after it, whatever waits in the queue of commands. -/
theorem step_laws (h : step s = .next t) :
    (s.events.Consistent → t.events.Consistent) ∧ (s.Capacities → t.Capacities) ∧ (s.Numbered → t.Numbered) ∧
      (unitLaws s → unitLaws t) := by
  unfold step at h
  split at h
  · cases h
    have hk := (keeps_msTick s).obeys
    exact ⟨hk.due, hk.capacities, hk.numbered, hk.units⟩
  · next c rest _ =>
    obtain ⟨t', he, ho⟩ := exec_obeys c { s with pending := rest }
    cases he.symm.trans h
    exact ⟨ho.due, fun hc => ho.capacities ⟨hc.queue, hc.trace, hc.received, hc.zones⟩, ho.numbered, ho.units⟩

end

end Sys2Proof.Machine

namespace Sys2Proof.Proofs

open Sys2Proof.Machine

/-- Settles O1, by the definition of a step on a non-empty queue. -/
theorem stepTakesFrontCommand : Obligations.StepTakesFrontCommand := by
  intro s c rest hp
  rw [step, hp]

/-- Settles O3: no command's meaning touches the queue of commands, and all answer a next state. -/
theorem everyCommandCompletesAndKeepsTheQueue : Obligations.EveryCommandCompletesAndKeepsTheQueue := by
  intro i s
  obtain ⟨t, ht, ho⟩ := exec_obeys i s
  exact ⟨t, ht, ho.pending⟩

/-- Settles O58, by the laws that every command and the millisecond keep. -/
theorem capacitiesAreKept : Obligations.CapacitiesAreKept := by
  intro s t hc hn h
  obtain ⟨-, hcap, hnum, -⟩ := step_laws h
  exact ⟨hcap hc, hnum hn⟩

/-- Settles O59: a kind joins the notice-due list only when it was not pending, and leaves it when cleared, masked out
or sent. -/
theorem noticesDueAreConsistent : Obligations.NoticesDueAreConsistent := by
  intro s t hc h
  obtain ⟨hdue, -, -, -⟩ := step_laws h
  exact hdue hc

/-- Settles O60: the reset values meet every law, and each operation on a unit leaves it within its laws. -/
theorem unitLawsAreKept : Obligations.UnitLawsAreKept := by
  have hreset (st) : (State.reset.station st).Lawful .idle := by
    rw [State.reset_station]
    exact Station.lawful_restart Station.reset
  have hlane (l) : (State.reset.lane l).Agrees := by
    rw [State.reset_lane]
    exact (Lane.agrees_restart Lane.reset).congr rfl
  refine ⟨⟨⟨Nat.zero_le _, Nat.zero_le _, Nat.zero_le _, Nat.zero_le _⟩, State.numbered_of_empty rfl,
    EventSet.consistent_resetFor 1, Tracker.windowed_reset, State.reset_wakes, hlane, hreset⟩, fun s t hs h => ?_⟩
  obtain ⟨-, -, -, hunits⟩ := step_laws h
  exact hunits hs

end Sys2Proof.Proofs
end

section
/-! The kinds of requests, their lengths, refusals and answers (O4 to O7), the receiver and the receive queue (O10, O11),
raises and trace entries (O13, O15), rewound edges (O46). -/

namespace Sys2Proof.Machine

/-! ### Saturating counts (R2) -/

theorem bump16_eq (n : Nat) : bump16 n = min 65535 (n + 1) := by
  unfold bump16 sat16 Config.max16
  omega

/-! ### Kind octets (R190) -/

/-- A request is named by the octet of its code alone. -/
theorem ReqKind.ofOctet_eq_some_iff {o : Octet} {k : ReqKind} : ReqKind.ofOctet o = some k ↔ o.toNat = k.code := by
  constructor
  · intro h
    rw [ReqKind.ofOctet] at h
    exact (beq_iff_eq.mp (List.find?_some h :)).symm
  · intro h
    have ho : o = BitVec.ofNat 8 k.code := by
      rw [← h, BitVec.ofNat_toNat, BitVec.setWidth_eq]
    rw [ho, ofOctet_code]

/-- The codes of requests are the 31 of R190. -/
theorem ReqKind.exists_code_iff (n : Nat) :
    (∃ k : ReqKind, n = k.code) ↔
      (0x01 ≤ n ∧ n ≤ 0x04) ∨ (0x10 ≤ n ∧ n ≤ 0x1B) ∨ (0x20 ≤ n ∧ n ≤ 0x26) ∨ (0x30 ≤ n ∧ n ≤ 0x34) ∨
        (0x38 ≤ n ∧ n ≤ 0x3A) := by
  constructor
  · rintro ⟨k, rfl⟩
    cases k <;> decide
  · intro h
    have hn : n < 64 := by omega
    have hall : ∀ m < 64, (0x01 ≤ m ∧ m ≤ 0x04) ∨ (0x10 ≤ m ∧ m ≤ 0x1B) ∨ (0x20 ≤ m ∧ m ≤ 0x26) ∨
        (0x30 ≤ m ∧ m ≤ 0x34) ∨ (0x38 ≤ m ∧ m ≤ 0x3A) → ∃ k ∈ ReqKind.all, m = k.code := by decide
    obtain ⟨k, -, hk⟩ := hall n hn h
    exact ⟨k, hk⟩

/-! ### Answers on a link at rest (R177, R178) -/

theorem placeReply_refuse {s : State} (h : s.atRest = true) (f : Frame) (st : Status) :
    txChoose (placeReply f (refuse st s)) = s.answered (f.kind + 0x80) f.tag [statusCode st] := by
  obtain ⟨-, -, hreset, -⟩ := (atRest_iff s).mp h
  simp [placeReply, refuse, State.answered, hreset]

theorem lengthFits_of_unfit {k : ReqKind} {p : List Octet} (h : lengthUnfit k p) : lengthFits k p = false := by
  unfold lengthUnfit at h
  unfold lengthFits
  split at h
  · rw [Bool.and_eq_false_iff]
    right
    simp only [Bool.and_eq_false_iff, decide_eq_false_iff_not, Nat.not_le]
    exact h
  · rw [Bool.and_eq_false_iff]
    right
    simp only [motifGroups]
    obtain hl | hg := h
    · obtain - | ⟨a, - | ⟨b, os⟩⟩ := p
      · rfl
      · rfl
      · simp at hl
    · split
      · simp only [List.drop_succ_cons, List.drop_zero] at hg
        rw [hg]
        rfl
      · rfl
  · next hplan hmotif =>
    rw [Bool.and_eq_false_iff]
    right
    cases k with
    | loadPlan => exact (hplan rfl).elim
    | defineMotif => exact (hmotif rfl).elim
    | _ => simpa using h

/-- What the answer to a request of kind `k` may be: a reply, and no change where that reply is a refusal, which is one
octet but for COMMIT PLAN's and CLEAR FAULT's (R178, R193). -/
def Answer.Fair (k : ReqKind) (s : State) (a : Answer) : Prop :=
  a.1 ≠ [] ∧ (refusal a.1 → a.2 = s ∧
    (a.1.length = 1 ∨ (k = .commitPlan ∧ a.1.length = 3) ∨
      (k = .clearFault ∧ a.1.length = 13 ∧ a.1.head? = some 0x07)))

section
variable {k : ReqKind} {s t : State} {body : List Octet} {a b : Answer}

theorem fair_refuse (st : Status) : Answer.Fair k s (refuse st s) :=
  ⟨List.cons_ne_nil _ _, fun _ => ⟨rfl, .inl rfl⟩⟩

theorem fair_ok : Answer.Fair k s (accept .ok body t) := ⟨List.cons_ne_nil _ _, fun h => (h.1 rfl).elim⟩

theorem fair_okOr (clamped : Bool) : Answer.Fair k s (accept (okOr clamped) body t) := by
  refine ⟨List.cons_ne_nil _ _, fun h => ?_⟩
  cases clamped with
  | false => exact (h.1 rfl).elim
  | true => exact (h.2 rfl).elim

theorem fair_ite {c : Prop} [Decidable c] (h : Answer.Fair k s a) (h' : Answer.Fair k s b) :
    Answer.Fair k s (if c then a else b) := by
  split
  · exact h
  · exact h'

theorem fair_commitRefused (f : CommitFailure) : Answer.Fair .commitPlan s (commitRefused f s) :=
  ⟨List.cons_ne_nil _ _, fun _ => ⟨rfl, .inr (.inl ⟨rfl, rfl⟩)⟩⟩

theorem faultReply_length (s : State) : (faultReply s).length = 12 :=
  length_flatMap_of_length (m := 3) (fun _ => rfl) _

theorem fair_clearFaultRefused : Answer.Fair .clearFault s (accept .notReady (faultReply s) s) :=
  ⟨List.cons_ne_nil _ _, fun _ => ⟨rfl, .inr (.inr ⟨rfl, congrArg (· + 1) (faultReply_length s), rfl⟩)⟩⟩

/-- Every request is answered fairly. -/
theorem fair_carryOut (k : ReqKind) (p : List Octet) (s : State) : Answer.Fair k s (carryOut k p s) := by
  cases k with
  | identify | reset | readStatus | dropPlan | readEvents => exact fair_ok
  | setMode | readStation | readLane | setEventMask | clearEvents =>
    simp only [carryOut, reqSetMode, reqReadStation, reqReadLane, reqSetEventMask, reqClearEvents]
    split
    · exact fair_refuse _
    · exact fair_ok
  | setSource =>
    simp only [carryOut, reqSetSource]
    split
    · exact fair_refuse _
    · exact fair_ite (fair_refuse _) (fair_ite (fair_refuse _) (fair_ite (fair_refuse _) (fair_ite (fair_refuse _)
        (fair_okOr _))))
  | setupEntry => exact fair_ite (fair_refuse _) (fair_ite (fair_refuse _) (fair_okOr _))
  | setupStation =>
    simp only [carryOut, reqSetupStation]
    split
    · exact fair_refuse _
    · refine fair_ite (fair_refuse _) ?_
      split
      · exact fair_refuse _
      · exact fair_ite (fair_refuse _) (fair_ite (fair_refuse _) (fair_okOr _))
  | tuneRegister =>
    simp only [carryOut, reqTuneRegister]
    split
    · exact fair_okOr _
    · exact fair_refuse _
  | setTrim | setupHeat =>
    simp only [carryOut, reqSetTrim, reqSetupHeat]
    split
    · exact fair_refuse _
    · exact fair_ite (fair_refuse _) (fair_okOr _)
  | nudgeTrim =>
    simp only [carryOut, reqNudgeTrim]
    split
    · exact fair_refuse _
    · exact fair_okOr _
  | setupLane =>
    simp only [carryOut, reqSetupLane]
    split
    · exact fair_refuse _
    · refine fair_ite (fair_refuse _) ?_
      split
      · exact fair_refuse _
      · exact fair_ite (fair_refuse _) (fair_okOr _)
  | loadSpool =>
    simp only [carryOut, reqLoadSpool]
    split
    · exact fair_refuse _
    · refine fair_ite (fair_refuse _) ?_
      split
      case h_4 => exact fair_ok
      all_goals exact fair_refuse _
  | pause | resume =>
    simp only [carryOut, reqPause, reqResume]
    split
    · exact fair_refuse _
    · exact fair_ite fair_ok (fair_refuse _)
  | clearFault =>
    simp only [carryOut, reqClearFault]
    split
    · exact fair_refuse _
    · exact fair_ite fair_clearFaultRefused fair_ok
  | defineMotif =>
    simp only [carryOut, reqDefineMotif]
    split
    · exact fair_ite (fair_refuse _) (fair_ite (fair_refuse _) fair_ok)
    · exact fair_refuse _
  | clearMotif => exact fair_ite (fair_refuse _) (fair_ite (fair_refuse _) fair_ok)
  | readMotif | readQueue => exact fair_ite (fair_refuse _) fair_ok
  | readTrace => exact fair_ite (fair_refuse _) (fair_okOr _)
  | loadPlan =>
    simp only [carryOut, reqLoadPlan]
    refine fair_ite (fair_refuse _) ?_
    split
    · exact fair_refuse _
    · exact fair_ite (fair_refuse _) fair_ok
  | commitPlan =>
    simp only [carryOut, reqCommitPlan]
    split
    · exact fair_commitRefused _
    · exact fair_commitRefused _
    · split
      · exact fair_commitRefused _
      · exact fair_ok
  | endJob =>
    simp only [carryOut, reqEndJob]
    split
    · exact fair_refuse _
    · exact fair_ok
    · exact fair_refuse _
    · exact fair_ok
  | extendBatch =>
    exact fair_ite (fair_refuse _) (fair_ite (fair_refuse _) (fair_ite (fair_refuse _) (fair_ite (fair_refuse _)
      (fair_okOr _))))

/-- What the answer to a frame of kind octet `o` may be. -/
theorem answer_fair (o : Octet) (p : List Octet) (s : State) :
    (answer o p s).1 ≠ [] ∧ (refusal (answer o p s).1 → (answer o p s).2 = s ∧
      ((answer o p s).1.length = 1 ∨ (o = 0x23 ∧ (answer o p s).1.length = 3) ∨
        (o = 0x1B ∧ (answer o p s).1.length = 13 ∧ (answer o p s).1.head? = some 0x07))) := by
  unfold answer
  split
  · exact ⟨List.cons_ne_nil _ _, fun _ => ⟨rfl, .inl rfl⟩⟩
  · next k hk =>
    have hcode := ReqKind.ofOctet_eq_some_iff.mp hk
    split
    · obtain ⟨hne, hfair⟩ := fair_carryOut k p s
      refine ⟨hne, fun hr => ?_⟩
      obtain ⟨hs, hlen⟩ := hfair hr
      refine ⟨hs, hlen.imp id (Or.imp ?_ ?_)⟩
      · rintro ⟨rfl, hl⟩
        exact ⟨BitVec.eq_of_toNat_eq hcode, hl⟩
      · rintro ⟨rfl, hl⟩
        exact ⟨BitVec.eq_of_toNat_eq hcode, hl⟩
    · exact ⟨List.cons_ne_nil _ _, fun _ => ⟨rfl, .inl rfl⟩⟩

end

/-! ### The receive queue (R176) -/

/-- With the reply slot taken and a frame on the line, neither the transmitter nor the dispatcher acts. -/
theorem settle_busy {s : State} (hslot : s.link.slot.isSome = true) (htx : s.link.tx.isSome = true) : settle s = s := by
  unfold settle
  dsimp only
  rw [txChoose_busy htx]
  exact pump_slot hslot _

theorem takeGood_room {l : Link} (h : l.rxQueue.length < 2) (f : Frame) :
    l.takeGood f = { l with rxQueue := l.rxQueue ++ [f] } := if_pos h

theorem takeGood_full {l : Link} (h : 2 ≤ l.rxQueue.length) (f : Frame) :
    l.takeGood f = { l with overruns := min 65535 (l.overruns + 1), overrun := true,
                            lostKind := if l.overrun then l.lostKind else f.kind,
                            lostTag := if l.overrun then l.lostTag else f.tag } := by
  rw [Link.takeGood, if_neg (show ¬ _ < Config.rxCapacity from Nat.not_lt.mpr h), bump16_eq]
  dsimp only
  by_cases ho : l.overrun = true
  · rw [if_pos ho, if_pos ho, if_pos ho, ho]
  · rw [if_neg ho, if_neg ho, if_neg ho]

/-! ### Raises (R180, R182) -/

theorem EventKind.index_injective : Function.Injective EventKind.index :=
  Function.LeftInverse.injective (g := fun n =>
    [EventKind.restart, .sourceFault, .sourceDisagree, .reverseLimit, .queueFlushed, .entryLocked, .entryLost,
      .slotSlip, .queueOverflow, .marksLost, .dieSlip, .trimSaturated, .impressionFault, .strikeFault, .foilLow,
      .foilOut, .foilDriveFault, .heatReady, .heatFault, .jobEnded, .planChanged, .traceWatermark, .traceOverflow,
      .woke][n.val]) (fun k => by cases k <;> rfl)

/-- Every bit of an event set is a kind's. -/
theorem EventKind.exists_index (n : Fin 24) : ∃ k : EventKind, k.index = n := by
  have h : ∀ m : Fin 24, m ∈ [EventKind.restart, .sourceFault, .sourceDisagree, .reverseLimit, .queueFlushed,
      .entryLocked, .entryLost, .slotSlip, .queueOverflow, .marksLost, .dieSlip, .trimSaturated, .impressionFault,
      .strikeFault, .foilLow, .foilOut, .foilDriveFault, .heatReady, .heatFault, .jobEnded, .planChanged,
      .traceWatermark, .traceOverflow, .woke].map EventKind.index := by decide
  obtain ⟨k, -, hk⟩ := List.mem_map.mp (h n)
  exact ⟨k, hk⟩

theorem EventKind.isIn_bit_iff (j k : EventKind) : j.isIn k.bit = (j == k) := by
  by_cases h : j = k
  · rw [h, EventKind.isIn_bit, beq_self_eq_true]
  · have hne : j.index.val ≠ k.index.val := fun he => h (EventKind.index_injective (Fin.ext he))
    have hlt : j.index.val < 24 := j.index.isLt
    rw [beq_false_of_ne h, EventKind.isIn, EventKind.bit, BitVec.getLsbD_shiftLeft, BitVec.getLsbD_one]
    simp only [Bool.and_eq_false_iff, Bool.not_eq_false', decide_eq_true_eq, decide_eq_false_iff_not]
    omega

theorem EventSet.attn_iff (e : EventSet) :
    e.attn = true ↔ ∃ j : EventKind, j.isIn e.flags = true ∧ j.isIn e.mask = true := by
  have hzero : e.attn = true ↔ e.flags &&& e.mask ≠ 0#24 := by simp [EventSet.attn]
  rw [hzero]
  constructor
  · intro hne
    by_contra hall
    push Not at hall
    refine hne (BitVec.eq_of_getLsbD_eq fun i hi => ?_)
    obtain ⟨j, hj⟩ := EventKind.exists_index ⟨i, hi⟩
    have hi' : j.index.val = i := congrArg Fin.val hj
    have hmask := hall j
    simp only [EventKind.isIn, hi'] at hmask
    rw [BitVec.getLsbD_and, BitVec.getLsbD_zero]
    cases hf : e.flags.getLsbD i with
    | false => rfl
    | true => exact Bool.eq_false_iff.mpr (hmask hf)
  · rintro ⟨j, hf, hm⟩ he
    have hbit : (e.flags &&& e.mask).getLsbD j.index.val = true := by
      rw [BitVec.getLsbD_and]
      exact Bool.and_eq_true_iff.mpr ⟨hf, hm⟩
    rw [he] at hbit
    simp at hbit

/-! ### Edges (R10) -/

theorem State.behind_of {s : State} (h : sdiff s.web s.ref.hw < 0) : s.behind = true := decide_eq_true h

end Sys2Proof.Machine

namespace Sys2Proof.Proofs

open Sys2Proof.Machine

/-- Settles O4: an octet names a request exactly when it is the code of one. -/
theorem kindOctetsAccepted : Obligations.KindOctetsAccepted := by
  intro kind
  rw [← ReqKind.exists_code_iff, Option.isSome_iff_exists]
  exact exists_congr fun k => ReqKind.ofOctet_eq_some_iff

/-- Settles O5: the dispatcher's kind test. -/
theorem unknownKindAnswered : Obligations.UnknownKindAnswered := by
  intro s kind tag p h hk
  rw [exec_deliver (f := { kind, tag, payload := p }) rfl, deliver_atRest h, answer, hk]
  exact congrArg Host.Outcome.next (placeReply_refuse h _ _)

/-- Settles O6: the dispatcher's length test. -/
theorem badLengthAnswered : Obligations.BadLengthAnswered := by
  intro s i f k h hi hk hunfit
  rw [exec_deliver hi, deliver_atRest h, answer, hk]
  dsimp only
  rw [lengthFits_of_unfit hunfit]
  exact congrArg Host.Outcome.next (placeReply_refuse h _ _)

/-- Settles O7, by what the answer of each request may be. -/
theorem refusedRequestsChangeNothing : Obligations.RefusedRequestsChangeNothing := by
  intro s i f h hi
  rw [exec_deliver hi, deliver_atRest h]
  exact ⟨_, _, rfl, answer_fair f.kind f.payload s⟩

/-- Settles O10, by the two states of the receiver. -/
theorem candidateAbandoned : Obligations.CandidateAbandoned := by
  intro s i hi
  have hexec : exec i s = .next (gapExpired s) := by rcases hi with rfl | rfl <;> rfl
  rw [hexec, gapExpired, Link.abandon]
  exact ⟨fun h => by rw [if_pos h], fun h => by rw [if_neg h, bump16_eq]⟩

/-- Settles O11: the transmitter is busy and the reply slot taken, so that neither it nor the dispatcher acts. -/
theorem waitingFrameIsQueuedOrLost : Obligations.WaitingFrameIsQueuedOrLost := by
  intro s i f hi hslot htx
  rw [exec_deliver hi, deliver]
  constructor
  · intro hroom
    rw [takeGood_room hroom]
    exact congrArg Host.Outcome.next (settle_busy hslot htx)
  · intro hfull
    rw [takeGood_full hfull]
    exact congrArg Host.Outcome.next (settle_busy hslot htx)

/-- Settles O13, by the case of the kind: pending, masked in or masked out. -/
theorem raiseWritesRecordFlagAndNotice : Obligations.RaiseWritesRecordFlagAndNotice := by
  intro s k unit detail htx
  have hbits (j : EventKind) : j.isIn (s.events.flags ||| k.bit) = (j.isIn s.events.flags || j == k) := by
    rw [EventKind.isIn_or, EventKind.isIn_bit_iff]
  refine ⟨fun hp => ?_, fun hp hm => ⟨_, ?_, hbits⟩, fun hp hm => ⟨_, ?_, hbits⟩, s.events.attn_iff⟩
  · rw [raiseEvent_eq, if_pos hp]
  · rw [raiseEvent_eq, if_neg (by simp [hp]), if_pos hm]
    exact txChoose_busy htx
  · rw [raiseEvent_eq, if_neg (by simp [hp]), if_neg (by simp [hm])]

/-- Settles O15, by the room in the trace queue. -/
theorem traceEntryIsQueuedOrDropped : Obligations.TraceEntryIsQueuedOrDropped := by
  intro s e
  constructor
  · intro hroom
    rw [writeTrace_eq, if_pos (show _ < Config.traceCapacity from hroom), watermarkTest]
    simp only [List.length_append, List.length_singleton]
  · intro hfull
    rw [writeTrace_eq, if_neg (show ¬ _ < Config.traceCapacity from Nat.not_lt.mpr hfull), bump16_eq]

/-- Settles O46: each of the four edges first tests whether the web lies behind HW. -/
theorem rewoundEdgesAreCounted : Obligations.RewoundEdgesAreCounted := by
  intro s i hbehind hi
  have hb := State.behind_of hbehind
  have hrewound : rewoundEdge s = { s with ref := { s.ref with rewound := min 65535 (s.ref.rewound + 1) } } := by
    rw [rewoundEdge, bump16_eq]
  have hexec : exec i s = .next (rewoundEdge s) := by
    rcases hi with ⟨ch, rfl⟩ | ⟨ch, rfl⟩ | ⟨lead, rfl⟩ | ⟨st, index, rfl⟩
    · exact congrArg Host.Outcome.next (if_pos hb : markLeadingEdge ch s = _)
    · exact congrArg Host.Outcome.next (if_pos hb : markTrailingEdge ch s = _)
    · exact congrArg Host.Outcome.next (if_pos hb : spliceEdge lead s = _)
    · exact congrArg Host.Outcome.next (if_pos hb : dieGate st index s = _)
  rw [hexec, hrewound]

end Sys2Proof.Proofs
end

section
/-! The commands that wait stand apart from what the timers do, so that the expiries of one millisecond are the commands
of O2 run in their order; the end of a sent frame (O12). -/

namespace Sys2Proof.Machine

/-! ### The queue of commands stands apart -/

/-- The state with other commands waiting. -/
def State.withPending (s : State) (p : List Instr) : State := { s with pending := p }

/-- What an operation does, and the commands that wait, do not touch each other. -/
def Apart (f : State → State) : Prop := ∀ (p : List Instr) (s : State), f (s.withPending p) = (f s).withPending p

section
variable {f g : State → State}

theorem Apart.comp (hg : Apart g) (hf : Apart f) : Apart fun s => g (f s) := fun p s =>
  (congrArg g (hf p s)).trans (hg p (f s))

theorem Apart.ite {c : State → Prop} [∀ s, Decidable (c s)] (hc : ∀ p s, c (s.withPending p) = c s) (hf : Apart f)
    (hg : Apart g) : Apart fun s => if c s then f s else g s := by
  intro p s
  simp only [hc]
  split
  · exact hf p s
  · exact hg p s

theorem Apart.foldl {α : Type} {h : State → α → State} (hh : ∀ a, Apart fun s => h s a) (as : List α) :
    Apart fun s => as.foldl h s := by
  intro p s
  induction as generalizing s with
  | nil => rfl
  | cons a as ih =>
    exact (congrArg (List.foldl h · as) (hh a p s)).trans (ih (h s a))

theorem apart_id : Apart fun s => s := fun _ _ => rfl

theorem apart_modStation (st : StationId) (f : Station → Station) : Apart fun s => s.modStation st f := fun _ _ => rfl

theorem apart_txChoose : Apart txChoose := by
  intro p s
  unfold txChoose
  cases ht : s.link.tx with
  | some r => simp [State.withPending, ht]
  | none =>
    cases hs : s.link.slot with
    | some r => simp [State.withPending, ht, hs]
    | none => cases hd : s.events.due <;> simp [State.withPending, ht, hs, hd]

theorem apart_raiseEvent (k : EventKind) (unit detail : Nat) : Apart (raiseEvent k unit detail) := by
  intro p s
  rw [raiseEvent_eq, raiseEvent_eq]
  by_cases hp : k.isIn s.events.flags = true
  · rw [if_pos hp, if_pos (by exact hp)]
    rfl
  · rw [if_neg hp, if_neg (by exact hp)]
    by_cases hm : k.isIn s.events.mask = true
    · rw [if_pos hm, if_pos (by exact hm), ← apart_txChoose]
      rfl
    · rw [if_neg hm, if_neg (by exact hm)]
      rfl

theorem apart_addSoft (c : Cause) (st : StationId) : Apart (addSoft c st) :=
  .ite (fun _ _ => rfl) (apart_modStation _ _) apart_id

theorem apart_skipDecided (seq : BitVec 16) (st : StationId) : Apart (skipDecided seq st) :=
  .ite (c := fun s => (visitsOf st (recordsBefore seq s.queue)).any Visit.undelivered = true) (fun _ _ => rfl) apart_id
    (apart_modStation _ _)

theorem apart_convertVisit (seq : BitVec 16) (st : StationId) (reason : SkipReason) (feeds : List FeedRecord) :
    Apart (convertVisit seq st reason feeds) :=
  (apart_skipDecided seq st).comp ((Apart.foldl (h := fun s l => s.modLane l fun u => u.stopOne seq)
    (fun _ _ _ => rfl) _).comp fun _ _ => rfl)

theorem apart_convertAll (st : StationId) : Apart (convertAll st) := fun p s =>
  Apart.foldl (α := BitVec 16 × List FeedRecord) (h := fun s x => convertVisit x.1 st .hold x.2 s)
    (fun x => apart_convertVisit x.1 st .hold x.2) (undeliveredOf st s.queue) p s

theorem apart_haltLanes (st : StationId) : Apart (haltLanes st) := fun p s =>
  Apart.foldl (h := fun s l => s.modLane l fun u => u.halt s.web) (fun _ _ _ => rfl) (s.lanesOf st) p s

theorem apart_addHard (c : Cause) (st : StationId) : Apart (addHard c st) :=
  .ite (c := fun s => (s.enabled st && !(s.station st).hold.has c) = true) (fun _ _ => rfl)
    (((apart_haltLanes st).comp ((apart_convertAll st).comp (apart_modStation _ _))).comp (apart_addSoft c st)) apart_id

theorem apart_setZone (st : StationId) (z : HeatZone) : Apart (setZone st z) :=
  .ite (c := fun _ => z.holds = true) (fun _ _ => rfl) ((apart_addSoft _ _).comp (apart_modStation _ _))
    ((apart_modStation _ _).comp (apart_modStation _ _))

theorem apart_motionExpired (x : Source) : Apart (motionExpired x) :=
  .ite (c := fun s => (s.ref.source x).state = .moving) (fun _ _ => rfl) (fun _ _ => rfl) apart_id

theorem apart_jam (st : StationId) (detail : Nat) : Apart fun s =>
    addHard .actuator st (raiseEvent .impressionFault st.number detail
      (s.modStation st fun u => { u with valve := .lift, actuator := .jammed, stroke := none })) :=
  (apart_addHard _ st).comp ((apart_raiseEvent _ _ _).comp (apart_modStation _ _))

theorem apart_strokeExpired (st : StationId) : Apart (strokeExpired st) := by
  intro p s
  have hsame : (s.withPending p).station st = s.station st := rfl
  unfold strokeExpired
  dsimp only
  rw [hsame]
  cases (s.station st).actuator with
  | engaging => exact apart_jam st 1 p s
  | lifting => exact apart_jam st 2 p s
  | lifted | engaged | jammed => rfl

theorem apart_soakExpired (st : StationId) : Apart (soakExpired st) := by
  refine .ite (c := fun s => (s.station st).zone.state = .soaking) (fun _ _ => rfl) (fun p s => ?_) apart_id
  have hset := apart_setZone st { (s.station st).zone with state := .ready, soakTimer := none } p s
  have hready := apart_raiseEvent .heatReady st.number
  exact (congrArg (heatReady st) hset).trans (hready _ p _)

end

/-- One step of a run. -/
theorem run_succ {s t : State} {k : Nat} (h : step s = .next t) :
    Host.Core.run core (k + 1) s = Host.Core.run core k t := by
  have hstep : core.step s = .next t := h
  simp only [Host.Core.run, hstep]

/-- The commands that wait are run in their order, when each is an operation apart from the queue. -/
theorem run_commands {f : Instr → State → State} (cs : List Instr) (s : State)
    (hexec : ∀ c ∈ cs, ∀ t, exec c t = .next (f c t)) (hapart : ∀ c ∈ cs, Apart (f c)) :
    Host.Core.run core cs.length (s.withPending cs) = .next ((cs.foldl (fun t c => f c t) s).withPending []) := by
  induction cs generalizing s with
  | nil => rfl
  | cons c cs ih =>
    have hstep : step (s.withPending (c :: cs)) = .next ((f c s).withPending cs) := by
      have hrest : step (s.withPending (c :: cs)) = exec c (s.withPending cs) := rfl
      rw [hrest, hexec c List.mem_cons_self, hapart c List.mem_cons_self]
    rw [List.length_cons, run_succ hstep, List.foldl_cons]
    exact ih _ (fun c hc => hexec c (List.mem_cons_of_mem _ hc)) (fun c hc => hapart c (List.mem_cons_of_mem _ hc))

/-! ### What has run out, tested at once and one after the other (log 3) -/

/-- An expiry at each unit that has run out, one after the other, is the expiries at those that had run out before the
first, when none of them changes the test of another. -/
theorem foldl_filter_eq {α : Type} {f : α → State → State} {due : State → α → Bool} {as : List α} (hnodup : as.Nodup)
    (hother : ∀ a b s, a ≠ b → due s a = true → due (f a s) b = due s b) (s : State) :
    (as.filter (due s)).foldl (fun t a => f a t) s = as.foldl (fun t a => if due t a then f a t else t) s := by
  induction as generalizing s with
  | nil => rfl
  | cons a as ih =>
    obtain ⟨ha, hnodup⟩ := List.nodup_cons.mp hnodup
    by_cases hd : due s a = true
    · have hsame : as.filter (due s) = as.filter (due (f a s)) := List.filter_congr fun b hb =>
        (hother a b s (fun h => ha (h ▸ hb)) hd).symm
      rw [List.filter_cons_of_pos hd, List.foldl_cons, List.foldl_cons, if_pos hd, hsame]
      exact ih hnodup _
    · rw [List.filter_cons_of_neg hd, List.foldl_cons, if_neg hd]
      exact ih hnodup _

/-! ### The expiries of one millisecond (log 3) -/

/-- What the expiry of a timer does. -/
def expiry : Instr → State → State
  | .motionTimerExpiry x => motionExpired x
  | .speedSampleTimerExpiry => speedSample
  | .gapTimerExpiry => gapExpired
  | .strokeTimerExpiry st => strokeExpired st
  | .soakTimerExpiry st => soakExpired st
  | _ => id

theorem apart_expiry (c : Instr) : Apart (expiry c) := by
  cases c with
  | motionTimerExpiry x => exact apart_motionExpired x
  | strokeTimerExpiry st => exact apart_strokeExpired st
  | soakTimerExpiry st => exact apart_soakExpired st
  | _ => exact fun _ _ => rfl

section
variable (s : State)

@[simp] theorem Reference.abandonSpan_source (r : Reference) (x : Source) : r.abandonSpan.source x = r.source x := by
  unfold Reference.abandonSpan
  split <;> rfl

@[simp] theorem Reference.abandonSpan_sampleTimer (r : Reference) : r.abandonSpan.sampleTimer = r.sampleTimer := by
  unfold Reference.abandonSpan
  split <;> rfl

theorem Reference.withSource_source_of_ne (r : Reference) {x y : Source} (h : y ≠ x) (u : SourceUnit) :
    (r.withSource x u).source y = r.source y := by
  cases x <;> cases y
  · exact (h rfl).elim
  · rfl
  · rfl
  · exact (h rfl).elim

@[simp] theorem Reference.withSource_sampleTimer (r : Reference) (x : Source) (u : SourceUnit) :
    (r.withSource x u).sampleTimer = r.sampleTimer := by cases x <;> rfl

theorem motionExpired_motion {x y : Source} (h : y ≠ x) :
    ((motionExpired x s).ref.source y).motion = (s.ref.source y).motion := by
  unfold motionExpired
  dsimp only
  split
  · rw [Reference.abandonSpan_source, Reference.withSource_source_of_ne _ h]
  · rfl

/-- A motion timer's expiry moves the reference unit alone, and there not the sample timer. -/
theorem motionDue_frame (x : Source) : ∃ r, motionDue x s = { s with ref := r } ∧ r.sampleTimer = s.ref.sampleTimer := by
  unfold motionDue motionExpired
  dsimp only
  split
  · split
    · exact ⟨_, rfl, by simp⟩
    · exact ⟨s.ref, rfl, rfl⟩
  · exact ⟨s.ref, rfl, rfl⟩

theorem sampleDue_frame : ∃ r, sampleDue s = { s with ref := r } := by
  unfold sampleDue
  split
  · exact ⟨_, rfl⟩
  · exact ⟨s.ref, rfl⟩

theorem gapDue_stations : (gapDue s).stations = s.stations := by
  unfold gapDue
  split <;> rfl

omit s in
theorem Station.struckBy_zone (u : Station) (c : Cause) : (u.struckBy c).zone = u.zone := by
  unfold Station.struckBy Station.cancelAndLift
  obtain ⟨valve, actuator, stroke, h⟩ :=
    Station.lift_frame { ({ u with hold := u.hold.put c true } : Station) with idleLift := none }
  rw [h]

/-- A stroke timer's expiry moves no other station, and no zone's soak timer. -/
theorem strokeExpired_station (st st' : StationId) :
    (st' ≠ st → (strokeExpired st s).station st' = s.station st') ∧
      ((strokeExpired st s).station st').zone = (s.station st').zone := by
  have hjam (detail : Nat) : let t := addHard .actuator st (raiseEvent .impressionFault st.number detail
        (s.modStation st fun u => { u with valve := .lift, actuator := .jammed, stroke := none }))
      (st' ≠ st → t.station st' = s.station st') ∧ (t.station st').zone = (s.station st').zone := by
    intro t
    have ht := addHard_station .actuator st (raiseEvent .impressionFault st.number detail
      (s.modStation st fun u => { u with valve := .lift, actuator := .jammed, stroke := none })) st'
    rw [raiseEvent_station, raiseEvent_station, raiseEvent_enabled, State.modStation_station] at ht
    by_cases he : st' = st
    · subst he
      refine ⟨fun hne => (hne rfl).elim, ?_⟩
      rw [ht]
      split
      · exact Station.struckBy_zone _ _
      · rw [State.modStation_station]
    · have hsame : t.station st' = s.station st' := by
        rw [ht, if_neg fun h => he h.1, State.modStation_station_of_ne _ he]
      exact ⟨fun _ => hsame, by rw [hsame]⟩
  unfold strokeExpired
  dsimp only
  split
  · exact hjam 1
  · exact hjam 2
  · exact ⟨fun _ => rfl, rfl⟩

theorem setZone_station_of_ne {st st' : StationId} (h : st' ≠ st) (z : HeatZone) :
    (setZone st z s).station st' = s.station st' := by
  rw [setZone_eq]
  exact State.modStation_station_of_ne _ h _

theorem soakExpired_station_of_ne {st st' : StationId} (h : st' ≠ st) :
    (soakExpired st s).station st' = s.station st' := by
  unfold soakExpired heatReady
  dsimp only
  split
  · rw [raiseEvent_station, setZone_station_of_ne _ h]
  · rfl

/-- The motion timers that have run out expire. -/
theorem motion_expiries :
    (([Source.line, .wheel].filter fun x => (s.ref.source x).motion == some 0).map Instr.motionTimerExpiry).foldl
      (fun t c => expiry c t) s = motionDue .wheel (motionDue .line s) := by
  rw [List.foldl_map]
  refine (foldl_filter_eq (f := motionExpired) (due := fun s x => (s.ref.source x).motion == some 0) (by decide)
    (fun x y s hne _ => ?_) s).trans ?_
  · rw [motionExpired_motion s hne.symm]
  · simp only [List.foldl_cons, List.foldl_nil, beq_iff_eq]
    rfl

/-- The stroke timers that have run out expire. -/
theorem stroke_expiries :
    ((allStations.filter fun st => (s.station st).stroke == some 0).map Instr.strokeTimerExpiry).foldl
      (fun t c => expiry c t) s = overStations allStations strokeDue s := by
  rw [List.foldl_map]
  refine (foldl_filter_eq (f := strokeExpired) (due := fun s st => (s.station st).stroke == some 0) (by decide)
    (fun st st' s hne _ => ?_) s).trans ?_
  · rw [(strokeExpired_station s st st').1 hne.symm]
  · simp only [beq_iff_eq]
    rfl

/-- The soak timers that have run out expire. -/
theorem soak_expiries :
    ((allStations.filter fun st => (s.station st).zone.soakTimer == some 0).map Instr.soakTimerExpiry).foldl
      (fun t c => expiry c t) s = overStations allStations soakDue s := by
  rw [List.foldl_map]
  refine (foldl_filter_eq (f := soakExpired) (due := fun s st => (s.station st).zone.soakTimer == some 0) (by decide)
    (fun st st' s hne _ => ?_) s).trans ?_
  · rw [soakExpired_station_of_ne s hne.symm]
  · simp only [beq_iff_eq]
    rfl

/-- No stroke timer's expiry moves a soak timer. -/
theorem strokeDues_zone (st : StationId) :
    ((overStations allStations strokeDue s).station st).zone = (s.station st).zone := by
  refine overStations_keeps (P := fun t => (t.station st).zone = (s.station st).zone) (fun st' t ht => ?_) allStations rfl
  unfold strokeDue
  split
  · exact (strokeExpired_station t st' st).2.trans ht
  · exact ht

end

/-- The part one millisecond later, before any timer expires. -/
theorem tick_txChoose (s : State) :
    (txChoose s).tick = { txChoose s with
      ref := s.ref.tick
      stations := s.stations.map Station.tick
      link := { (txChoose s).link with gap := countDown s.link.gap } } := by
  have hgap : (txChoose s).link.gap = s.link.gap := by
    obtain h | ⟨_, _, _, h⟩ | ⟨_, _, _, _, _, h⟩ := txChoose_cases s <;> rw [h]
  rw [State.tick, txChoose_ref, txChoose_stations, hgap]

/-- The timers that have run out, in the order in which they expire. -/
def timersOut (u : State) : List Instr :=
  ([Source.line, .wheel].filter fun x => (u.ref.source x).motion == some 0).map Instr.motionTimerExpiry ++
  (if u.ref.sampleTimer = 0 then [Instr.speedSampleTimerExpiry] else []) ++
  (if u.link.gap = some 0 then [Instr.gapTimerExpiry] else []) ++
  (allStations.filter fun st => (u.station st).stroke == some 0).map Instr.strokeTimerExpiry ++
  (allStations.filter fun st => (u.station st).zone.soakTimer == some 0).map Instr.soakTimerExpiry

theorem exec_timersOut {u : State} {c : Instr} (h : c ∈ timersOut u) (s : State) : exec c s = .next (expiry c s) := by
  simp only [timersOut, List.mem_append, List.mem_map] at h
  obtain (((⟨x, -, rfl⟩ | h) | h) | ⟨st, -, rfl⟩) | ⟨st, -, rfl⟩ := h
  · rfl
  · split at h
    · cases List.mem_singleton.mp h
      rfl
    · cases h
  · split at h
    · cases List.mem_singleton.mp h
      rfl
    · cases h
  · rfl
  · rfl

/-- The timers that have run out expire one after the other, each tested in its turn. -/
theorem expiries_eq (u : State) :
    (timersOut u).foldl (fun t c => expiry c t) u =
      overStations allStations soakDue (overStations allStations strokeDue
        (gapDue (sampleDue (motionDue .wheel (motionDue .line u))))) := by
  obtain ⟨r₁, h₁, ht₁⟩ := motionDue_frame u .line
  obtain ⟨r₂, h₂, ht₂⟩ := motionDue_frame (motionDue .line u) .wheel
  obtain ⟨r₃, h₃⟩ := sampleDue_frame (motionDue .wheel (motionDue .line u))
  have hmoved : motionDue .wheel (motionDue .line u) = { u with ref := r₂ } := by rw [h₂, h₁]
  have hsample : (if u.ref.sampleTimer = 0 then [Instr.speedSampleTimerExpiry] else []).foldl
      (fun t c => expiry c t) (motionDue .wheel (motionDue .line u)) =
      sampleDue (motionDue .wheel (motionDue .line u)) := by
    have hsame : (motionDue .wheel (motionDue .line u)).ref.sampleTimer = u.ref.sampleTimer := by
      rw [hmoved, ht₂, h₁, ht₁]
    unfold sampleDue
    rw [hsame]
    split <;> rfl
  have hgap : (if u.link.gap = some 0 then [Instr.gapTimerExpiry] else []).foldl
      (fun t c => expiry c t) (sampleDue (motionDue .wheel (motionDue .line u))) =
      gapDue (sampleDue (motionDue .wheel (motionDue .line u))) := by
    have hsame : (sampleDue (motionDue .wheel (motionDue .line u))).link.gap = u.link.gap := by rw [h₃, hmoved]
    unfold gapDue
    rw [hsame]
    split <;> rfl
  have hstations (st : StationId) :
      (gapDue (sampleDue (motionDue .wheel (motionDue .line u)))).station st = u.station st := by
    rw [State.station, gapDue_stations, h₃, hmoved]
    rfl
  have hstrokes := stroke_expiries (gapDue (sampleDue (motionDue .wheel (motionDue .line u))))
  have hsoaks := soak_expiries
    (overStations allStations strokeDue (gapDue (sampleDue (motionDue .wheel (motionDue .line u)))))
  simp only [hstations] at hstrokes
  simp only [strokeDues_zone, hstations] at hsoaks
  rw [timersOut, List.foldl_append, List.foldl_append, List.foldl_append, List.foldl_append, motion_expiries, hsample,
    hgap, hstrokes, hsoaks]

/-! ### The end of a sent frame (R179) -/

/-- At the end of a frame that is no reply to RESET the transmitter is idle and chooses anew. -/
theorem exec_frameSent {s : State} {f : OutFrame} (htx : s.link.tx = some f) (hf : f.resets = false) :
    exec .frameSent s = .next (settle { s with link := { s.link with tx := none } }) := by
  have hbusy : txChoose s = s := txChoose_busy (by rw [htx]; rfl)
  have hsent : frameSent s = settle { s with link := { s.link with tx := none } } := by
    unfold frameSent
    dsimp only
    rw [hbusy, htx]
    simp only [hf, Bool.false_eq_true, if_false]
  exact congrArg Host.Outcome.next hsent

/-- With no frame waiting, what the transmitter chooses is all that happens. -/
theorem settle_nothingWaits {s : State} (h : s.link.rxQueue = []) :
    settle { s with link := { s.link with tx := none } } = txChoose { s with link := { s.link with tx := none } } := by
  unfold settle
  dsimp only
  rw [txChoose_rxQueue, h]
  rfl

end Sys2Proof.Machine

namespace Sys2Proof.Proofs

open Sys2Proof.Machine

/-- Settles O2: the expiries touch neither each other's timers nor the queue of commands, so that testing each timer in
its turn is running the commands of those that had run out. -/
theorem emptyQueueStepIsOneMillisecond : Obligations.EmptyQueueStepIsOneMillisecond := by
  intro s hp lower source t u out
  have hu : (txChoose s).tick = u := tick_txChoose s
  have hempty : u.withPending [] = u := by
    have hpending : u.pending = [] := (txChoose_pending s).trans hp
    rw [State.withPending, ← hpending]
  have hstep : step s = .next (overStations allStations soakDue (overStations allStations strokeDue
      (gapDue (sampleDue (motionDue .wheel (motionDue .line u)))))) := by
    rw [step, hp, ← hu]
    rfl
  have hout : (timersOut u).foldl (fun t c => expiry c t) u = _ := expiries_eq u
  rw [hstep, ← hout]
  constructor
  · intro hnone
    have : timersOut u = [] := hnone
    rw [this]
    rfl
  · have hrun := run_commands (f := expiry) (timersOut u) u (fun c hc => exec_timersOut hc) fun c _ => apart_expiry c
    have hkept : ((timersOut u).foldl (fun t c => expiry c t) u).withPending [] =
        (timersOut u).foldl (fun t c => expiry c t) u := by
      rw [← Apart.foldl (h := fun t c => expiry c t) apart_expiry (timersOut u) [] u, hempty]
    rw [hkept] at hrun
    exact hrun.symm

/-- Settles O12: the transmitter, idle again, chooses before the dispatcher acts. -/
theorem frameSentChoosesTheNextFrame : Obligations.FrameSentChoosesTheNextFrame := by
  intro s f htx hf
  rw [exec_frameSent htx hf]
  refine ⟨fun r i g hslot hrx hi hreset => ?_, fun r hslot hrx => ?_, fun k ks hslot hdue hrx => ?_,
    fun hslot hdue hrx => ?_⟩
  · rw [exec_deliver hi, deliver, takeGood_room (by exact Nat.zero_lt_two)]
    have hchosen : txChoose { s with link := { s.link with tx := none } } =
        { s with link := { s.link with tx := some r, slot := none } } := by simp [txChoose, hslot]
    have hbusy := txChoose_busy (s := { s with link := { s.link with tx := some r, slot := none } }) rfl
    simp only [settle, hchosen, List.nil_append, ← hrx, hbusy]
  · rw [settle_nothingWaits hrx]
    simp [txChoose, hslot]
  · rw [settle_nothingWaits hrx]
    simp [txChoose, hslot, hdue, noticeFrame]
  · rw [settle_nothingWaits hrx]
    simp [txChoose, hslot, hdue]

end Sys2Proof.Proofs
end

section
/-! The receiver: octets received one by one from HUNT are the request whose frame they are (O8), and what an octet does
by the receiver's state, a bad CRC's octets being taken again (O9). -/

namespace Sys2Proof.Machine

/-! ### Frames and their octets (R173) -/

/-- A well-formed request's payload fits a frame. -/
theorem payload_le_of_wellFormed {i : Instr} {f : Frame} (hw : i.wellFormed = true) (hi : i.frame? = some f) :
    f.payload.length ≤ 248 := by
  cases i with
  | identify | reset | setMode | readStatus | setSource | setupEntry | setupStation | tuneRegister | setTrim | nudgeTrim
    | setupHeat | setupLane | loadSpool | pause | resume | clearFault | defineMotif | clearMotif | readMotif | loadPlan
    | commitPlan | dropPlan | endJob | extendBatch | readStation | readLane | readQueue | readTrace | setEventMask
    | readEvents | clearEvents =>
    cases hi
    exact of_decide_eq_true hw
  | unknownKindRequest =>
    cases hi
    exact of_decide_eq_true (Bool.and_eq_true_iff.mp hw).1
  | _ => nomatch hi

/-- The receiver's candidate is the octets `pre` of a frame, with its gap timer restarted, or HUNT when there are
none. -/
def State.following (s : State) (pre : List Octet) : State :=
  { s with link := { s.link with held := pre, gap := if pre = [] then none else some 2 } }

theorem following_atRest {s : State} (h : s.atRest = true) (pre : List Octet) : (s.following pre).atRest = true := h

/-! ### One octet (R174) -/

/-- What the receiver follows on to where no good frame is found. -/
theorem octetReceived_follows {s : State} {o : Octet} {l : Link} (h : s.atRest = true)
    (hscan : scan 0 (s.link.held ++ [o]) s.link = l) (hlink : l.rxQueue = s.link.rxQueue ∧ l.slot = s.link.slot ∧
      l.resetPending = s.link.resetPending ∧ l.tx = s.link.tx) :
    octetReceived o s = { s with link := l.restartGap } := by
  obtain ⟨hrx, hslot, hreset, htx⟩ := hlink
  rw [octetReceived, hscan]
  refine settle_atRest ?_
  rw [atRest_iff] at h ⊢
  exact ⟨hslot.trans h.1, hrx.trans h.2.1, hreset.trans h.2.2.1, htx ▸ h.2.2.2⟩

/-- A start octet with the octets after it is held while they are an incomplete frame. -/
theorem scan_incomplete {os : List Octet} (h : judge os = .incomplete) (l : Link) :
    scan 0 (startOctet :: os) l = { l with held := startOctet :: os } := by
  rw [scan_start, h]

/-- No octet of a list starts a frame. -/
theorem scan_noStart {os : List Octet} (h : startOctet ∉ os) (rest : List Octet) (l : Link) :
    scan 0 (os ++ rest) l = scan 0 rest l := by
  induction os with
  | nil => rfl
  | cons o os ih =>
    rw [List.mem_cons, not_or] at h
    rw [List.cons_append, scan_hunt (Ne.symm h.1), ih h.2]

theorem scan_noStart_all {os : List Octet} (h : startOctet ∉ os) (l : Link) : scan 0 os l = { l with held := [] } := by
  have hall := scan_noStart h [] l
  rw [List.append_nil] at hall
  rw [hall, scan]

/-- The octets after a start octet that are no frame yet, by their length octet. -/
theorem judge_incomplete_of {os : List Octet}
    (h : ∀ n rest, os = n :: rest → 2 ≤ n.toNat ∧ n.toNat ≤ 250 ∧ rest.length < n.toNat + 2) :
    judge os = .incomplete := by
  cases os with
  | nil => rfl
  | cons n rest =>
    obtain ⟨hlow, hhigh, hlen⟩ := h n rest rfl
    exact judge_incomplete hlow hhigh hlen

/-- A complete candidate whose last two octets are not the CRC of the rest has a bad CRC (R175). -/
theorem judge_badCrc {n : Octet} {os : List Octet} (hlow : 2 ≤ n.toNat) (hhigh : n.toNat ≤ 250)
    (hlen : os.length = n.toNat + 2) (hcrc : os.drop n.toNat ≠ octets 2 (crc16 (n :: os.take n.toNat)).toNat) :
    judge (n :: os) = .badCrc := by
  have htwo : (os.drop n.toNat).take 2 = os.drop n.toNat := List.take_of_length_le (by simp [hlen])
  rw [judge]
  dsimp only
  rw [if_neg (by omega), if_neg (by simp [hlen]), List.drop_succ_cons, List.take_succ_cons, htwo, if_neg hcrc]

/-- A good frame taken and the candidate dropped are in either order the same. -/
theorem takeGood_hunting (l : Link) (f : Frame) :
    { l.takeGood f with held := [], gap := none } = ({ l with held := [], gap := none } : Link).takeGood f := by
  unfold Link.takeGood
  dsimp only
  split
  · rfl
  · split <;> rfl

/-- A good frame among the octets followed, with no start octet before or after it, is the request it is (R174 to
R177). -/
theorem octetReceived_frame {s : State} {o : Octet} {i : Instr} {f : Frame} {l : Link} {before after : List Octet}
    (hw : i.wellFormed = true) (hi : i.frame? = some f)
    (hscan : scan 0 (s.link.held ++ [o]) s.link = scan 0 (before ++ frameOctets f.kind f.tag f.payload ++ after) l)
    (hbefore : startOctet ∉ before) (hafter : startOctet ∉ after) :
    .next (octetReceived o s) = exec i { s with link := { l with held := [], gap := none } } := by
  have hpayload := payload_le_of_wellFormed hw hi
  rw [exec_deliver hi, octetReceived, hscan, List.append_assoc, scan_noStart hbefore, scan_frame hpayload,
    scan_noStart_all hafter, deliver, ← takeGood_hunting]
  rfl

/-! ### A frame's octets, one by one (R173, R174) -/

/-- The receiver holds a frame's octets until the last. -/
theorem octetReceived_following {s : State} {o : Octet} {pre : List Octet} (h : s.atRest = true)
    (hpre : ∃ os, pre ++ [o] = startOctet :: os ∧ judge os = .incomplete) :
    octetReceived o (s.following pre) = s.following (pre ++ [o]) := by
  obtain ⟨os, hos, hjudge⟩ := hpre
  have hscan : scan 0 ((s.following pre).link.held ++ [o]) (s.following pre).link =
      { (s.following pre).link with held := pre ++ [o] } := by
    rw [show (s.following pre).link.held = pre from rfl, hos, scan_incomplete hjudge]
  rw [octetReceived_follows (following_atRest h pre) hscan ⟨rfl, rfl, rfl, rfl⟩]
  simp [State.following, Link.restartGap, Config.gapMs]

/-- A proper part of a frame's octets from their start is a candidate. -/
theorem frameOctets_incomplete {kind tag : Octet} {payload pre post : List Octet} {o : Octet}
    (hp : payload.length ≤ 248) (h : pre ++ o :: post = frameOctets kind tag payload) (hpost : post ≠ []) :
    ∃ os, pre ++ [o] = startOctet :: os ∧ judge os = .incomplete := by
  have hlen : (BitVec.ofNat 8 (payload.length + 2)).toNat = payload.length + 2 := by
    rw [BitVec.toNat_ofNat]
    omega
  have htotal : pre.length + 1 + post.length = payload.length + 6 := by
    have hl := congrArg List.length h
    rw [Laws.OnTheLine.frameOctets_length] at hl
    simpa [Nat.add_assoc, Nat.add_comm, Nat.add_left_comm] using hl
  have hpos : 0 < post.length := List.length_pos_iff.mpr hpost
  have hsplit : (pre ++ [o]) ++ post = frameOctets kind tag payload := by simpa using h
  cases hos : pre ++ [o] with
  | nil => simp at hos
  | cons a os =>
    rw [hos, frameOctets, List.cons_append, List.cons.injEq] at hsplit
    refine ⟨os, by rw [hsplit.1], judge_incomplete_of fun n rest hn => ?_⟩
    rw [hn, frameBody, List.cons_append, List.cons_append, List.cons.injEq] at hsplit
    have hcount : rest.length + 2 = pre.length + 1 := by
      have hl := congrArg List.length hos
      rw [hn] at hl
      simpa using hl.symm
    rw [hsplit.2.1, hlen]
    omega

/-- From a part of a frame already held, the rest of its octets received one by one are the request. -/
theorem run_octets {s : State} {i : Instr} {f : Frame} (h : s.atRest = true) (hw : i.wellFormed = true)
    (hi : i.frame? = some f) (post : List Octet) (pre : List Octet) (o : Octet)
    (hf : pre ++ o :: post = frameOctets f.kind f.tag f.payload) :
    Host.Core.run core (o :: post).length
        ((s.following pre).withPending ((o :: post).map Instr.octetReceived)) =
      exec i ((s.following []).withPending []) := by
  induction post generalizing pre o with
  | nil =>
    have hstep : step ((s.following pre).withPending [.octetReceived o]) =
        .next (octetReceived o ((s.following pre).withPending [])) := rfl
    refine (run_succ hstep).trans ?_
    refine octetReceived_frame (before := []) (after := []) (l := (s.following pre).link) hw hi ?_ nofun nofun
    rw [List.nil_append, List.append_nil, ← hf]
    rfl
  | cons o' post ih =>
    have hheld : octetReceived o ((s.following pre).withPending ((o' :: post).map Instr.octetReceived)) =
        (s.following (pre ++ [o])).withPending ((o' :: post).map Instr.octetReceived) :=
      octetReceived_following (s := s.withPending ((o' :: post).map Instr.octetReceived)) h
        (frameOctets_incomplete (payload_le_of_wellFormed hw hi) hf (List.cons_ne_nil _ _))
    have hstep : step ((s.following pre).withPending ((o :: o' :: post).map Instr.octetReceived)) =
        .next ((s.following (pre ++ [o])).withPending ((o' :: post).map Instr.octetReceived)) :=
      congrArg Host.Outcome.next hheld
    rw [List.length_cons, run_succ hstep]
    exact ih (pre ++ [o]) o' (by simpa using hf)

end Sys2Proof.Machine

namespace Sys2Proof.Proofs

open Sys2Proof.Machine

/-- Settles O8, by induction on the octets still to come. -/
theorem receivedOctetsAreTheRequest : Obligations.ReceivedOctetsAreTheRequest := by
  intro s i f h hheld hgap hw hi
  have hhunt : s.following [] = s := by
    unfold State.following
    rw [if_pos rfl, ← hheld, ← hgap]
  have hrun := run_octets h hw hi (frameBody f.kind f.tag f.payload ++
    octets 2 (crc16 (frameBody f.kind f.tag f.payload)).toNat) [] startOctet rfl
  rw [hhunt] at hrun
  exact hrun

/-- Settles O9, by what the receiver makes of the candidate with the octet at its end. -/
theorem receiverTakesOctets : Obligations.ReceiverTakesOctets := by
  intro s o h
  have hexec {l : Link} {t : State} (hscan : scan 0 (s.link.held ++ [o]) s.link = l)
      (hlink : l.rxQueue = s.link.rxQueue ∧ l.slot = s.link.slot ∧ l.resetPending = s.link.resetPending ∧
        l.tx = s.link.tx) (ht : { s with link := l.restartGap } = t) : exec (.octetReceived o) s = .next t :=
    congrArg Host.Outcome.next ((octetReceived_follows h hscan hlink).trans ht)
  refine ⟨fun hheld ho => ?_, fun hheld ho => ?_, fun hheld hlow hhigh => ?_, fun hheld ho => ?_,
    fun n body hheld hlow hhigh => ⟨fun hlen => ?_, fun hlen hcrc => ?_⟩⟩
  · have hscan : scan 0 (s.link.held ++ [o]) s.link = { s.link with held := [startOctet] } := by
      rw [hheld, ho]
      exact scan_incomplete (os := []) rfl _
    exact hexec hscan ⟨rfl, rfl, rfl, rfl⟩ rfl
  · have hscan : scan 0 (s.link.held ++ [o]) s.link = { s.link with held := [] } := by
      rw [hheld]
      exact scan_noStart_all (os := [o]) (List.mem_singleton.not.mpr (Ne.symm ho)) _
    refine hexec hscan ⟨rfl, rfl, rfl, rfl⟩ ?_
    simp [Link.restartGap, hheld]
  · have hscan : scan 0 (s.link.held ++ [o]) s.link = { s.link with held := [startOctet, o] } := by
      rw [hheld]
      exact scan_incomplete (os := [o]) (judge_incomplete hlow hhigh (Nat.succ_pos _)) _
    exact hexec hscan ⟨rfl, rfl, rfl, rfl⟩ rfl
  · have hne : startOctet ∉ [o] := fun hm => by
      rw [← List.mem_singleton.mp hm] at ho
      exact absurd ho (by decide)
    have hscan : scan 0 (s.link.held ++ [o]) s.link =
        { s.link with badLength := bump16 s.link.badLength, held := [] } := by
      rw [hheld]
      exact (scan_start [o] _).trans (by rw [judge_badLength ho]; exact scan_noStart_all hne _)
    refine hexec hscan ⟨rfl, rfl, rfl, rfl⟩ ?_
    simp [Link.restartGap, bump16_eq]
  · have hscan : scan 0 (s.link.held ++ [o]) s.link = { s.link with held := startOctet :: n :: (body ++ [o]) } := by
      rw [hheld]
      exact scan_incomplete (os := n :: (body ++ [o]))
        (judge_incomplete hlow hhigh (by rw [List.length_append]; exact hlen)) _
    refine hexec hscan ⟨rfl, rfl, rfl, rfl⟩ ?_
    rw [hheld]
    rfl
  · intro again hunting
    have hbody : (body ++ [o]).take n.toNat = body.take n.toNat := List.take_append_of_le_length (by omega)
    have hjudge : judge (n :: (body ++ [o])) = .badCrc :=
      judge_badCrc hlow hhigh (by rw [List.length_append]; exact hlen) (by rw [hbody]; exact hcrc)
    have hscan : scan 0 (s.link.held ++ [o]) s.link =
        scan 0 again { s.link with badCrc := min 65535 (s.link.badCrc + 1) } := by
      rw [hheld, ← bump16_eq]
      exact (scan_start (n :: (body ++ [o])) _).trans (by rw [hjudge])
    refine ⟨fun hno => ?_, fun before after hagain hbefore hafter => ?_,
      fun i f before after hw hi hagain hbefore hafter => ?_⟩
    · exact hexec (hscan.trans (scan_noStart_all hno _)) ⟨rfl, rfl, rfl, rfl⟩ rfl
    · have hheld' : scan 0 again { s.link with badCrc := min 65535 (s.link.badCrc + 1) } =
          { s.link with badCrc := min 65535 (s.link.badCrc + 1), held := startOctet :: after } := by
        rw [hagain, scan_noStart hbefore]
        exact scan_incomplete (judge_incomplete_of hafter) _
      exact hexec (hscan.trans hheld') ⟨rfl, rfl, rfl, rfl⟩ rfl
    · exact octetReceived_frame hw hi (hscan.trans (by rw [hagain])) hbefore hafter

end Sys2Proof.Proofs
end

section
/-! The readouts READ EVENTS (O17), READ TRACE (O19), READ LANE (O20) and READ STATION (O21). -/

namespace Sys2Proof.Machine

/-! ### Numbers of stations and lanes -/

theorem StationId.number_of_ofNumber {n : Nat} {st : StationId} (h : StationId.ofNumber n = some st) :
    st.number = n := by
  unfold StationId.ofNumber at h
  split at h <;> cases h <;> rfl

theorem LaneId.number_of_ofNumber {n : Nat} {l : LaneId} (h : LaneId.ofNumber n = some l) : l.number = n := by
  unfold LaneId.ofNumber at h
  split at h <;> cases h <;> rfl

/-- A request's station octet, written back. -/
theorem octets_station {o : Octet} {st : StationId} (h : StationId.ofNumber o.toNat = some st) :
    octets 1 st.number = [o] := by rw [StationId.number_of_ofNumber h, octets_one_toNat]

/-- A request's lane octet, written back. -/
theorem octets_lane {o : Octet} {l : LaneId} (h : LaneId.ofNumber o.toNat = some l) : octets 1 l.number = [o] := by
  rw [LaneId.number_of_ofNumber h, octets_one_toNat]

/-- The clear option of a two-octet readout (section 10.4). -/
theorem flagAt_second (n clear : Octet) : flagAt [n, clear] 1 = decide (clear ≠ 0x00) := flagAt_singleton clear

/-- A readout's clear option by its octet. -/
theorem ite_flagAt_second {α : Type} (n clear : Octet) (a b : α) :
    (if flagAt [n, clear] 1 = true then a else b) = if clear = 0x00 then b else a := by
  rw [flagAt_second]
  by_cases h : clear = 0x00
  · rw [if_pos h, if_neg (by simp [h])]
  · rw [if_neg h, if_pos (decide_eq_true h)]

/-! ### Replies put together from parts -/

/-- A part of a reply stands behind the parts ahead of it. -/
theorem field_flatten {parts : List (List Octet)} {lengths : List Nat} (hl : parts.map List.length = lengths) {k : Nat}
    {v : List Octet} (hv : parts[k]? = some v) :
    field parts.flatten (lengths.take k).sum (lengths.getD k 0) = v := by
  subst hl
  induction parts generalizing k with
  | nil => simp at hv
  | cons a parts ih =>
    cases k with
    | zero =>
      cases hv
      rw [List.flatten_cons]
      exact (field_append_of_le (Nat.le_of_eq (Nat.zero_add _)) _).trans (field_whole rfl)
    | succ k =>
      have hrest : (((a :: parts).map List.length).take (k + 1)).sum = a.length + ((parts.map List.length).take k).sum :=
        rfl
      rw [List.flatten_cons, hrest, field_append_of_ge (Nat.le_add_right _ _), Nat.add_sub_cancel_left]
      exact ih hv

theorem length_flatten_of {parts : List (List Octet)} {lengths : List Nat} (hl : parts.map List.length = lengths) :
    parts.flatten.length = lengths.sum := by rw [List.length_flatten, hl]

/-! ### READ EVENTS (R185) -/

theorem raiseOctets_length (r : RaiseRecord) : (raiseOctets r).length = 7 := rfl

/-- The payload of READ EVENTS's reply. -/
def EventSet.payload (e : EventSet) : List Octet :=
  0x00 :: (eventOctets e.flags ++ eventOctets e.mask) ++ e.records.toList.flatMap raiseOctets

theorem reqReadEvents_eq (s : State) : reqReadEvents s = (s.events.payload, s) := by
  simp [reqReadEvents, accept, statusCode, EventSet.payload]

theorem EventSet.field_payload_record (e : EventSet) (k : EventKind) :
    field e.payload (9 + 7 * k.index.val) 7 = raiseOctets (e.record k) := by
  have hlen : (0x00 :: (eventOctets e.flags ++ eventOctets e.mask) : List Octet).length = 9 := rfl
  have hrec : e.records.toList[k.index.val]? = some (e.record k) := by
    have hlt : k.index.val < e.records.toList.length := by
      rw [Vector.length_toList]
      exact k.index.isLt
    rw [List.getElem?_eq_getElem hlt]
    rfl
  rw [EventSet.payload, field_append_of_ge (by rw [hlen]; exact Nat.le_add_right _ _), hlen, Nat.add_sub_cancel_left]
  have hblock := field_flatMap raiseOctets_length (i := 0) (n := 7) (Nat.le_refl 7) hrec
  rw [Nat.add_zero] at hblock
  rw [hblock, field_whole (raiseOctets_length _)]

/-! ### READ TRACE (R187, R195) -/

/-- The fields of a trace entry, section 10.5's columns (R195). -/
def traceParts (e : TraceEntry) : List (List Octet) :=
  [octets 2 e.seq.toNat, octets 1 e.plan, octets 1 e.slot, octets 1 e.station.number,
   octets 1 (outcomeCode (some e.outcome)), octets 1 (decisionReason (e.reason.map Decision.skip)),
   octets 1 (bitsToNat [e.error.isSome, e.origin == .predicted]), signedOctets 4 (e.error.getD 0),
   signedOctets 4 e.trim, octets 1 e.regFlags.bits, octets 4 e.strikePt.toNat]

theorem traceOctets_eq (e : TraceEntry) : traceOctets e = (traceParts e).flatten := by
  simp only [traceOctets, traceParts, List.flatten_cons, List.flatten_nil, List.append_assoc, List.append_nil]

theorem traceParts_lengths (e : TraceEntry) : (traceParts e).map List.length = [2, 1, 1, 1, 1, 1, 1, 4, 4, 1, 4] := by
  simp [traceParts]

theorem traceOctets_length (e : TraceEntry) : (traceOctets e).length = 21 := by
  rw [traceOctets_eq, length_flatten_of (traceParts_lengths e)]
  rfl

/-- The status and the counts ahead of the entries (R187). -/
def traceHeader (s : State) (n : Nat) (w : Octet) : List Octet :=
  (if 64 < w.toNat then 0x01 else 0x00) ::
    (octets 1 (min n s.trace.entries.length) ++ octets 1 (s.trace.entries.length - min n s.trace.entries.length) ++
      octets 2 s.trace.dropped ++ octets 1 (if w = 0x00 then s.trace.watermark else min 64 w.toNat))

/-- The payload of READ TRACE's reply. -/
def tracePayload (s : State) (n : Nat) (w : Octet) : List Octet :=
  traceHeader s n w ++ (s.trace.entries.take n).flatMap traceOctets

theorem watermarkAfter_eq (t : TraceQueue) (w : Octet) :
    t.watermarkAfter w.toNat = if w = 0x00 then t.watermark else min 64 w.toNat := by
  have hzero : w.toNat = 0 ↔ w = 0x00 := BitVec.toNat_inj (y := 0x00)
  unfold TraceQueue.watermarkAfter
  simp only [hzero]

theorem exec_readTrace (tag : Octet) (p : List Octet) (s : State) :
    exec (.readTrace tag p) s = request .readTrace tag p s := rfl

theorem reqReadTrace_badValue {n : Octet} (h : n.toNat < 1 ∨ 8 < n.toNat) (clear w : Octet) (s : State) :
    reqReadTrace [n, clear, w] s = refuse .badValue s := if_pos h

theorem reqReadTrace_accepted {n : Octet} (h : ¬ (n.toNat < 1 ∨ 8 < n.toNat)) (clear w : Octet) (s : State) :
    reqReadTrace [n, clear, w] s =
      (tracePayload s n.toNat w, takeTrace n.toNat (flagAt [n, clear, w] 1) w.toNat s) := by
  have hn : u8 [n, clear, w] 0 = n.toNat := rfl
  have hw : u8 [n, clear, w] 2 = w.toNat := rfl
  unfold reqReadTrace
  dsimp only
  rw [hn, hw, if_neg h, accept, statusCode_okOr, watermarkAfter_eq, List.length_take]
  simp [tracePayload, traceHeader]

/-- READ TRACE's effect: entries leave, the dropped count and the watermark are as requested, and a watermark given is
tested. -/
theorem takeTrace_eq (n : Nat) (clear w : Octet) (s : State) :
    let u : State := { s with trace := {
      entries := s.trace.entries.drop n
      dropped := if clear = 0x00 then s.trace.dropped else 0
      watermark := if w = 0x00 then s.trace.watermark else min 64 w.toNat } }
    takeTrace n (decide (clear ≠ 0x00)) w.toNat s =
      if w ≠ 0x00 ∧ u.trace.watermark ≤ u.trace.entries.length
      then raiseEvent .traceWatermark 0 u.trace.entries.length u else u := by
  intro u
  have hzero : w.toNat = 0 ↔ w = 0x00 := BitVec.toNat_inj (y := 0x00)
  have hu : ({ s with trace := {
      entries := s.trace.entries.drop n
      dropped := if decide (clear ≠ 0x00) = true then 0 else s.trace.dropped
      watermark := s.trace.watermarkAfter w.toNat } } : State) = u := by
    rw [watermarkAfter_eq]
    by_cases hc : clear = 0x00 <;> simp [u, hc]
  unfold takeTrace
  dsimp only
  rw [hu]
  by_cases h : w = 0x00
  · rw [if_pos (hzero.mpr h), if_neg (by simp [h])]
  · rw [if_neg (mt hzero.mp h), watermarkTest]
    simp only [ne_eq, h, not_false_eq_true, true_and]

theorem takeTrace_resetPending (n : Nat) (clear : Bool) (w : Nat) (s : State) :
    (takeTrace n clear w s).link.resetPending = s.link.resetPending := by
  unfold takeTrace watermarkTest
  dsimp only
  split
  · rfl
  · split
    · rw [raiseEvent_resetPending]
    · rfl

theorem tracePayload_length (s : State) (n : Nat) (w : Octet) :
    (tracePayload s n w).length = 6 + 21 * min n s.trace.entries.length := by
  rw [tracePayload, List.length_append, length_flatMap_of_length traceOctets_length, List.length_take]
  rfl

/-- The entries returned stand one after the other behind the counts. -/
theorem field_tracePayload_entry {s : State} {n j : Nat} {e : TraceEntry} (w : Octet) (hj : j < n)
    (he : s.trace.entries[j]? = some e) : field (tracePayload s n w) (6 + 21 * j) 21 = traceOctets e := by
  have hlen : (traceHeader s n w).length = 6 := rfl
  have htaken : (s.trace.entries.take n)[j]? = some e := by rw [List.getElem?_take_of_lt hj, he]
  rw [tracePayload, field_append_of_ge (by rw [hlen]; exact Nat.le_add_right _ _), hlen, Nat.add_sub_cancel_left]
  have hblock := field_flatMap traceOctets_length (i := 0) (n := 21) (Nat.le_refl 21) htaken
  rw [Nat.add_zero] at hblock
  rw [hblock, field_whole (traceOctets_length _)]

/-! ### READ LANE (R136) -/

theorem feedOctets_length (f : PendingFeed) : (feedOctets f).length = 15 := rfl

@[simp] theorem lastFeedOctets_length (f : Option LastFeed) : (lastFeedOctets f).length = 8 := by cases f <;> rfl

theorem lastFeedOctets_eq (f : Option LastFeed) :
    lastFeedOctets f = match f with
      | some f => [0x01] ++ octets 2 f.seq.toNat ++ octets 4 f.endPos.toNat ++ octets 1 f.follow.code
      | none => List.replicate 8 0x00 := by
  cases f <;> rfl

theorem stationCode_eq (st : Option StationId) :
    stationCode st = match st with | none => 0 | some st => st.number := by
  cases st <;> rfl

/-- The status and the fields ahead of the feeds listed, section 10.4's columns. -/
def laneParts (l : LaneId) (u : Lane) : List (List Octet) :=
  [[0x00] ++ octets 1 l.number ++ octets 1 (stationCode u.station),
   octets 2 u.set.leadMargin ++ octets 2 u.set.tailMargin ++ octets 4 u.set.jumpThreshold ++ octets 2 u.set.jumpMs ++
     octets 1 u.set.parkAfter ++ octets 2 u.set.wakeMs ++ octets 4 u.set.lowThreshold,
   octets 1 u.state.code ++ flagOctet u.faultIn, lastFeedOctets u.lastFeed, octets 1 u.idleRun, spoolOctets u,
   flagOctet u.lowWarned, octets 4 u.feeds ++ octets 4 u.jumps ++ octets 2 u.late,
   octets 2 u.pendingFeeds.length ++ octets 1 (min 8 u.pendingFeeds.length)]

theorem laneParts_lengths (l : LaneId) (u : Lane) :
    (laneParts l u).map List.length = [3, 17, 2, 8, 1, 16, 1, 10, 3] := by
  simp [laneParts, flagOctet, spoolOctets]

theorem laneParts_length (l : LaneId) (u : Lane) : (laneParts l u).flatten.length = 61 :=
  length_flatten_of (laneParts_lengths l u)

/-- The payload of READ LANE's reply. -/
def lanePayload (l : LaneId) (u : Lane) : List Octet :=
  (laneParts l u).flatten ++ (u.pendingFeeds.take 8).flatMap feedOctets

/-- A field of the head is a field of the reply. -/
theorem field_lanePayload (l : LaneId) (u : Lane) {k : Nat} {v : List Octet} (hv : (laneParts l u)[k]? = some v)
    {i n : Nat} (hi : ([3, 17, 2, 8, 1, 16, 1, 10, 3].take k).sum = i)
    (hn : [3, 17, 2, 8, 1, 16, 1, 10, 3].getD k 0 = n) (hin : i + n ≤ 61) :
    field (lanePayload l u) i n = v := by
  rw [lanePayload, field_append_of_le (by rw [laneParts_length]; exact hin), ← hi, ← hn]
  exact field_flatten (laneParts_lengths l u) hv

theorem field_lanePayload_feed (l : LaneId) {u : Lane} {j : Nat} {f : PendingFeed} (hj : j < 8)
    (hf : u.pendingFeeds[j]? = some f) : field (lanePayload l u) (61 + 15 * j) 15 = feedOctets f := by
  have htaken : (u.pendingFeeds.take 8)[j]? = some f := by rw [List.getElem?_take_of_lt hj, hf]
  rw [lanePayload, field_append_of_ge (by rw [laneParts_length]; exact Nat.le_add_right _ _), laneParts_length, Nat.add_sub_cancel_left]
  have hblock := field_flatMap feedOctets_length (i := 0) (n := 15) (Nat.le_refl 15) htaken
  rw [Nat.add_zero] at hblock
  rw [hblock, field_whole (feedOctets_length _)]

theorem exec_readLane (tag : Octet) (p : List Octet) (s : State) :
    exec (.readLane tag p) s = request .readLane tag p s := rfl

theorem reqReadLane_badValue {n : Octet} (h : LaneId.ofNumber n.toNat = none) (clear : Octet) (s : State) :
    reqReadLane [n, clear] s = refuse .badValue s := by
  have hn : u8 [n, clear] 0 = n.toNat := rfl
  unfold reqReadLane
  rw [hn, h]

theorem reqReadLane_accepted {n : Octet} {l : LaneId} (h : LaneId.ofNumber n.toNat = some l) (clear : Octet)
    (s : State) : reqReadLane [n, clear] s =
      (lanePayload l (s.lane l), if clear = 0x00 then s else s.modLane l fun u =>
        { u with feeds := 0, jumps := 0, late := 0 }) := by
  have hn : u8 [n, clear] 0 = n.toNat := rfl
  unfold reqReadLane
  rw [hn, h]
  dsimp only
  rw [ite_flagAt_second, accept]
  simp [lanePayload, laneParts, laneReply, laneOctets, statusCode, List.length_take]

/-! ### READ STATION (R88, R112, R152) -/

/-- The fields of READ STATION's reply, the columns of its table in section 10.4. -/
def State.stationParts (s : State) (st : StationId) : List (List Octet) :=
  let u := s.station st
  let l := u.loop
  [[0x00] ++ octets 1 st.number, octets 1 u.setup.kind.code, flagOctet u.setup.enabled, octets 4 u.setup.path,
   octets 4 u.setup.lead, octets 2 u.setup.swin, octets 1 u.setup.missLimit, flagOctet u.setup.strikeOnPredicted,
   octets 1 u.setup.dieSlots, octets 2 u.setup.engageMs, octets 2 u.setup.actTimeout, octets 1 u.setup.policy.code,
   octets 1 (s.stationState st).code, octets 2 u.hold.bits,
   octets 1 u.actuator.code ++ octets 1 u.valve.code ++ flagOctet u.engagedIn ++ flagOctet u.liftedIn,
   flagOctet u.idleLift.isSome ++ posOctets u.idleLift,
   octets 4 u.struck ++ octets 4 u.skipped ++ octets 4 u.missed ++ octets 4 u.marred,
   signedOctets 4 l.tuning.target, octets 2 l.tuning.capture, octets 2 l.tuning.deadBand, octets 1 l.tuning.gain,
   octets 2 l.tuning.stepMax, octets 4 l.tuning.trimLimit, octets 1 l.tuning.settle, octets 1 l.tuning.mode.code,
   signedOctets 4 l.trim, flagOctet l.trimSat ++ octets 1 l.settleCtr ++ octets 1 l.cursor ++ flagOctet l.synced,
   flagOctet l.waiting.isSome ++ posOctets (l.waiting.map WaitingMark.pos) ++
     octets 2 (match l.waiting with | some w => w.seq.toNat | none => 0),
   flagOctet l.gate.isSome ++ posOctets (l.gate.map HeldGate.pos) ++
     octets 1 (match l.gate with | some g => g.slot | none => 0),
   signedOctets 4 u.drift ++ octets 1 u.unusable,
   octets 4 l.pairs ++ octets 4 l.corrections ++ octets 2 l.largest,
   flagOctet l.last.isSome ++ signedOctets 4 (l.last.getD 0), octets 2 l.orphans,
   octets 2 u.channel.rejected ++ octets 2 u.channel.stray, flagOctet u.zone.enabled,
   signedOctets 2 u.zone.set.sp ++ signedOctets 2 u.zone.set.standbySp,
   octets 2 u.zone.set.band ++ octets 2 u.zone.set.hysteresis ++ octets 2 u.zone.set.margin ++
     octets 2 u.zone.set.soak,
   octets 1 u.zone.state.code ++ signedOctets 2 u.zone.latest ++ flagOctet u.zone.faultIn ++ flagOctet u.zone.heater,
   octets 4 (u.zone.soakTimer.getD 0)]

@[simp] theorem flagOctet_length (b : Bool) : (flagOctet b).length = 1 := rfl

theorem State.stationParts_lengths (s : State) (st : StationId) :
    (s.stationParts st).map List.length =
      [2, 1, 1, 4, 4, 2, 1, 1, 1, 2, 2, 1, 1, 2, 4, 5, 16, 4, 2, 2, 1, 2, 4, 1, 1, 4, 4, 7, 6, 5, 10, 5, 2, 4, 1, 4, 8,
        5, 4] := by
  simp [State.stationParts]

theorem reply_eq_stationParts (s : State) (st : StationId) :
    0x00 :: (setupOctets st (s.station st).setup ++ stationReply s st ++ registerReply (s.station st) ++
      zoneReply (s.station st).zone) = (s.stationParts st).flatten := by
  delta registerReply
  cases hwaiting : (s.station st).loop.waiting <;> cases hgate : (s.station st).loop.gate <;>
    simp only [State.stationParts, setupOctets, stationReply, tuningOctets, trimOctets, zoneReply,
      heatOctets, hwaiting, hgate, List.flatten_cons, List.flatten_nil, List.append_assoc, List.append_nil,
      List.cons_append, List.nil_append]

theorem stationState_code (s : State) (st : StationId) :
    (s.stationState st).code = if (s.station st).setup.enabled = false then 0 else if s.job.state = .none then 1
      else if (s.station st).hold = HoldSet.empty then 2 else 3 := by
  unfold State.stationState
  by_cases he : (s.station st).setup.enabled = false
  · rw [if_pos (by simp [State.enabled, he]), if_pos he]
    rfl
  · rw [if_neg (by simpa [State.enabled] using he), if_neg he]
    by_cases hj : s.job.state = .none
    · rw [if_pos hj, if_pos hj]
      rfl
    · rw [if_neg hj, if_neg hj]
      have hempty : (s.station st).hold.isEmpty = true ↔ (s.station st).hold = HoldSet.empty := beq_iff_eq
      by_cases hh : (s.station st).hold = HoldSet.empty
      · rw [if_pos (hempty.mpr hh), if_pos hh]
        rfl
      · rw [if_neg (mt hempty.mp hh), if_neg hh]
        rfl

theorem exec_readStation (tag : Octet) (p : List Octet) (s : State) :
    exec (.readStation tag p) s = request .readStation tag p s := rfl

theorem reqReadStation_badValue {n : Octet} (h : StationId.ofNumber n.toNat = none) (clear : Octet) (s : State) :
    reqReadStation [n, clear] s = refuse .badValue s := by
  have hn : u8 [n, clear] 0 = n.toNat := rfl
  unfold reqReadStation
  rw [hn, h]

theorem reqReadStation_accepted {n : Octet} {st : StationId} (h : StationId.ofNumber n.toNat = some st) (clear : Octet)
    (s : State) : reqReadStation [n, clear] s =
      ((s.stationParts st).flatten, if clear = 0x00 then s else s.modStation st Station.cleared) := by
  have hn : u8 [n, clear] 0 = n.toNat := rfl
  unfold reqReadStation
  rw [hn, h]
  dsimp only
  rw [ite_flagAt_second, accept, ← reply_eq_stationParts]
  rfl

end Sys2Proof.Machine

namespace Sys2Proof.Proofs

open Sys2Proof.Machine

/-- Settles O17, by the offsets of the records. -/
theorem readEventsReply : Obligations.ReadEventsReply := by
  intro s tag h
  have hreset := ((atRest_iff s).mp h).2.2.1
  refine ⟨s.events.payload, request_atRest h rfl (reqReadEvents_eq s) hreset, ?_, rfl, rfl, rfl,
    s.events.field_payload_record⟩
  rw [EventSet.payload, List.length_append, length_flatMap_of_length raiseOctets_length, Vector.length_toList]
  rfl

/-- Settles O19, by what READ TRACE answers and what it does to the queue. -/
theorem readTraceTakesEntries : Obligations.ReadTraceTakesEntries := by
  refine ⟨⟨rfl, rfl, rfl⟩, fun s tag n clear w h => ⟨fun hn => ?_, fun hlow hhigh => ?_⟩⟩
  · rw [exec_readTrace]
    exact request_refused (st := .badValue) h rfl (reqReadTrace_badValue hn clear w s)
  · have hreset := ((atRest_iff s).mp h).2.2.1
    refine ⟨tracePayload s n.toNat w, _, request_atRest h rfl (reqReadTrace_accepted (by omega) clear w s) ?_, rfl, ?_,
      tracePayload_length s n.toNat w, fun j e hj he => ?_, ?_⟩
    · rw [takeTrace_resetPending, hreset]
    · rfl
    · rw [field_tracePayload_entry w hj he]
      rw [traceOctets_eq]
      have hpart {k : Nat} {v : List Octet} := field_flatten (traceParts_lengths e) (k := k) (v := v)
      refine ⟨hpart (k := 0) rfl, hpart (k := 1) rfl, hpart (k := 2) rfl, hpart (k := 3) rfl,
        (hpart (k := 4) rfl).trans ?_, (hpart (k := 5) rfl).trans ?_, (hpart (k := 6) rfl).trans ?_,
        (hpart (k := 7) rfl).trans ?_, hpart (k := 8) rfl, hpart (k := 9) rfl, hpart (k := 10) rfl⟩
      · cases e.outcome <;> rfl
      · cases e.reason <;> rfl
      · cases e.error <;> cases e.origin <;> rfl
      · exact signedOctets_getD_zero e.error
    · have hclear : flagAt [n, clear, w] 1 = decide (clear ≠ 0x00) := flagAt_singleton clear
      rw [hclear]
      exact takeTrace_eq n.toNat clear w s

/-- Settles O20, by the offsets of the fields and of the feeds listed. -/
theorem readLaneReply : Obligations.ReadLaneReply := by
  intro s tag lane clear h
  refine ⟨fun hn => ?_, fun l hl => ?_⟩
  · rw [exec_readLane]
    exact request_refused (st := .badValue) h rfl (reqReadLane_badValue hn clear s)
  · have hreset := ((atRest_iff s).mp h).2.2.1
    have hpart {k : Nat} {v : List Octet} := field_lanePayload l (s.lane l) (k := k) (v := v)
    refine ⟨lanePayload l (s.lane l), request_atRest h rfl (reqReadLane_accepted hl clear s) ?_, ?_,
      (hpart (k := 0) rfl rfl rfl (by decide)).trans ?_, hpart (k := 2) rfl rfl rfl (by decide),
      hpart (k := 1) rfl rfl rfl (by decide), (hpart (k := 3) rfl rfl rfl (by decide)).trans ?_,
      hpart (k := 6) rfl rfl rfl (by decide), hpart (k := 4) rfl rfl rfl (by decide),
      hpart (k := 5) rfl rfl rfl (by decide), hpart (k := 7) rfl rfl rfl (by decide),
      hpart (k := 8) rfl rfl rfl (by decide), fun j f hj hf => field_lanePayload_feed l hj hf⟩
    · split
      · exact hreset
      · exact hreset
    · rw [lanePayload, List.length_append, laneParts_length, length_flatMap_of_length feedOctets_length,
        List.length_take]
    · rw [octets_lane hl, stationCode_eq]
      rfl
    · exact lastFeedOctets_eq _

/-- Settles O21, by the offsets of the four parts and of the fields in each. -/
theorem readStationReply : Obligations.ReadStationReply := by
  intro s tag n clear h
  refine ⟨fun hn => ?_, fun st hst => ?_⟩
  · rw [exec_readStation]
    exact request_refused (st := .badValue) h rfl (reqReadStation_badValue hn clear s)
  · have hreset := ((atRest_iff s).mp h).2.2.1
    have hpart {k : Nat} {v : List Octet} := field_flatten (s.stationParts_lengths st) (k := k) (v := v)
    refine ⟨(s.stationParts st).flatten, request_atRest h rfl (reqReadStation_accepted hst clear s) ?_,
      length_flatten_of (s.stationParts_lengths st), (hpart (k := 0) rfl).trans (by rw [octets_station hst]; rfl),
      ⟨hpart (k := 1) rfl, hpart (k := 2) rfl, hpart (k := 3) rfl, hpart (k := 4) rfl, hpart (k := 5) rfl,
        hpart (k := 6) rfl, hpart (k := 7) rfl, hpart (k := 8) rfl, hpart (k := 9) rfl, hpart (k := 10) rfl,
        hpart (k := 11) rfl⟩,
      (hpart (k := 12) rfl).trans (by rw [stationState_code]), hpart (k := 13) rfl, hpart (k := 14) rfl,
      (hpart (k := 15) rfl).trans ?_, hpart (k := 16) rfl,
      ⟨hpart (k := 17) rfl, hpart (k := 18) rfl, hpart (k := 19) rfl, hpart (k := 20) rfl, hpart (k := 21) rfl,
        hpart (k := 22) rfl, hpart (k := 23) rfl, hpart (k := 24) rfl⟩,
      hpart (k := 25) rfl, hpart (k := 26) rfl, (hpart (k := 27) rfl).trans ?_, (hpart (k := 28) rfl).trans ?_,
      hpart (k := 29) rfl, hpart (k := 30) rfl, (hpart (k := 31) rfl).trans ?_, hpart (k := 32) rfl,
      hpart (k := 33) rfl, ⟨hpart (k := 34) rfl, hpart (k := 35) rfl, hpart (k := 36) rfl⟩, hpart (k := 37) rfl,
      (hpart (k := 38) rfl).trans ?_⟩
    · split
      · exact hreset
      · exact hreset
    · cases (s.station st).idleLift <;> rfl
    · cases (s.station st).loop.waiting <;> rfl
    · cases (s.station st).loop.gate <;> rfl
    · cases (s.station st).loop.last <;> rfl
    · cases (s.station st).zone.soakTimer <;> rfl

end Sys2Proof.Proofs
end

section
/-! COMMIT PLAN accepted (O26), END JOB (O27), SET TRIM and NUDGE TRIM (O30) and TUNE REGISTER (O31). -/

namespace Sys2Proof.Machine

/-! ### Answered requests -/

/-- A request of a fitting length on a link at rest whose answer keeps the dispatcher's flag has its reply placed. -/
theorem request_answered {s t : State} {k : ReqKind} {tag : Octet} {p q : List Octet} (h : s.atRest = true)
    (hl : lengthFits k p = true) (hc : carryOut k p s = (q, t))
    (hr : t.link.resetPending = s.link.resetPending) : request k tag p s = .next (t.replied k tag q) :=
  request_atRest h hl hc (hr.trans ((atRest_iff s).mp h).2.2.1)

/-! ### COMMIT PLAN (R161 to R163) -/

theorem exec_commitPlan (tag : Octet) (p : List Octet) (s : State) :
    exec (.commitPlan tag p) s = request .commitPlan tag p s := rfl

theorem armPlan_eq (p : Plan) (s : State) :
    armPlan p s = { s with
      job := { s.job with active := some p, activeLive := 0, buffer := .empty, state := .armed, endReason := none,
                          admitted := 0, target := p.target }
      stations := s.stations.map fun u => { u with drift := 0, unusable := 0 }
      tracker := { s.tracker with state := .search, cursor := 0, window := none } } := by
  unfold armPlan
  dsimp only
  rw [overStations_modStation]
  rfl

theorem readyPlan_eq (p : Plan) (s : State) :
    readyPlan p s = { s with
      job := { s.job with buffer := .ready p }
      tracker := if (s.job.state = .draining ∨ s.job.state = .ended) ∧ s.tracker.state = .off ∧ s.mode ≠ .standby
        then { s.tracker with state := .search, cursor := 0, window := none } else s.tracker } := by
  unfold readyPlan
  dsimp only
  split <;> rfl

theorem reqCommitPlan_accepted {s : State} {p : Plan} (hb : s.job.buffer = .loaded p) (hc : s.planChecks p = none) :
    reqCommitPlan s = accept .ok (commitReply (commitPlan p s)) (commitPlan p s) := by
  unfold reqCommitPlan
  rw [hb]
  dsimp only
  rw [hc]

/-! ### END JOB (R168) -/

theorem exec_endJob (tag : Octet) (p : List Octet) (s : State) : exec (.endJob tag p) s = request .endJob tag p s := rfl

theorem reqEndJob_none {s : State} (h : s.job.state = .none) : reqEndJob s = refuse .notReady s := by
  rw [reqEndJob, h]

theorem reqEndJob_draining {s : State} (h : s.job.state = .draining) : reqEndJob s = refuse .busy s := by
  rw [reqEndJob, h]

theorem reqEndJob_armed {s : State} (h : s.job.state = .armed) :
    reqEndJob s = accept .ok (jobReply (drainJob s)) (drainJob s) := by
  rw [reqEndJob, h]

theorem reqEndJob_ended {s : State} (h : s.job.state = .ended) :
    reqEndJob s = accept .ok (jobReply (releaseJob s)) (releaseJob s) := by
  rw [reqEndJob, h]

/-- A job with live records drains. -/
theorem drainJob_live {s : State} (h : 0 < s.job.activeLive) :
    drainJob s = { s with
      job := { s.job with state := .draining, endReason := some .endRequest }
      tracker := { s.tracker with state := .search, cursor := 0, window := none } } := by
  unfold drainJob drainedTest
  rw [if_neg fun hd => absurd hd.2 (Nat.pos_iff_ne_zero.mp h)]
  rfl

/-- A job without live records ends at once, with JOB_ENDED (R165). -/
theorem drainJob_drained {s : State} (h : s.job.activeLive = 0) :
    drainJob s = raiseEvent .jobEnded 0 (2 * 256 + placeId s.job.active) { s with
      job := { s.job with state := .ended, endReason := some .endRequest }
      tracker := { s.tracker with state := .search, cursor := 0, window := none } } := by
  unfold drainJob drainedTest
  rw [if_pos ⟨rfl, h⟩]
  rfl

/-! ### SET TRIM and NUDGE TRIM (R67, R82, R85, R86) -/

theorem exec_setTrim (tag : Octet) (p : List Octet) (s : State) :
    exec (.setTrim tag p) s = request .setTrim tag p s := rfl

theorem exec_nudgeTrim (tag : Octet) (p : List Octet) (s : State) :
    exec (.nudgeTrim tag p) s = request .nudgeTrim tag p s := rfl

/-- A trim set through the saturation rule, with TRIM_SATURATED when it was clamped. -/
theorem setTrimTo_eq (st : StationId) (x : Int) (source : Nat) (s : State) :
    setTrimTo st x source s =
      let t := (s.station st).loop.tuning
      if t.saturate x = x then s.modStation st fun u => { u with loop := { u.loop with
        trim := x, settleCtr := t.settle } }
      else raiseEvent .trimSaturated st.number source (s.modStation st fun u => { u with loop := { u.loop with
        trim := t.saturate x, settleCtr := t.settle, trimSat := true } }) := by
  unfold setTrimTo trimSaturated
  dsimp only
  split
  · next hx => rw [hx]
  · rw [State.modStation_modStation]

theorem setTrimTo_resetPending (st : StationId) (x : Int) (source : Nat) (s : State) :
    (setTrimTo st x source s).link.resetPending = s.link.resetPending := by
  rw [setTrimTo_eq]
  dsimp only
  split
  · rfl
  · rw [raiseEvent_resetPending]
    rfl

/-- The trim and TRIM_SAT after a request set the trim. -/
theorem setTrimTo_loop (st : StationId) (x : Int) (source : Nat) (s : State) :
    trimOctets ((setTrimTo st x source s).station st).loop =
      signedOctets 4 ((s.station st).loop.tuning.saturate x) ++
        [if (s.station st).loop.tuning.saturate x = x ∧ (s.station st).loop.trimSat = false then 0 else 1] := by
  rw [setTrimTo_eq]
  dsimp only
  by_cases hx : (s.station st).loop.tuning.saturate x = x
  · rw [if_pos hx, State.modStation_station]
    cases hsat : (s.station st).loop.trimSat <;> simp [trimOctets, flagOctet, hx]
  · rw [if_neg hx, raiseEvent_station, State.modStation_station]
    simp [trimOctets, flagOctet, hx]

/-- CLAMPED exactly when the saturation rule changed the trim (R85, R86). -/
theorem statusCode_saturate (t : Tuning) (x : Int) :
    statusCode (okOr (t.saturate x != x)) = if t.saturate x = x then 0x00 else 0x01 := by
  rw [statusCode_okOr]
  by_cases h : t.saturate x = x <;> simp [h]

section
variable {s : State} {n a b c d : Octet}

theorem reqSetTrim_badValue (h : StationId.ofNumber n.toNat = none) :
    reqSetTrim [n, a, b, c, d] s = refuse .badValue s := by
  have hn : u8 [n, a, b, c, d] 0 = n.toNat := rfl
  unfold reqSetTrim
  rw [hn, h]

theorem reqNudgeTrim_badValue (h : StationId.ofNumber n.toNat = none) :
    reqNudgeTrim [n, a, b, c, d] s = refuse .badValue s := by
  have hn : u8 [n, a, b, c, d] 0 = n.toNat := rfl
  unfold reqNudgeTrim
  rw [hn, h]

theorem reqSetTrim_auto {st : StationId} (h : StationId.ofNumber n.toNat = some st)
    (hm : (s.station st).loop.tuning.mode = .auto) : reqSetTrim [n, a, b, c, d] s = refuse .notReady s := by
  have hn : u8 [n, a, b, c, d] 0 = n.toNat := rfl
  unfold reqSetTrim
  rw [hn, h]
  exact if_pos hm

theorem reqSetTrim_accepted {st : StationId} (h : StationId.ofNumber n.toNat = some st)
    (hm : (s.station st).loop.tuning.mode ≠ .auto) : reqSetTrim [n, a, b, c, d] s =
      let x := i32 [n, a, b, c, d] 1
      accept (okOr ((s.station st).loop.tuning.saturate x != x)) (trimOctets ((setTrimTo st x 2 s).station st).loop)
        (setTrimTo st x 2 s) := by
  have hn : u8 [n, a, b, c, d] 0 = n.toNat := rfl
  unfold reqSetTrim
  rw [hn, h]
  exact if_neg hm

theorem reqNudgeTrim_accepted {st : StationId} (h : StationId.ofNumber n.toNat = some st) :
    reqNudgeTrim [n, a, b, c, d] s =
      let x := (s.station st).loop.trim + i32 [n, a, b, c, d] 1
      accept (okOr ((s.station st).loop.tuning.saturate x != x)) (trimOctets ((setTrimTo st x 3 s).station st).loop)
        (setTrimTo st x 3 s) := by
  have hn : u8 [n, a, b, c, d] 0 = n.toNat := rfl
  unfold reqNudgeTrim
  rw [hn, h]

end

/-! ### TUNE REGISTER (R83, R84) -/

theorem exec_tuneRegister (tag : Octet) (p : List Octet) (s : State) :
    exec (.tuneRegister tag p) s = request .tuneRegister tag p s := rfl

/-- The tuning values of a payload as they stand. -/
def payloadTuning (p : List Octet) : Tuning :=
  { target := i32 p 1, capture := u16 p 5, deadBand := u16 p 7, gain := u8 p 9, stepMax := u16 p 10,
    trimLimit := u32 p 12, settle := u8 p 16, mode := if u8 p 17 = 0 then .auto else .measure }

theorem tuningFields_eq (p : List Octet) : tuningFields p = if u8 p 17 ≤ 1 then some (payloadTuning p) else none := by
  unfold tuningFields payloadTuning
  rcases h : u8 p 17 with - | - | n
  · rfl
  · rfl
  · rw [if_neg (by omega)]
    rfl

theorem Tuning.clamped_eq (t : Tuning) :
    t.clamped = { target := max (-100000) (min 100000 t.target), capture := max 100 (min 50000 t.capture),
                  deadBand := min 500 t.deadBand, gain := max 1 (min 16 t.gain),
                  stepMax := max 1 (min 5000 t.stepMax), trimLimit := min 200000 t.trimLimit,
                  settle := min 7 t.settle, mode := t.mode } := by
  simp [Tuning.clamped, clampNat, clampInt]

/-- A tuning that differs from another in values alone is the other when the values are the same. -/
theorem Tuning.eq_iff_of_mode {t u : Tuning} (h : t.mode = u.mode) :
    t = u ↔ t.target = u.target ∧ t.capture = u.capture ∧ t.deadBand = u.deadBand ∧ t.gain = u.gain ∧
      t.stepMax = u.stepMax ∧ t.trimLimit = u.trimLimit ∧ t.settle = u.settle := by
  obtain ⟨a, b, c, d, e, f, g, m⟩ := t
  obtain ⟨a', b', c', d', e', f', g', m'⟩ := u
  simp only at h
  subst h
  simp

/-- The tuning taken, and a trim outside the new limit clamped (R84). -/
theorem applyTuning_eq (st : StationId) (t : Tuning) (s : State) :
    applyTuning st t s =
      let trim := t.saturate (s.station st).loop.trim
      if trim = (s.station st).loop.trim then s.modStation st fun u => { u with loop := { u.loop with
        tuning := t, settleCtr := min u.loop.settleCtr t.settle } }
      else raiseEvent .trimSaturated st.number 4 (s.modStation st fun u => { u with loop := { u.loop with
        tuning := t, settleCtr := t.settle, trim := trim, trimSat := true } }) := by
  unfold applyTuning
  dsimp only
  rw [State.modStation_station]
  split
  · rfl
  · next hx =>
    rw [setTrimTo_eq, State.modStation_station]
    dsimp only
    rw [if_neg hx, State.modStation_modStation]

/-- The trim and TRIM_SAT after a tuning was taken. -/
theorem applyTuning_loop (st : StationId) (t : Tuning) (s : State) :
    trimOctets ((applyTuning st t s).station st).loop =
      signedOctets 4 (t.saturate (s.station st).loop.trim) ++
        [if t.saturate (s.station st).loop.trim = (s.station st).loop.trim ∧ (s.station st).loop.trimSat = false
          then 0 else 1] := by
  rw [applyTuning_eq]
  dsimp only
  by_cases hx : t.saturate (s.station st).loop.trim = (s.station st).loop.trim
  · rw [if_pos hx, State.modStation_station, hx]
    cases (s.station st).loop.trimSat <;> simp [trimOctets, flagOctet]
  · rw [if_neg hx, raiseEvent_station, State.modStation_station]
    simp [trimOctets, flagOctet, hx]

theorem applyTuning_resetPending (st : StationId) (t : Tuning) (s : State) :
    (applyTuning st t s).link.resetPending = s.link.resetPending := by
  rw [applyTuning_eq]
  dsimp only
  split
  · rfl
  · rw [raiseEvent_resetPending]
    rfl

section
variable {s : State} {p : List Octet}

theorem reqTuneRegister_badValue (h : StationId.ofNumber (u8 p 0) = none ∨ 1 < u8 p 17) :
    reqTuneRegister p s = refuse .badValue s := by
  unfold reqTuneRegister
  rw [tuningFields_eq]
  obtain h | h := h
  · rw [h]
  · rw [if_neg (Nat.not_le.mpr h)]
    cases StationId.ofNumber (u8 p 0) <;> rfl

theorem reqTuneRegister_accepted {st : StationId} (h : StationId.ofNumber (u8 p 0) = some st) (hm : u8 p 17 ≤ 1) :
    reqTuneRegister p s =
      let t := (payloadTuning p).clamped
      accept (okOr (t != payloadTuning p))
        (octets 1 st.number ++ tuningOctets t ++ trimOctets ((applyTuning st t s).station st).loop)
        (applyTuning st t s) := by
  unfold reqTuneRegister
  rw [tuningFields_eq, h, if_pos hm]

end

/-- The fields of TUNE REGISTER's reply (section 10.4). -/
def tuneParts (status : Octet) (st : StationId) (t : Tuning) (trim : List Octet) : List (List Octet) :=
  [status :: octets 1 st.number, signedOctets 4 t.target ++ octets 2 t.capture ++ octets 2 t.deadBand,
   octets 1 t.gain ++ octets 2 t.stepMax ++ octets 4 t.trimLimit ++ octets 1 t.settle, octets 1 t.mode.code ++ trim]

theorem tuneParts_flatten (status : Octet) (st : StationId) (t : Tuning) (trim : List Octet) :
    (tuneParts status st t trim).flatten = status :: (octets 1 st.number ++ tuningOctets t ++ trim) := by
  simp only [tuneParts, tuningOctets, List.flatten_cons, List.flatten_nil, List.append_assoc, List.append_nil,
    List.cons_append]

theorem tuneParts_lengths (status : Octet) (st : StationId) (t : Tuning) {trim : List Octet} (h : trim.length = 5) :
    (tuneParts status st t trim).map List.length = [2, 8, 8, 6] := by
  simp [tuneParts, h]

end Sys2Proof.Machine

namespace Sys2Proof.Proofs

open Sys2Proof.Machine

/-- Settles O26, by the job state. -/
theorem commitPlanAccepted : Obligations.CommitPlanAccepted := by
  intro s tag p h hb hc
  rw [exec_commitPlan]
  constructor
  · intro hnone
    have harm : commitPlan p s = armPlan p s := by rw [commitPlan, hnone]
    refine request_answered h rfl ((reqCommitPlan_accepted hb hc).trans ?_) rfl
    rw [harm, armPlan_eq]
    rfl
  · intro hjob wakes
    have hready : commitPlan p s = readyPlan p s := by
      unfold commitPlan
      split
      · next hnone => exact (hjob hnone).elim
      · rfl
    refine request_answered h rfl ((reqCommitPlan_accepted hb hc).trans ?_) rfl
    rw [hready, readyPlan_eq]
    rfl

/-- Settles O27, by the job state. -/
theorem endJobByState : Obligations.EndJobByState := by
  intro s tag h
  rw [exec_endJob]
  refine ⟨fun hjob => ?_, fun hjob => ?_, fun hjob hlive => ?_, fun hjob hlive => ?_, fun hjob => ?_⟩
  · exact request_refused (st := .notReady) h rfl (reqEndJob_none hjob)
  · exact request_refused (st := .busy) h rfl (reqEndJob_draining hjob)
  · refine request_answered h rfl ((reqEndJob_armed hjob).trans ?_) rfl
    rw [drainJob_live hlive]
    rfl
  · refine request_answered h rfl ((reqEndJob_armed hjob).trans ?_) (by rw [raiseEvent_resetPending])
    rw [drainJob_drained hlive, accept, jobReply, raiseEvent_job]
    rfl
  · refine ⟨s.job.buffer.returned, request_answered h rfl ((reqEndJob_ended hjob).trans rfl) rfl, ?_, ?_⟩
    · cases s.job.buffer <;> rfl
    · cases s.job.buffer <;> rfl

/-- Settles O30, by what setting a trim does. -/
theorem setAndNudgeTrim : Obligations.SetAndNudgeTrim := by
  intro s tag n a b c d h v
  rw [exec_setTrim, exec_nudgeTrim]
  refine ⟨fun hn => ⟨?_, ?_⟩, fun st hst => ?_⟩
  · exact request_refused (st := .badValue) h rfl (reqSetTrim_badValue hn)
  · exact request_refused (st := .badValue) h rfl (reqNudgeTrim_badValue hn)
  intro l clamp moved reply
  refine ⟨fun hm => ?_, fun hm => ?_, ?_⟩
  · exact request_refused (st := .notReady) h rfl (reqSetTrim_auto hst hm)
  · have hmoved : setTrimTo st v 2 s = moved v 2 := setTrimTo_eq st v 2 s
    refine request_answered h rfl ((reqSetTrim_accepted hst (by rw [hm]; decide)).trans ?_)
      (by rw [← hmoved, setTrimTo_resetPending])
    rw [← hmoved]
    dsimp only
    rw [accept, statusCode_saturate, setTrimTo_loop]
    rfl
  · have hmoved : setTrimTo st (l.trim + v) 3 s = moved (l.trim + v) 3 := setTrimTo_eq st (l.trim + v) 3 s
    refine request_answered h rfl ((reqNudgeTrim_accepted hst).trans ?_)
      (by rw [← hmoved, setTrimTo_resetPending])
    rw [← hmoved]
    dsimp only
    rw [accept, statusCode_saturate, setTrimTo_loop]
    rfl

/-- Settles O31, by what taking a tuning does and the fields of the reply. -/
theorem tuneRegisterTakesTheValues : Obligations.TuneRegisterTakesTheValues := by
  intro s tag p h hlen
  have hfits : lengthFits .tuneRegister p = true := lengthFits_of_fixedLength (by rw [hlen]; rfl)
  rw [exec_tuneRegister]
  refine ⟨fun hbad => ?_, fun st hst hmode => ?_⟩
  · exact request_refused (st := .badValue) h hfits (reqTuneRegister_badValue hbad)
  · intro t l trim t' kept
    have ht : (payloadTuning p).clamped = t := (payloadTuning p).clamped_eq
    have htaken : applyTuning st t s = t' := applyTuning_eq st t s
    have hkept : kept ↔ t = payloadTuning p := (Tuning.eq_iff_of_mode (t := t) (u := payloadTuning p) rfl).symm
    have hstatus : statusCode (okOr (t != payloadTuning p)) = if kept then 0x00 else 0x01 := by
      rw [statusCode_okOr]
      by_cases hk : kept
      · rw [if_pos hk, if_neg (by rw [hkept.mp hk, bne_self_eq_false]; decide)]
      · rw [if_neg hk, if_pos (bne_iff_ne.mpr (mt hkept.mpr hk))]
    have hloop := applyTuning_loop st t s
    have hfive : (trimOctets ((applyTuning st t s).station st).loop).length = 5 := by rw [hloop]; simp
    have hpart {k : Nat} {v : List Octet} :=
      field_flatten (tuneParts_lengths (if kept then 0x00 else 0x01) st t hfive) (k := k) (v := v)
    refine ⟨_, request_answered h hfits ((reqTuneRegister_accepted hst hmode).trans ?_)
      (by rw [← htaken, applyTuning_resetPending]), length_flatten_of (tuneParts_lengths _ st t hfive),
      hpart (k := 0) rfl, hpart (k := 1) rfl, hpart (k := 2) rfl, (hpart (k := 3) rfl).trans ?_⟩
    · rw [ht, tuneParts_flatten, accept, hstatus, ← htaken]
    · rw [hloop, List.append_assoc]
      rfl

end Sys2Proof.Proofs
end

section

/-!
## COMMIT PLAN refused (R161, R193)

The first unit at which a check fails, what each check finds, and what a refused commit answers.
-/

namespace Sys2Proof.Machine

/-! ### The first unit at which a check fails (R161, R193) -/

theorem firstSlot_eq_none_iff {test : PlanSlot → Bool} {P : PlanSlot → Prop} (hp : ∀ t, test t = true ↔ P t)
    (slots : List PlanSlot) : firstSlot test slots = none ↔ ∀ t ∈ slots, ¬ P t := by
  simp only [firstSlot, List.findIdx?_eq_none_iff, ← hp, Bool.not_eq_true]

theorem firstSlot_eq_some {test : PlanSlot → Bool} {P : PlanSlot → Prop} (hp : ∀ t, test t = true ↔ P t)
    {slots : List PlanSlot} {j : Nat} {t : PlanSlot} (hj : slots[j]? = some t) (ht : P t)
    (hfirst : ∀ x ∈ slots.take j, ¬ P x) : firstSlot test slots = some j := by
  obtain ⟨hlt, hget⟩ := List.getElem?_eq_some_iff.mp hj
  refine List.findIdx?_eq_some_iff_getElem.mpr ⟨hlt, (hp _).mpr (hget ▸ ht), fun i hi hti => ?_⟩
  exact hfirst _ (List.mem_take_iff_getElem.mpr ⟨i, by omega, rfl⟩) ((hp _).mp hti)

theorem mem_allStations (st : StationId) : st ∈ allStations := by
  cases st <;> decide

theorem mem_allLanes (l : LaneId) : l ∈ allLanes := by
  cases l <;> decide

/-- The first station, stations tested from 1, at which a test holds. -/
theorem find?_allStations {test : StationId → Bool} {st : StationId} (ht : test st = true)
    (hfirst : ∀ x : StationId, x.number < st.number → ¬ test x = true) : allStations.find? test = some st := by
  cases st <;> simp_all [allStations, StationId.number]

/-- The first lane, lanes tested from 1, at which a test holds. -/
theorem find?_allLanes {test : LaneId → Bool} {l : LaneId} (ht : test l = true)
    (hfirst : ∀ x : LaneId, x.number < l.number → ¬ test x = true) : allLanes.find? test = some l := by
  cases l <;> simp_all [allLanes, LaneId.number]

/-! ### The checks of COMMIT PLAN (R161) -/

theorem failsIf_eq_none_iff {b : Bool} {k : Nat} {c : Status} : failsIf b k c = none ↔ ¬ b = true := by
  cases b <;> simp [failsIf]

theorem failsIf_of_ne_none {b : Bool} {k : Nat} {c : Status} (h : failsIf b k c ≠ none) :
    failsIf b k c = some { check := k, unit := 0xFF, status := c } := by
  cases b
  · exact absurd rfl h
  · rfl

theorem failsAt_eq_some {k n : Nat} {c : Status} {u : Option Nat} (h : u = some n) :
    failsAt k c u = some { check := k, unit := n, status := c } := by
  rw [h]
  rfl

theorem failsAt_eq_none_iff {k : Nat} {c : Status} {u : Option Nat} : failsAt k c u = none ↔ u = none :=
  Option.map_eq_none_iff

theorem firstStation_eq_none_iff {s : State} {test : StationSetup → Bool} {P : StationId → Prop}
    (hp : ∀ st, test (s.station st).setup = true ↔ P st) :
    s.firstStation test = none ↔ ∀ st, ¬ (s.enabled st = true ∧ P st) := by
  simp only [State.firstStation, Option.map_eq_none_iff, List.find?_eq_none, mem_allStations, true_implies,
    Bool.and_eq_true, hp]

theorem firstStation_eq_some {s : State} {test : StationSetup → Bool} {P : StationId → Prop} {st : StationId}
    (hp : ∀ st, test (s.station st).setup = true ↔ P st) (hst : s.enabled st = true ∧ P st)
    (hfirst : ∀ x : StationId, x.number < st.number → ¬ (s.enabled x = true ∧ P x)) :
    s.firstStation test = some st.number := by
  have hfound := find?_allStations (test := fun st => s.enabled st && test (s.station st).setup) (st := st)
    (by simpa only [Bool.and_eq_true, hp] using hst)
    (fun x hx => by simpa only [Bool.and_eq_true, hp] using hfirst x hx)
  rw [State.firstStation, hfound]
  rfl

/-- A fold of minima lies at or below what it starts from and every member, and is one of them. -/
theorem foldl_min_pitch (slots : List PlanSlot) (a : Nat) :
    let m := slots.foldl (fun m t => min m t.pitch) a
    m ≤ a ∧ (∀ t ∈ slots, m ≤ t.pitch) ∧ (m = a ∨ ∃ t ∈ slots, t.pitch = m) := by
  induction slots generalizing a with
  | nil => exact ⟨Nat.le_refl _, by simp, .inl rfl⟩
  | cons x xs ih =>
    obtain ⟨hle, hall, hmem⟩ := ih (min a x.pitch)
    refine ⟨le_trans hle (Nat.min_le_left ..), List.forall_mem_cons.mpr ⟨le_trans hle (Nat.min_le_right ..), hall⟩, ?_⟩
    rcases hmem with heq | ⟨t, ht, heq⟩
    · rcases Nat.le_total a x.pitch with h | h
      · exact .inl (heq.trans (Nat.min_eq_left h))
      · exact .inr ⟨x, List.mem_cons_self, (heq.trans (Nat.min_eq_right h)).symm⟩
    · exact .inr ⟨t, List.mem_cons_of_mem _ ht, heq⟩

theorem smallestPitch_eq {slots : List PlanSlot} {least : Nat} (hmem : ∃ t ∈ slots, t.pitch = least)
    (hle : ∀ t ∈ slots, least ≤ t.pitch) : smallestPitch slots = least := by
  obtain ⟨t, ht, rfl⟩ := hmem
  cases slots with
  | nil => exact absurd ht List.not_mem_nil
  | cons x xs =>
    obtain ⟨hx, hall, hm⟩ := foldl_min_pitch xs x.pitch
    have hfold : smallestPitch (x :: xs) = xs.foldl (fun m t => min m t.pitch) x.pitch := rfl
    rw [hfold]
    refine Nat.le_antisymm ?_ ?_
    · exact (List.mem_cons.mp ht).elim (fun h => h ▸ hx) (hall t)
    · rcases hm with h | ⟨y, hy, h⟩
      · exact h.symm ▸ hle x List.mem_cons_self
      · exact h ▸ hle y (List.mem_cons_of_mem _ hy)

theorem motif_invalid_iff (s : State) (t : PlanSlot) :
    (!(s.motif t.motif).valid) = true ↔ (s.motif t.motif).valid = false := by
  rw [Bool.not_eq_true']

theorem pastPitch_iff (s : State) (t : PlanSlot) :
    (allLanes.any fun l => ((s.motif t.motif).segments.get l).any fun g => decide (t.pitch < g.offset + g.length)) = true
      ↔ ∃ l, ∃ g ∈ (s.motif t.motif).segments.get l, t.pitch < g.offset + g.length := by
  simp only [List.any_eq_true, mem_allLanes, true_and, decide_eq_true_eq]

theorem strayLane_iff (s : State) (l : LaneId) (m : Motif) :
    s.strayLane l m = true ↔
      m.segments.get l ≠ [] ∧ ∀ st, (s.lane l).station = some st → m.mask.get st = false := by
  unfold State.strayLane
  cases (s.lane l).station <;> simp

theorem strayLanes_iff (s : State) (p : Plan) (l : LaneId) :
    (p.slots.any fun t => s.strayLane l (s.motif t.motif)) = true ↔
      ∃ t ∈ p.slots, (s.motif t.motif).segments.get l ≠ [] ∧
        ∀ st, (s.lane l).station = some st → (s.motif t.motif).mask.get st = false := by
  simp only [List.any_eq_true, strayLane_iff]

theorem check3_eq_none_iff (s : State) : failsIf s.job.draining.isSome 3 .busy = none ↔ s.job.draining = none := by
  rw [failsIf_eq_none_iff, Option.not_isSome_iff_eq_none]

theorem check4_eq_none_iff (s : State) (p : Plan) :
    s.check4 p = none ↔ ∀ t ∈ p.slots, ¬ (s.motif t.motif).valid = false :=
  failsAt_eq_none_iff.trans (firstSlot_eq_none_iff (motif_invalid_iff s) _)

theorem check5_eq_none_iff (p : Plan) :
    failsIf (p.sync == .any && p.slots.length != 1) 5 .badValue = none ↔ (p.sync = .any → p.slots.length = 1) := by
  rw [failsIf_eq_none_iff, Bool.and_eq_true, beq_iff_eq, bne_iff_ne, not_and, not_not]

theorem otherSlots_iff (s : State) (p : Plan) (st : StationId) :
    ((s.station st).setup.dieSlots != p.slots.length) = true ↔ (s.station st).setup.dieSlots ≠ p.slots.length :=
  bne_iff_ne

theorem check6_eq_none_iff (s : State) (p : Plan) :
    s.check6 p = none ↔ ∀ st, ¬ (s.enabled st = true ∧ (s.station st).setup.dieSlots ≠ p.slots.length) :=
  failsAt_eq_none_iff.trans (firstStation_eq_none_iff (test := fun c => c.dieSlots != p.slots.length)
    (otherSlots_iff s p))

theorem check7_eq_none_iff (s : State) (p : Plan) :
    failsIf (s.job.state != .none && placeId s.job.active == p.id) 7 .badValue = none ↔
      (s.job.state = .none ∨ placeId s.job.active ≠ p.id) := by
  rw [failsIf_eq_none_iff, Bool.and_eq_true, bne_iff_ne, beq_iff_eq, not_and_or, not_not]

theorem check8_eq_none_iff (s : State) (p : Plan) :
    s.check8 p = none ↔ 2 * s.entry.ewin < smallestPitch p.slots ∧
      ∀ st, ¬ (s.enabled st = true ∧ smallestPitch p.slots ≤ 2 * (s.station st).setup.swin) := by
  unfold State.check8
  dsimp only
  split
  · next hw => exact ⟨fun h => absurd h (Option.some_ne_none _), fun h => absurd hw (Nat.not_le.mpr h.1)⟩
  · next hw =>
    rw [failsAt_eq_none_iff, firstStation_eq_none_iff fun _ => decide_eq_true_iff]
    exact (and_iff_right (Nat.not_le.mp hw)).symm

theorem check9_eq_none_iff (s : State) (p : Plan) :
    s.check9 p = none ↔
      ∀ t ∈ p.slots, ¬ ∃ l, ∃ g ∈ (s.motif t.motif).segments.get l, t.pitch < g.offset + g.length :=
  failsAt_eq_none_iff.trans (firstSlot_eq_none_iff (pastPitch_iff s) _)

theorem check10_eq_none_iff (s : State) (p : Plan) :
    s.check10 p = none ↔ ∀ l, ¬ ∃ t ∈ p.slots, (s.motif t.motif).segments.get l ≠ [] ∧
      ∀ st, (s.lane l).station = some st → (s.motif t.motif).mask.get st = false := by
  rw [State.check10, failsAt_eq_none_iff, Option.map_eq_none_iff, List.find?_eq_none]
  exact ⟨fun h l hl => h l (mem_allLanes l) ((strayLanes_iff s p l).mpr hl),
    fun h l _ hl => h l ((strayLanes_iff s p l).mp hl)⟩

theorem check11_eq_none_iff (s : State) (p : Plan) :
    s.check11 p = none ↔ ∀ st, ¬ (s.enabled st = true ∧ 256 <
      ((s.station st).setup.path + (s.station st).setup.lead + (s.station st).setup.swin) / smallestPitch p.slots + 2) :=
  failsAt_eq_none_iff.trans (firstStation_eq_none_iff fun _ => decide_eq_true_iff)

/-! ### What a refused COMMIT PLAN answers (R193) -/

theorem commit_answers {s : State} {f : CommitFailure} (h : s.atRest = true) (tag : Octet)
    (hf : reqCommitPlan s = commitRefused f s) :
    exec (.commitPlan tag []) s =
      .next (s.replied .commitPlan tag ([statusCode f.status] ++ octets 1 f.check ++ octets 1 f.unit)) :=
  request_answered h rfl hf rfl

theorem reqCommitPlan_refused {s : State} {p : Plan} {f : CommitFailure} (hb : s.job.buffer = .loaded p)
    (hf : s.planChecks p = some f) : reqCommitPlan s = commitRefused f s := by
  unfold reqCommitPlan
  rw [hb]
  dsimp only
  rw [hf]

end Sys2Proof.Machine

namespace Sys2Proof.Proofs

open Sys2Proof.Machine

/-- Settles O25, by what each check finds, and where the first failing one stands among them. -/
theorem commitPlanRefused : Obligations.CommitPlanRefused := by
  intro s tag p h answers invalid otherSlots pastPitch strayLane pass3 pass4 pass5 pass6 pass7
  have hpass3 : pass3 → failsIf s.job.draining.isSome 3 .busy = none := (check3_eq_none_iff s).mpr
  have hpass4 : pass4 → s.check4 p = none := fun h4 => (check4_eq_none_iff s p).mpr h4.2
  have hpass5 : pass5 → failsIf (p.sync == .any && p.slots.length != 1) 5 .badValue = none :=
    fun h5 => (check5_eq_none_iff p).mpr h5.2
  have hpass6 : pass6 → s.check6 p = none := fun h6 => (check6_eq_none_iff s p).mpr h6.2
  have hpass7 : pass7 → failsIf (s.job.state != .none && placeId s.job.active == p.id) 7 .badValue = none :=
    fun h7 => (check7_eq_none_iff s p).mpr h7.2
  have upTo4 (h4 : pass4) := And.intro (hpass3 h4.1) (hpass4 h4)
  have upTo5 (h5 : pass5) := And.intro (upTo4 h5.1) (hpass5 h5)
  have upTo6 (h6 : pass6) := And.intro (upTo5 h6.1) (hpass6 h6)
  have upTo7 (h7 : pass7) := And.intro (upTo6 h7.1) (hpass7 h7)
  have refused (hb : s.job.buffer = .loaded p) (f : CommitFailure) (hf : s.planChecks p = some f) :
      answers ([statusCode f.status] ++ octets 1 f.check ++ octets 1 f.unit) :=
    commit_answers h tag (reqCommitPlan_refused hb hf)
  refine ⟨fun hb => ?_, fun hb => ?_, fun hb => ⟨fun h3 => ?_, fun j t hj h3 ht hfirst => ?_, fun h4 h5 => ?_,
    fun st h5 hst hfirst => ?_, fun h6 h7 => ?_⟩, fun least hmem hle => ?_⟩
  · exact commit_answers h tag (f := { check := 1, unit := 0xFF, status := .notReady }) (by rw [reqCommitPlan, hb])
  · exact commit_answers h tag (f := { check := 2, unit := 0xFF, status := .busy }) (by rw [reqCommitPlan, hb])
  · have hfails := failsIf_of_ne_none (mt (check3_eq_none_iff s).mp h3)
    exact refused hb _ (by rw [State.planChecks, hfails, Option.some_or])
  · have hfails : s.check4 p = some { check := 4, unit := j, status := .badValue } :=
      failsAt_eq_some (firstSlot_eq_some (motif_invalid_iff s) hj ht hfirst)
    exact refused hb _ (by rw [State.planChecks, hpass3 h3, hfails, Option.none_or, Option.some_or])
  · obtain ⟨p3, p4⟩ := upTo4 h4
    have hfails := failsIf_of_ne_none (mt (check5_eq_none_iff p).mp fun h => h5 ⟨h4, h⟩)
    exact refused hb _ (by rw [State.planChecks, p3, p4, hfails]; rfl)
  · obtain ⟨⟨p3, p4⟩, p5⟩ := upTo5 h5
    have hfails : s.check6 p = some { check := 6, unit := st.number, status := .badValue } :=
      failsAt_eq_some (firstStation_eq_some (otherSlots_iff s p) hst hfirst)
    exact refused hb _ (by rw [State.planChecks, p3, p4, p5, hfails]; rfl)
  · obtain ⟨⟨⟨p3, p4⟩, p5⟩, p6⟩ := upTo6 h6
    have hfails := failsIf_of_ne_none (mt (check7_eq_none_iff s p).mp fun h => h7 ⟨h6, h⟩)
    exact refused hb _ (by rw [State.planChecks, p3, p4, p5, p6, hfails]; rfl)
  · intro wide long pass8 pass9 pass10 pass11
    have hleast : smallestPitch p.slots = least := smallestPitch_eq hmem hle
    have h8iff := hleast ▸ check8_eq_none_iff s p
    have h9iff := check9_eq_none_iff s p
    have h10iff := check10_eq_none_iff s p
    have h11iff := hleast ▸ check11_eq_none_iff s p
    have upTo8 (h8 : pass8) := And.intro (upTo7 h8.1) (h8iff.mpr h8.2)
    have upTo9 (h9 : pass9) := And.intro (upTo8 h9.1) (h9iff.mpr h9.2)
    have upTo10 (h10 : pass10) := And.intro (upTo9 h10.1) (h10iff.mpr h10.2)
    refine ⟨⟨fun hnone => ?_, fun h11 => ?_⟩, fun hb => ⟨fun h7 hw => ?_, fun st h7 hew hst hfirst => ?_,
      fun j t hj h8 ht hfirst => ?_, fun l h9 hl hfirst => ?_, fun st h10 hst hfirst => ?_⟩⟩
    · simp only [State.planChecks, Option.or_eq_none_iff, check3_eq_none_iff, check4_eq_none_iff, check5_eq_none_iff,
        check6_eq_none_iff, check7_eq_none_iff, h8iff, h9iff, h10iff, h11iff] at hnone
      obtain ⟨h3, h4, h5, h6, h7, h8, h9, h10, h11⟩ := hnone
      exact ⟨⟨⟨⟨⟨⟨⟨⟨h3, h4⟩, h5⟩, h6⟩, h7⟩, h8⟩, h9⟩, h10⟩, h11⟩
    · obtain ⟨⟨⟨⟨⟨⟨⟨p3, p4⟩, p5⟩, p6⟩, p7⟩, p8⟩, p9⟩, p10⟩ := upTo10 h11.1
      rw [State.planChecks, p3, p4, p5, p6, p7, p8, p9, p10, h11iff.mpr h11.2]
      rfl
    · obtain ⟨⟨⟨⟨p3, p4⟩, p5⟩, p6⟩, p7⟩ := upTo7 h7
      have hfails : s.check8 p = some { check := 8, unit := 0, status := .badValue } := if_pos (hleast.symm ▸ hw)
      exact refused hb _ (by
        rw [State.planChecks, p3, p4, p5, p6, p7, hfails]; rfl)
    · obtain ⟨⟨⟨⟨p3, p4⟩, p5⟩, p6⟩, p7⟩ := upTo7 h7
      have hfails : s.check8 p = some { check := 8, unit := st.number, status := .badValue } :=
        (if_neg (hleast.symm ▸ Nat.not_le.mpr hew)).trans (failsAt_eq_some (firstStation_eq_some
          (fun _ => hleast.symm ▸ decide_eq_true_iff) hst hfirst))
      exact refused hb _ (by
        rw [State.planChecks, p3, p4, p5, p6, p7, hfails]; rfl)
    · obtain ⟨⟨⟨⟨⟨p3, p4⟩, p5⟩, p6⟩, p7⟩, p8⟩ := upTo8 h8
      have hfails : s.check9 p = some { check := 9, unit := j, status := .badValue } :=
        failsAt_eq_some (firstSlot_eq_some (pastPitch_iff s) hj ht hfirst)
      exact refused hb _ (by
        rw [State.planChecks, p3, p4, p5, p6, p7, p8, hfails]; rfl)
    · obtain ⟨⟨⟨⟨⟨⟨p3, p4⟩, p5⟩, p6⟩, p7⟩, p8⟩, p9⟩ := upTo9 h9
      have hfails : s.check10 p = some { check := 10, unit := l.number, status := .badValue } :=
        failsAt_eq_some (by
          rw [find?_allLanes ((strayLanes_iff s p l).mpr hl) fun x hx => mt (strayLanes_iff s p x).mp (hfirst x hx)]
          rfl)
      exact refused hb _ (by
        rw [State.planChecks, p3, p4, p5, p6, p7, p8, p9, hfails]; rfl)
    · obtain ⟨⟨⟨⟨⟨⟨⟨p3, p4⟩, p5⟩, p6⟩, p7⟩, p8⟩, p9⟩, p10⟩ := upTo10 h10
      have hfails : s.check11 p = some { check := 11, unit := st.number, status := .pathTooLong } :=
        failsAt_eq_some (firstStation_eq_some (fun _ => hleast.symm ▸ decide_eq_true_iff) hst hfirst)
      exact refused hb _ (by
        rw [State.planChecks, p3, p4, p5, p6, p7, p8, p9, p10, hfails]; rfl)

end Sys2Proof.Proofs
end

section

/-!
## Lanes: drive faults, assignment and spools

FOIL_OUT as it follows a lane, what a change of station makes of the lane, and the requests SETUP LANE and LOAD SPOOL.
-/

namespace Sys2Proof.Machine

/-! ### One lane replaced -/

/-- Two changes of one lane are one. -/
theorem State.modLane_setLane (s : State) (l : LaneId) (u : Lane) (f : Lane → Lane) :
    (s.setLane l u).modLane l f = s.setLane l (f u) := by
  have hl : (s.setLane l u).lane l = u := PerLane.get_put_self ..
  unfold State.modLane
  rw [hl, State.setLane, State.setLane, State.setLane, PerLane.put_put]

theorem State.setLane_lane_self (s : State) (l : LaneId) (u : Lane) : (s.setLane l u).lane l = u :=
  PerLane.get_put_self ..

/-! ### FOIL_OUT follows the EMPTY lanes of a station (R95) -/

theorem anyEmpty_eq (s : State) (st : StationId) :
    s.anyEmpty st = allLanes.any fun l => (s.lane l).station == some st && (s.lane l).state == .empty :=
  List.any_filter

theorem dropFoilOut_eq (st : StationId) (s : State) : dropFoilOut st s = leavesFoilOut (some st) s := by
  rw [dropFoilOut, anyEmpty_eq]
  rfl

theorem addSoft_foilOut (st : StationId) (s : State) : addSoft .foilOut st s = entersFoilOut st s := rfl

/-- FOIL_OUT's leaving changes a hold set at most. -/
theorem leavesFoilOut_frame (old : Option StationId) (s : State) :
    { leavesFoilOut old s with stations := s.stations } = s := by
  unfold leavesFoilOut
  split
  · rfl
  · split <;> rfl

theorem leavesFoilOut_lane (old : Option StationId) (s : State) (l : LaneId) :
    (leavesFoilOut old s).lane l = s.lane l := by
  have h := congrArg (fun t : State => t.lane l) (leavesFoilOut_frame old s)
  exact h

theorem leavesFoilOut_link (old : Option StationId) (s : State) : (leavesFoilOut old s).link = s.link := by
  have h := congrArg State.link (leavesFoilOut_frame old s)
  exact h

theorem entersFoilOut_lane (st : StationId) (s : State) (l : LaneId) : (entersFoilOut st s).lane l = s.lane l := by
  unfold entersFoilOut
  split <;> rfl

theorem entersFoilOut_link (st : StationId) (s : State) : (entersFoilOut st s).link = s.link := by
  unfold entersFoilOut
  split <;> rfl

/-! ### The drive fault input (R133) -/

theorem Lane.fail_eq (u : Lane) (web : Pos) :
    u.fail web = { u with
      drive := u.drive ++ [{ kind := .stopAll, start := web, length := 0, follow := .jump }]
      pendingFeeds := []
      lastFeed := none
      state := .fault } := rfl

/-- An input that does not become active, or at a lane that cannot fault, only takes its level. -/
theorem driveFault_level {l : LaneId} {level : Bool} {s : State}
    (h : ¬ (level = true ∧ (s.lane l).faultIn = false) ∨ (s.lane l).station = none ∨
      ¬ ((s.lane l).state = .parked ∨ (s.lane l).state = .active ∨ (s.lane l).state = .empty)) :
    driveFault l level s = s.setLane l { s.lane l with faultIn := level } := by
  unfold driveFault
  dsimp only
  split
  case h_4 => rfl
  all_goals
    next hrise hst hstate =>
    simp only [Bool.and_eq_true, Bool.not_eq_true'] at hrise
    simp [hrise, hst, hstate] at h

theorem driveFault_faults {l : LaneId} {level : Bool} {s : State} {st : StationId}
    (hrise : level = true ∧ (s.lane l).faultIn = false) (hst : (s.lane l).station = some st)
    (hruns : (s.lane l).state = .parked ∨ (s.lane l).state = .active ∨ (s.lane l).state = .empty) :
    driveFault l level s = laneFaults l st (s.modLane l fun u => { u with faultIn := true }) := by
  obtain ⟨rfl, hlow⟩ := hrise
  unfold driveFault
  dsimp only
  rw [hlow, hst]
  rcases hruns with hs | hs | hs <;> rw [hs] <;> rfl

theorem laneFaults_eq (l : LaneId) (st : StationId) (s : State) (u : Lane) :
    laneFaults l st (s.setLane l u) =
      let t := raiseEvent .foilDriveFault l.number st.number (s.setLane l (u.fail s.web))
      addHard .foilDrive st (if u.state = .empty then leavesFoilOut (some st) t else t) := by
  unfold laneFaults raiseDriveFault
  dsimp only
  rw [State.modLane_setLane, State.setLane_lane_self, dropFoilOut_eq]
  simp only [beq_iff_eq]
  rfl

/-! ### SETUP LANE (R116, R117) -/

theorem exec_setupLane (tag : Octet) (p : List Octet) (s : State) :
    exec (.setupLane tag p) s = request .setupLane tag p s := rfl

theorem laneStationOf_of_le {n : Nat} (h : n ≤ 4) : laneStationOf n = some (StationId.ofNumber n) := by
  match n, h with
  | 0, _ | 1, _ | 2, _ | 3, _ | 4, _ => rfl

theorem laneStationOf_of_gt {n : Nat} (h : 4 < n) : laneStationOf n = none := by
  match n, h with
  | n + 5, _ => rfl

theorem LaneSettings.clamped_eq (c : LaneSettings) :
    c.clamped = {
      leadMargin := min 5000 c.leadMargin, tailMargin := min 5000 c.tailMargin,
      jumpThreshold := min 100000 c.jumpThreshold, jumpMs := max 1 (min 200 c.jumpMs), parkAfter := c.parkAfter,
      wakeMs := max 1 (min 1000 c.wakeMs), lowThreshold := min 400000000 c.lowThreshold } := by
  simp [LaneSettings.clamped, clampNat]

theorem LaneSettings.parkValid_iff (c : LaneSettings) :
    c.parkValid = true ↔ c.parkAfter = 0 ∨ c.parkAfter = 4 ∨ c.parkAfter = 8 ∨ c.parkAfter = 16 := by
  simp [LaneSettings.parkValid, or_assoc]

theorem refusesLane_iff (s : State) (l : LaneId) (target : Option StationId) :
    s.refusesLane l target = true ↔ ¬ ∀ st, target = some st →
      (s.station st).setup.kind = .foil ∧ ((s.lanesOf st).filter fun k => k != l).length ≤ 2 := by
  cases target with
  | none => simp [State.refusesLane]
  | some st =>
    have hkind : (s.station st).setup.kind = .emboss ↔ ¬ (s.station st).setup.kind = .foil := by
      cases (s.station st).setup.kind <;> decide
    simp only [State.refusesLane, Bool.or_eq_true, beq_iff_eq, decide_eq_true_eq, Option.some.injEq, forall_eq', hkind,
      not_and_or, Nat.not_le]
    rfl

/-- A parked lane, as the drive's log and the last feed say it. -/
theorem parkIf_eq {q : Prop} [Decidable q] (web : Pos) (u : Lane) (b : Bool)
    (hq : q ↔ u.state = .active ∨ b = true) :
    (if q then u.park web else u) =
      { u with drive := parkedDrive web b u, lastFeed := if q then none else u.lastFeed } := by
  unfold parkedDrive
  by_cases h : q
  · simp only [if_pos h, if_pos (hq.mp h)]
    rfl
  · simp only [if_neg h, if_neg (mt hq.mpr h)]

theorem moveTo_none (web : Pos) (u : Lane) :
    u.moveTo web none = { u with
      drive := parkedDrive web false u, lastFeed := none, idleRun := 0, station := none, state := .unassigned } := by
  have hstate : u.stateAt none = .unassigned := rfl
  unfold Lane.moveTo
  rw [hstate]
  dsimp only
  rw [parkIf_eq web u false (by simp)]

theorem moveTo_some {u : Lane} (web : Pos) (st : StationId) (hf : u.faultIn = false) :
    let empty : Prop := u.state = .empty ∨ u.loaded - u.used = 0
    u.moveTo web (some st) = { u with
      drive := parkedDrive web (decide empty) u, lastFeed := none, idleRun := 0, station := some st
      state := if empty then .empty else .parked } := by
  intro empty
  have hstate : u.stateAt (some st) = if empty then .empty else .parked := by
    unfold Lane.stateAt
    simp only [hf]
    rfl
  unfold Lane.moveTo
  rw [hstate]
  by_cases h : empty
  · simp only [if_pos h]
    rw [parkIf_eq web u (decide empty) (by simp [h])]
  · simp only [if_neg h]
    rw [parkIf_eq web u (decide empty) (by simp [h])]

theorem moveTo_fault {u : Lane} (web : Pos) (st : StationId) (hf : u.faultIn = true) :
    u.moveTo web (some st) = { u with
      drive := parkedDrive web false u ++ [{ kind := .stopAll, start := web, length := 0, follow := .jump }]
      lastFeed := none, pendingFeeds := [], idleRun := 0, station := some st, state := .fault } := by
  have hstate : u.stateAt (some st) = .fault := by
    unfold Lane.stateAt
    simp only [hf]
    rfl
  unfold Lane.moveTo
  rw [hstate]
  dsimp only
  rw [parkIf_eq web u false (by simp), Lane.fail_eq]

theorem applyLane_same {l : LaneId} {target : Option StationId} {c : LaneSettings} {s : State}
    (h : (s.lane l).station = target) : applyLane l target c s = s.setLane l { s.lane l with set := c } := by
  unfold applyLane
  dsimp only
  rw [State.modLane_lane, if_pos h]
  rfl

/-- The lane moved, and FOIL_OUT gone from its old station. -/
def State.moved (s : State) (l : LaneId) (target : Option StationId) (c : LaneSettings) : State :=
  leavesFoilOut (s.lane l).station (s.setLane l (({ s.lane l with set := c } : Lane).moveTo s.web target))

/-- What a lane that has moved to a station finds there. -/
def State.arrived (s : State) (l : LaneId) : Option StationId → State
  | none => s
  | some st => arrive l st s

theorem changeStation_eq (l : LaneId) (target : Option StationId) (s : State) :
    changeStation l target s =
      (leavesFoilOut (s.lane l).station (s.modLane l (Lane.moveTo s.web target))).arrived l target := by
  unfold changeStation
  cases (s.lane l).station <;> cases target <;> simp only [dropFoilOut_eq] <;> rfl

/-- A lane whose station changes is moved, FOIL_OUT leaves its old station, and it brings its cause to the new one. -/
theorem applyLane_moved {l : LaneId} {target : Option StationId} {c : LaneSettings} {s : State}
    (h : (s.lane l).station ≠ target) : applyLane l target c s = (s.moved l target c).arrived l target := by
  have hset : ((s.modLane l fun u => { u with set := c }).lane l).station = (s.lane l).station := by
    rw [State.modLane_lane]
  have hmove : (s.modLane l fun u => { u with set := c }).modLane l
      (Lane.moveTo (s.modLane l fun u => { u with set := c }).web target) =
      s.setLane l (({ s.lane l with set := c } : Lane).moveTo s.web target) := State.modLane_setLane ..
  unfold applyLane
  dsimp only
  rw [hset, if_neg h, changeStation_eq, hset, hmove]
  rfl

theorem moved_lane (s : State) (l : LaneId) (target : Option StationId) (c : LaneSettings) :
    (s.moved l target c).lane l = ({ s.lane l with set := c } : Lane).moveTo s.web target :=
  (leavesFoilOut_lane ..).trans (State.setLane_lane_self ..)

theorem arrive_empty {l : LaneId} {st : StationId} {s : State} (h : (s.lane l).state = .empty) :
    arrive l st s = entersFoilOut st s := by
  rw [arrive, h, addSoft_foilOut]

theorem arrive_fault {l : LaneId} {st : StationId} {s : State} (h : (s.lane l).state = .fault) :
    arrive l st s = addHard .foilDrive st (raiseEvent .foilDriveFault l.number st.number s) := by
  rw [arrive, h, raiseDriveFault]

theorem arrive_parked {l : LaneId} {st : StationId} {s : State} (h : (s.lane l).state = .parked) :
    arrive l st s = s := by
  rw [arrive, h]

section

variable {s : State} {p : List Octet} {l : LaneId}

theorem reqSetupLane_noLane (h : LaneId.ofNumber (u8 p 0) = none) : reqSetupLane p s = refuse .badValue s := by
  rw [reqSetupLane, h]

theorem reqSetupLane_busy (hl : LaneId.ofNumber (u8 p 0) = some l) (h : s.job.state ≠ .none) :
    reqSetupLane p s = refuse .busy s := by
  rw [reqSetupLane, hl]
  exact if_pos h

theorem reqSetupLane_badValue (hl : LaneId.ofNumber (u8 p 0) = some l) (hj : s.job.state = .none)
    (h : u8 p 1 ≤ 4 → (laneFields p).parkValid = false ∨ s.refusesLane l (StationId.ofNumber (u8 p 1)) = true) :
    reqSetupLane p s = refuse .badValue s := by
  rw [reqSetupLane, hl]
  dsimp only
  rw [if_neg (not_not.mpr hj)]
  rcases Nat.lt_or_ge 4 (u8 p 1) with hgt | hle
  · rw [laneStationOf_of_gt hgt]
  · rw [laneStationOf_of_le hle]
    exact if_pos (h hle)

theorem reqSetupLane_accepted (hl : LaneId.ofNumber (u8 p 0) = some l) (hj : s.job.state = .none) (hle : u8 p 1 ≤ 4)
    (h : ¬ ((laneFields p).parkValid = false ∨ s.refusesLane l (StationId.ofNumber (u8 p 1)) = true)) :
    reqSetupLane p s =
      let t := applyLane l (StationId.ofNumber (u8 p 1)) (laneFields p).clamped s
      accept (okOr ((laneFields p).clamped != laneFields p)) (laneOctets l (t.lane l)) t := by
  rw [reqSetupLane, hl]
  dsimp only
  rw [if_neg (not_not.mpr hj), laneStationOf_of_le hle]
  exact if_neg h

end

/-- A hard cause changes nothing of the control link. -/
theorem addHard_link (c : Cause) (st : StationId) (s : State) : (addHard c st s).link = s.link := by
  obtain ⟨_, _, _, hframe⟩ := addHard_frame c st s
  rw [hframe]

theorem LaneSettings.clamped_eq_iff (c : LaneSettings) :
    c.clamped = c ↔ c.clamped.leadMargin = c.leadMargin ∧ c.clamped.tailMargin = c.tailMargin ∧
      c.clamped.jumpThreshold = c.jumpThreshold ∧ c.clamped.jumpMs = c.jumpMs ∧ c.clamped.wakeMs = c.wakeMs ∧
      c.clamped.lowThreshold = c.lowThreshold := by
  have hpark : c.clamped.parkAfter = c.parkAfter := rfl
  constructor
  · intro h
    rw [h]
    exact ⟨rfl, rfl, rfl, rfl, rfl, rfl⟩
  · rintro ⟨h1, h2, h3, h4, h5, h6⟩
    generalize c.clamped = v at *
    obtain ⟨_, _, _, _, _, _, _⟩ := v
    obtain ⟨_, _, _, _, _, _, _⟩ := c
    simp_all

/-! ### LOAD SPOOL (R132) -/

theorem exec_loadSpool (tag : Octet) (p : List Octet) (s : State) :
    exec (.loadSpool tag p) s = request .loadSpool tag p s := rfl

theorem Lane.load_eq (web : Pos) (length : Nat) (u : Lane) :
    let empties : Bool := length == 0 && u.state != .empty
    u.load web length = { u with
      drive := parkedDrive web empties u
      lastFeed := if u.state = .active ∨ empties then none else u.lastFeed
      loaded := length, used := 0, saved := 0, lowWarned := false
      state := if length = 0 then .empty else .parked } := by
  intro empties
  have hpark : (u.state = .active ∨ (length = 0 ∧ u.state ≠ .empty)) ↔ (u.state = .active ∨ empties = true) := by
    simp [empties]
  have hstate : (if 0 < length then LaneState.parked else .empty) = if length = 0 then .empty else .parked := by
    rcases Nat.eq_zero_or_pos length with rfl | h
    · rfl
    · rw [if_pos h, if_neg (Nat.pos_iff_ne_zero.mp h)]
  unfold Lane.load
  dsimp only
  rw [parkIf_eq web u empties hpark, hstate]
  simp only [hpark]

section

variable {s : State} {n a b c d : Octet} {l : LaneId}

theorem reqLoadSpool_badValue (h : LaneId.ofNumber n.toNat = none ∨ 400000000 < u32 [n, a, b, c, d] 1) :
    reqLoadSpool [n, a, b, c, d] s = refuse .badValue s := by
  have hn : u8 [n, a, b, c, d] 0 = n.toNat := rfl
  unfold reqLoadSpool
  rw [hn]
  cases hl : LaneId.ofNumber n.toNat with
  | none => rfl
  | some l => exact if_pos (h.resolve_left (by simp [hl]))

theorem reqLoadSpool_notReady (hl : LaneId.ofNumber n.toNat = some l) (hlen : u32 [n, a, b, c, d] 1 ≤ 400000000)
    (h : (s.lane l).state = .unassigned ∨ (s.lane l).state = .fault) :
    reqLoadSpool [n, a, b, c, d] s = refuse .notReady s := by
  have hn : u8 [n, a, b, c, d] 0 = n.toNat := rfl
  unfold reqLoadSpool
  rw [hn, hl]
  dsimp only
  rw [if_neg (Nat.not_lt.mpr hlen)]
  rcases h with h | h <;> rw [h] <;> cases (s.lane l).station <;> rfl

theorem reqLoadSpool_accepted {st : StationId} (hl : LaneId.ofNumber n.toNat = some l)
    (hlen : u32 [n, a, b, c, d] 1 ≤ 400000000) (hst : (s.lane l).station = some st)
    (hu : (s.lane l).state ≠ .unassigned) (hf : (s.lane l).state ≠ .fault) :
    reqLoadSpool [n, a, b, c, d] s =
      let t := applySpool l st (u32 [n, a, b, c, d] 1) s
      accept .ok (spoolOctets (t.lane l) ++ octets 1 (t.lane l).state.code) t := by
  have hn : u8 [n, a, b, c, d] 0 = n.toNat := rfl
  unfold reqLoadSpool
  rw [hn, hl]
  dsimp only
  rw [if_neg (Nat.not_lt.mpr hlen), hst]
  cases h : (s.lane l).state
  case unassigned => exact absurd h hu
  case fault => exact absurd h hf
  all_goals rfl

end

/-- The spool account starts again, and FOIL_OUT follows the lane. -/
theorem applySpool_eq (l : LaneId) (st : StationId) (length : Nat) (s : State) :
    applySpool l st length s =
      let t := s.setLane l ((s.lane l).load s.web length)
      if length = 0 then entersFoilOut st t else leavesFoilOut (some st) t := by
  unfold applySpool
  dsimp only
  rw [dropFoilOut_eq]
  rfl

end Sys2Proof.Machine

namespace Sys2Proof.Proofs

open Sys2Proof.Machine

/-- Settles O56, by what an input that becomes active does to a running lane. -/
theorem driveFaultStopsTheLane : Obligations.DriveFaultStopsTheLane := by
  intro s l level u rises runs
  refine ⟨fun h => ?_, fun st hrise hruns hst => ?_⟩
  · exact congrArg Host.Outcome.next (driveFault_level h)
  · exact congrArg Host.Outcome.next ((driveFault_faults hrise hst hruns).trans (laneFaults_eq ..))

/-- Settles O35, by what an accepted spool makes of the lane. -/
theorem loadSpoolStartsTheAccount : Obligations.LoadSpoolStartsTheAccount := by
  intro s tag n a b c d h length
  rw [exec_loadSpool]
  refine ⟨fun hbad => request_refused (st := .badValue) h rfl (reqLoadSpool_badValue hbad), fun l hl hlen => ?_⟩
  intro u
  refine ⟨fun hu => request_refused (st := .notReady) h rfl (reqLoadSpool_notReady hl hlen hu),
    fun st hst hu hf => ?_⟩
  intro empties v t
  have hload : u.load s.web length = v := u.load_eq s.web length
  have hspool : applySpool l st length s = t := by rw [applySpool_eq, hload]
  have hframe : t.lane l = v ∧ t.link = s.link := by
    by_cases hzero : length = 0
    · simp only [t, if_pos hzero]
      exact ⟨(entersFoilOut_lane ..).trans (State.setLane_lane_self ..), entersFoilOut_link ..⟩
    · simp only [t, if_neg hzero]
      exact ⟨(leavesFoilOut_lane ..).trans (State.setLane_lane_self ..), leavesFoilOut_link ..⟩
  have hreply : spoolOctets v = octets 4 length ++ octets 4 0 ++ octets 4 length ++ octets 4 0 := rfl
  have hcarry := reqLoadSpool_accepted (a := a) (b := b) (c := c) (d := d) hl hlen hst hu hf
  dsimp only at hcarry
  rw [hspool, hframe.1, hreply] at hcarry
  exact request_accepted (k := .loadSpool) (p := [n, a, b, c, d]) h rfl hcarry hframe.2

/-- Settles O34, by what a lane that moves becomes, and what it brings to its new station. -/
theorem setupLaneAssignsTheLane : Obligations.SetupLaneAssignsTheLane := by
  intro s tag p h hlen
  have hfits : lengthFits .setupLane p = true := lengthFits_of_fixedLength (by rw [hlen]; rfl)
  rw [exec_setupLane]
  refine ⟨fun hl => request_refused (st := .badValue) h hfits (reqSetupLane_noLane hl), fun l hl => ?_⟩
  intro parkValid takes target accepted c kept u reply
  have hvalid : (laneFields p).parkValid = false ↔ ¬ parkValid := by
    rw [← Bool.not_eq_true, LaneSettings.parkValid_iff]
    rfl
  have htakes : s.refusesLane l target = true ↔ ¬ ∀ st, target = some st → takes st := refusesLane_iff s l target
  have hclamped : (laneFields p).clamped = c := LaneSettings.clamped_eq _
  have hkept : c = laneFields p ↔ kept := by
    rw [← hclamped, LaneSettings.clamped_eq_iff, hclamped]
    rfl
  have hstatus : statusCode (okOr (c != laneFields p)) = if kept then 0x00 else 0x01 := by
    rw [statusCode_okOr]
    by_cases hk : kept
    · rw [if_pos hk, if_neg (by rw [hkept.mpr hk, bne_self_eq_false]; decide)]
    · rw [if_neg hk, if_pos (bne_iff_ne.mpr (mt hkept.mp hk))]
  have answered (hacc : accepted) (t : State) (ht : applyLane l target c s = t)
      (hr : t.link.resetPending = s.link.resetPending) :
      request .setupLane tag p s = .next (t.replied .setupLane tag (reply t)) := by
    obtain ⟨hj, hle, hpark, hall⟩ := hacc
    refine request_answered h hfits ((reqSetupLane_accepted hl hj hle ?_).trans ?_) hr
    · rw [hvalid, htakes]
      exact not_or.mpr ⟨not_not.mpr hpark, not_not.mpr hall⟩
    · rw [hclamped, ht, accept, hstatus]
  refine ⟨fun hj => request_refused (st := .busy) h hfits (reqSetupLane_busy hl hj), fun hj hnot => ?_,
    fun hacc hsame => ?_, fun hacc hmoves hnone => ?_, fun st hacc hmoves hst hf => ?_, fun st hacc hmoves hst hf => ?_⟩
  · refine request_refused (st := .badValue) h hfits (reqSetupLane_badValue hl hj fun hle => ?_)
    rw [hvalid, htakes, ← not_and_or]
    exact fun hok => hnot ⟨hj, hle, hok.1, hok.2⟩
  · exact answered hacc _ (applyLane_same hsame) rfl
  · refine answered hacc _ ?_ (by rw [leavesFoilOut_link]; rfl)
    rw [applyLane_moved hmoves, hnone, State.arrived, State.moved, moveTo_none]
    rfl
  · intro empty v left t
    have hlane := moved_lane s l (some st) c
    have hv : ({ s.lane l with set := c } : Lane).moveTo s.web (some st) = v :=
      moveTo_some (u := { s.lane l with set := c }) s.web st hf
    have hmoved : s.moved l (some st) c = left := by
      rw [State.moved, hv]
    rw [hmoved, hv] at hlane
    have hbrings : arrive l st left = t := by
      by_cases he : empty
      · simp only [t, if_pos he]
        exact arrive_empty (by rw [hlane]; exact if_pos he)
      · simp only [t, if_neg he]
        exact arrive_parked (by rw [hlane]; exact if_neg he)
    refine answered hacc _ ?_ ?_
    · rw [applyLane_moved hmoves, hst, hmoved]
      exact hbrings
    · by_cases he : empty
      · simp only [t, if_pos he]
        rw [entersFoilOut_link, leavesFoilOut_link]
        rfl
      · simp only [t, if_neg he]
        rw [leavesFoilOut_link]
        rfl
  · intro t
    have hlane := moved_lane s l (some st) c
    have hv := moveTo_fault (u := { s.lane l with set := c }) s.web st hf
    rw [hv] at hlane
    refine answered hacc _ ?_ (by rw [addHard_link, raiseEvent_resetPending, leavesFoilOut_link]; rfl)
    rw [applyLane_moved hmoves, hst, State.arrived, arrive_fault (by rw [hlane]), State.moved, hv]
    rfl

end Sys2Proof.Proofs
end

section

/-!
## Heat zones: their inputs, and SETUP HEAT

What a zone's change, its fault and its band test make of its station, and the request that configures it.
-/

namespace Sys2Proof.Machine

/-! ### One station replaced -/

theorem State.modStation_setStation (s : State) (st : StationId) (u : Station) (f : Station → Station) :
    (s.setStation st u).modStation st f = s.setStation st (f u) := by
  have hst : (s.setStation st u).station st = u := PerStation.get_put_self ..
  unfold State.modStation
  rw [hst, State.setStation, State.setStation, State.setStation, PerStation.put_put]

theorem State.setStation_station_self (s : State) (st : StationId) (u : Station) : (s.setStation st u).station st = u :=
  PerStation.get_put_self ..

/-! ### A zone's change, with THERMAL following it (R95) -/

/-- A station whose zone is replaced. -/
def Station.zoned (u : Station) (z : HeatZone) : Station :=
  { u with zone := z
           hold := { u.hold with thermal := if z.holds then u.hold.thermal || u.setup.enabled else false } }

theorem setZone_eq_zoned (st : StationId) (z : HeatZone) (s : State) :
    setZone st z s = s.setStation st ((s.station st).zoned z) := by
  rw [setZone_eq, State.modStation, Station.zoned]
  cases hz : z.holds <;> cases he : (s.station st).setup.enabled <;> simp

theorem setZone_setStation (st : StationId) (u : Station) (z : HeatZone) (s : State) :
    setZone st z (s.setStation st u) = s.setStation st (u.zoned z) := by
  rw [setZone_eq_zoned, State.setStation_station_self, State.setStation, State.setStation, State.setStation,
    PerStation.put_put]

theorem Station.zoned_of_holds {u : Station} {z : HeatZone} (h : z.holds = true) :
    u.zoned z = { u with zone := z, hold := { u.hold with thermal := u.hold.thermal || u.setup.enabled } } := by
  rw [Station.zoned, h]
  rfl

theorem Station.zoned_of_not_holds {u : Station} {z : HeatZone} (h : z.holds = false) :
    u.zoned z = { u with zone := z, hold := { u.hold with thermal := false } } := by
  rw [Station.zoned, h]
  rfl

/-- A zone of a station replaced faults (R141). -/
theorem zoneFaults_setStation (st : StationId) (cause : Nat) (u : Station) (s : State) :
    zoneFaults st cause (s.setStation st u) =
      addHard .heatFault st ((raiseEvent .heatFault st.number cause (s.setStation st { u with
        zone := { u.zone with heater := false, soakTimer := none, state := .fault } })).modStation st fun u =>
          { u with hold := { u.hold with thermal := false } }) := by
  unfold zoneFaults
  dsimp only
  rw [State.modStation_setStation, State.setStation_station_self]
  rfl

theorem heatReady_setStation (st : StationId) (u : Station) (s : State) :
    heatReady st (s.setStation st u) =
      raiseEvent .heatReady st.number (min 65535 u.zone.latest.toNat) (s.setStation st u) := by
  rw [heatReady, State.setStation_station_self, sat16, Nat.min_comm]
  rfl

/-! ### The temperature sample (R139, R140) -/

theorem HeatZone.regulate_eq (z : HeatZone) (mode : PressMode) (x : Int) :
    z.regulate mode x = { z with heater :=
      let target : Int := if mode = .standby then z.set.standbySp else z.set.sp
      if x < target - z.set.hysteresis then true else if target ≤ x then false else z.heater } := by
  have htarget : z.target mode = if mode = .standby then (z.set.standbySp : Int) else z.set.sp := by
    cases mode <;> rfl
  unfold HeatZone.regulate
  dsimp only
  rw [htarget]
  generalize (if mode = .standby then (z.set.standbySp : Int) else z.set.sp) = target
  by_cases hlow : x < target - z.set.hysteresis
  · simp only [if_pos hlow]
  · by_cases hhigh : target ≤ x
    · simp only [if_neg hlow, if_pos hhigh]
    · simp only [if_neg hlow, if_neg hhigh]

/-- The state a zone that runs has after the band test (R140). -/
def HeatZone.tested (z : HeatZone) (x : Int) : ZoneState :=
  let inBand : Prop := (x - z.set.sp).natAbs ≤ z.set.band
  if z.state = .heating then (if inBand then (if z.set.soak = 0 then .ready else .soaking) else .heating)
  else if z.state = .soaking then (if inBand then .soaking else .heating)
  else if inBand then .ready else .drift

/-- Its soak timer. -/
def HeatZone.testedTimer (z : HeatZone) (x : Int) : Option Nat :=
  let inBand : Prop := (x - z.set.sp).natAbs ≤ z.set.band
  if z.state = .heating ∧ inBand ∧ z.set.soak ≠ 0 then some (z.set.soak * 1000)
  else if z.state = .soaking ∧ ¬ inBand then none else z.soakTimer

theorem bandTest_eq {st : StationId} {z : HeatZone} {x : Int} (s : State) (hoff : z.state ≠ .off)
    (hfault : z.state ≠ .fault) :
    bandTest st z x s =
      let t := setZone st { z with state := z.tested x, soakTimer := z.testedTimer x } s
      if z.state = .heating ∧ z.tested x = .ready then heatReady st t else t := by
  obtain ⟨enabled, set, state, latest, heater, soakTimer, faultIn⟩ := z
  by_cases hband : (x - set.sp).natAbs ≤ set.band <;> cases state
  case pos.heating =>
    by_cases hsoak : set.soak = 0 <;> simp [bandTest, HeatZone.inBand, HeatZone.tested, HeatZone.testedTimer, hband, hsoak]
  case pos.off | neg.off => exact absurd rfl hoff
  case pos.fault | neg.fault => exact absurd rfl hfault
  all_goals simp [bandTest, HeatZone.inBand, HeatZone.tested, HeatZone.testedTimer, HeatZone.reheat, hband]

theorem HeatZone.tested_holds {z : HeatZone} {x : Int} (he : z.enabled = true) (t : Option Nat) :
    ({ z with state := z.tested x, soakTimer := t } : HeatZone).holds = decide (z.tested x ≠ .ready) := by
  have hfault : z.tested x ≠ .fault := by
    unfold HeatZone.tested
    dsimp only
    split_ifs <;> decide
  simp [HeatZone.holds, he, hfault, bne, beq_eq_decide]

theorem exec_temperatureSample (st : StationId) (sample : BitVec 16) (s : State) :
    exec (.temperatureSample st sample) s = .next (temperatureSample st sample.toInt s) := rfl

section

variable {s : State} {st : StationId} {x : Int}

/-- A sample at a zone that is disabled, in OFF or in FAULT is only kept. -/
theorem temperatureSample_kept
    (h : ¬ ((s.station st).zone.enabled = true ∧ (s.station st).zone.state ≠ .off ∧ (s.station st).zone.state ≠ .fault)) :
    temperatureSample st x s =
      s.setStation st { s.station st with zone := { (s.station st).zone with latest := x } } := by
  refine if_pos ?_
  simp only [Bool.or_eq_true, Bool.not_eq_true', beq_iff_eq]
  grind

variable (h : (s.station st).zone.enabled = true ∧ (s.station st).zone.state ≠ .off ∧ (s.station st).zone.state ≠ .fault)

include h

theorem not_kept :
    ¬ ((!(s.station st).zone.enabled || (s.station st).zone.state == .off || (s.station st).zone.state == .fault) =
      true) := by
  obtain ⟨he, hoff, hfault⟩ := h
  simp [he, hoff, hfault]

theorem temperatureSample_overtemp
    (hx : ((s.station st).zone.set.sp : Int) + (s.station st).zone.set.margin < x) :
    temperatureSample st x s = zoneFaults st 1
      (s.setStation st { s.station st with zone := { (s.station st).zone with latest := x } }) :=
  (if_neg (not_kept h)).trans (if_pos hx)

theorem temperatureSample_standby (hx : x ≤ ((s.station st).zone.set.sp : Int) + (s.station st).zone.set.margin)
    (hmode : s.mode = .standby) :
    temperatureSample st x s =
      s.setStation st { s.station st with
        zone := ({ (s.station st).zone with latest := x } : HeatZone).regulate s.mode x } := by
  refine ((if_neg (not_kept h)).trans (if_neg (Int.not_lt.mpr hx))).trans ?_
  have hm : (s.modStation st fun u => { u with zone := { (s.station st).zone with latest := x } }).mode = .standby :=
    hmode
  rw [hm, hmode]
  exact State.modStation_setStation ..

theorem temperatureSample_tested (hx : x ≤ ((s.station st).zone.set.sp : Int) + (s.station st).zone.set.margin)
    (hmode : s.mode ≠ .standby) :
    temperatureSample st x s =
      bandTest st (({ (s.station st).zone with latest := x } : HeatZone).regulate s.mode x) x
        (s.setStation st { s.station st with zone := { (s.station st).zone with latest := x } }) := by
  refine ((if_neg (not_kept h)).trans (if_neg (Int.not_lt.mpr hx))).trans ?_
  split
  · next hm => exact absurd hm hmode
  · rfl

end

/-! ### The sensor fault input and the soak timer (R140, R141) -/

theorem exec_sensorFaultInput (st : StationId) (level : Bool) (s : State) :
    exec (.sensorFaultInput st level) s = .next (sensorFault st level s) := rfl

theorem sensorRises_iff (z : HeatZone) (level : Bool) :
    (level && !z.faultIn && z.enabled && z.state != .fault) = true ↔
      level = true ∧ z.faultIn = false ∧ z.enabled = true ∧ z.state ≠ .fault := by
  simp [and_assoc]

theorem sensorFault_faults {s : State} {st : StationId} {level : Bool}
    (h : level = true ∧ (s.station st).zone.faultIn = false ∧ (s.station st).zone.enabled = true ∧
      (s.station st).zone.state ≠ .fault) :
    sensorFault st level s = zoneFaults st 2
      (s.setStation st { s.station st with zone := { (s.station st).zone with faultIn := true } }) := by
  obtain ⟨rfl, -⟩ := id h
  exact if_pos ((sensorRises_iff _ _).mpr h)

theorem sensorFault_kept {s : State} {st : StationId} {level : Bool}
    (h : level = false ∨ (s.station st).zone.faultIn = true ∨ (s.station st).zone.enabled = false ∨
      (s.station st).zone.state = .fault) :
    sensorFault st level s =
      s.setStation st { s.station st with zone := { (s.station st).zone with faultIn := level } } := by
  refine if_neg fun hrises => ?_
  obtain ⟨hl, hf, he, hs⟩ := (sensorRises_iff _ _).mp hrises
  simp [hl, hf, he, hs] at h

theorem exec_soakTimerExpiry (st : StationId) (s : State) :
    exec (.soakTimerExpiry st) s = .next (soakExpired st s) := rfl

/-! ### SETUP HEAT (R144, R145) -/

theorem exec_setupHeat (tag : Octet) (p : List Octet) (s : State) :
    exec (.setupHeat tag p) s = request .setupHeat tag p s := rfl

theorem heatFields_eq (p : List Octet) :
    let sp := min 2500 (i16 p 2).toNat
    heatFields p = {
      sp := sp, standbySp := min sp (i16 p 4).toNat, band := max 5 (min 200 (u16 p 6)),
      hysteresis := max 2 (min 100 (u16 p 8)), margin := max 20 (min 500 (u16 p 10)), soak := min 600 (u16 p 12) } := by
  simp [heatFields, clampNat, nonNegative]

theorem heatClamped_iff (p : List Octet) :
    heatClamped p = true ↔ ¬ (i16 p 2 = (heatFields p).sp ∧ i16 p 4 = (heatFields p).standbySp ∧
      u16 p 6 = (heatFields p).band ∧ u16 p 8 = (heatFields p).hysteresis ∧ u16 p 10 = (heatFields p).margin ∧
      u16 p 12 = (heatFields p).soak) := by
  simp only [heatClamped, Bool.or_eq_true, bne_iff_ne, not_and_or, or_assoc, ne_eq,
    @eq_comm Int (i16 p _), @eq_comm Nat (u16 p _)]

/-- What SETUP HEAT's reply says of the zone it leaves (section 10.4). -/
def heatReply (st : StationId) (z : HeatZone) : List Octet :=
  octets 1 st.number ++ flagOctet z.enabled ++ heatOctets z.set ++ octets 1 z.state.code ++
    signedOctets 2 z.latest ++ flagOctet z.heater

section

variable {s : State} {p : List Octet} {st : StationId}

theorem reqSetupHeat_badValue (h : StationId.ofNumber (u8 p 0) = none ∨ 1 < u8 p 1) :
    reqSetupHeat p s = refuse .badValue s := by
  unfold reqSetupHeat
  cases hst : StationId.ofNumber (u8 p 0) with
  | none => rfl
  | some st => exact if_pos (h.resolve_left (by simp [hst]))

theorem reqSetupHeat_accepted (hst : StationId.ofNumber (u8 p 0) = some st) (hle : u8 p 1 ≤ 1) :
    reqSetupHeat p s =
      let t := applyHeat st (flagAt p 1) (heatFields p) s
      accept (okOr (heatClamped p)) (heatReply st (t.station st).zone) t := by
  unfold reqSetupHeat
  rw [hst]
  exact if_neg (Nat.not_lt.mpr hle)

variable {h : HeatSettings} {enabled : Bool}

theorem applyHeat_same (he : (s.station st).zone.enabled = enabled) :
    applyHeat st enabled h s =
      s.setStation st { s.station st with zone := { (s.station st).zone with set := h } } := by
  subst he
  unfold applyHeat
  dsimp only
  split <;> simp_all [State.modStation]

theorem applyHeat_off (he : (s.station st).zone.enabled = true) :
    applyHeat st false h s = s.setStation st { s.station st with
      zone := { (s.station st).zone with enabled := false, set := h, state := .off, heater := false, soakTimer := none }
      hold := { (s.station st).hold with thermal := false } } := by
  unfold applyHeat
  simp only [he]
  rw [setZone_eq_zoned, Station.zoned_of_not_holds rfl]

theorem applyHeat_on (he : (s.station st).zone.enabled = false) (hf : (s.station st).zone.faultIn = false) :
    applyHeat st true h s = s.setStation st { s.station st with
      zone := { (s.station st).zone with
        enabled := true, set := h, state := .heating, heater := false, soakTimer := none }
      hold := { (s.station st).hold with thermal := (s.station st).hold.thermal || (s.station st).setup.enabled } } := by
  unfold applyHeat
  simp only [he, hf]
  refine (if_neg (by decide)).trans ?_
  rw [setZone_eq_zoned, Station.zoned_of_holds rfl]

theorem applyHeat_fault (he : (s.station st).zone.enabled = false) (hf : (s.station st).zone.faultIn = true) :
    applyHeat st true h s = zoneFaults st 2 (s.setStation st { s.station st with
      zone := { (s.station st).zone with
        enabled := true, set := h, state := .heating, heater := false, soakTimer := none } }) := by
  unfold applyHeat
  dsimp only
  rw [he]
  exact if_pos hf

/-- A hard cause leaves every station's zone. -/
theorem addHard_zone (c : Cause) (st st' : StationId) (s : State) :
    ((addHard c st s).station st').zone = (s.station st').zone := by
  rw [addHard_station]
  split
  · next h => rw [Station.struckBy_zone, h.1]
  · rfl

end

end Sys2Proof.Machine

namespace Sys2Proof.Proofs

open Sys2Proof.Machine

/-- Settles O57, by what the sample, the sensor input and the soak timer each make of the zone. -/
theorem heatZoneFollowsItsInputs : Obligations.HeatZoneFollowsItsInputs := by
  intro s st sample level u z x live faulted target heater inBand state soakTimer
  have hfaults (z' : HeatZone) (cause : Nat) :
      zoneFaults st cause (s.setStation st { u with zone := z' }) = faulted z' cause :=
    zoneFaults_setStation st cause _ s
  have hregulate : ({ z with latest := x } : HeatZone).regulate s.mode x = { z with latest := x, heater := heater } :=
    HeatZone.regulate_eq _ _ _
  rw [exec_temperatureSample, exec_sensorFaultInput, exec_soakTimerExpiry]
  refine ⟨fun h => congrArg Host.Outcome.next (temperatureSample_kept h),
    fun h hx => congrArg Host.Outcome.next ((temperatureSample_overtemp h hx).trans (hfaults _ 1)),
    fun h hx hm => ?_, fun h hx hm => ?_, fun hl hf he hs => ?_, fun hno => ?_, fun hs => ?_, fun hs => ?_⟩
  · rw [temperatureSample_standby h hx hm, hregulate]
  · intro t
    have ht : setZone st { z with latest := x, heater := heater, state := state, soakTimer := soakTimer }
        (s.setStation st { u with zone := { z with latest := x } }) = t := by
      have hholds : ({ z with latest := x, heater := heater, state := state, soakTimer := soakTimer } : HeatZone).holds =
          decide (state ≠ .ready) := HeatZone.tested_holds (z := { z with latest := x, heater := heater }) h.1 soakTimer
      have hthermal (b : Bool) : (if decide (state ≠ .ready) = true then b else false) =
          if state = .ready then false else b := by
        by_cases hready : state = .ready <;> simp [hready]
      rw [setZone_setStation, Station.zoned, hholds, hthermal]
    have hrun := (temperatureSample_tested h hx hm).trans
      ((congrArg (fun z => bandTest st z x _) hregulate).trans (bandTest_eq _ h.2.1 h.2.2))
    rw [hrun]
    refine ⟨fun hready => congrArg Host.Outcome.next ((if_pos hready).trans ?_),
      fun hnot => congrArg Host.Outcome.next ((if_neg (not_and_or.mpr hnot)).trans ht)⟩
    exact (congrArg (heatReady st) ht).trans (heatReady_setStation st _ s)
  · have hfault := (sensorFault_faults ⟨hl, hf, he, hs⟩).trans (hfaults { z with faultIn := true } 2)
    exact congrArg Host.Outcome.next hfault
  · exact congrArg Host.Outcome.next (sensorFault_kept hno)
  · have hholds : ({ z with state := .ready, soakTimer := none } : HeatZone).holds = false := by
      simp [HeatZone.holds]
    have hzone : setZone st { z with state := .ready, soakTimer := none } s = s.setStation st { u with
        zone := { z with state := .ready, soakTimer := none }, hold := { u.hold with thermal := false } } :=
      (setZone_eq_zoned ..).trans (congrArg (s.setStation st) (Station.zoned_of_not_holds hholds))
    exact congrArg Host.Outcome.next
      ((if_pos hs).trans ((congrArg (heatReady st) hzone).trans (heatReady_setStation st _ s)))
  · exact congrArg Host.Outcome.next (if_neg hs)

/-- Settles O33, by the enabled flag before and after. -/
theorem setupHeatEnablesTheZone : Obligations.SetupHeatEnablesTheZone := by
  intro s tag p hrest hlen
  have hfits : lengthFits .setupHeat p = true := lengthFits_of_fixedLength (by rw [hlen]; rfl)
  rw [exec_setupHeat]
  refine ⟨fun hbad => request_refused (st := .badValue) hrest hfits (reqSetupHeat_badValue hbad), fun st hst hle => ?_⟩
  intro sp h kept u reply
  have hfields : heatFields p = h := heatFields_eq p
  have hkept : heatClamped p = true ↔ ¬ kept := by
    rw [heatClamped_iff, hfields]
  have hstatus : statusCode (okOr (heatClamped p)) = if kept then 0x00 else 0x01 := by
    rw [statusCode_okOr]
    by_cases hk : kept
    · rw [if_pos hk, if_neg (mt hkept.mp (not_not.mpr hk))]
    · rw [if_neg hk, if_pos (hkept.mpr hk)]
  have answered {e : Bool} (he : flagAt p 1 = e) (t : State) (ht : applyHeat st e h s = t) (z : HeatZone)
      (hz : (t.station st).zone = z) (hset : z.set = h) (henabled : flagOctet z.enabled = octets 1 (u8 p 1))
      (hr : t.link.resetPending = s.link.resetPending) :
      request .setupHeat tag p s = .next (t.replied .setupHeat tag (reply z)) := by
    refine request_answered hrest hfits ((reqSetupHeat_accepted hst hle).trans ?_) hr
    rw [he, hfields, ht, accept, hstatus, hz, heatReply, heatOctets, hset, henabled]
    simp only [reply, List.append_assoc]
    rfl
  have hflag : flagAt p 1 = (u8 p 1 == 1) := by
    rcases Nat.le_one_iff_eq_zero_or_eq_one.mp hle with h0 | h1
    · rw [flagAt, h0]; rfl
    · rw [flagAt, h1]; rfl
  refine ⟨fun he => ?_, fun he h0 => ?_, fun he h1 hf => ?_, fun he h1 hf => ?_⟩
  · refine answered hflag _ (applyHeat_same he) _ (congrArg Station.zone (State.setStation_station_self ..)) rfl ?_ rfl
    have henabled : u.zone.enabled = (u8 p 1 == 1) := he
    rcases Nat.le_one_iff_eq_zero_or_eq_one.mp hle with h0 | h1
    · rw [henabled, h0]; rfl
    · rw [henabled, h1]; rfl
  · exact answered (hflag.trans (by rw [h0]; rfl)) _ (applyHeat_off he) _
      (congrArg Station.zone (State.setStation_station_self ..)) rfl (by rw [h0]; rfl) rfl
  · exact answered (hflag.trans (by rw [h1]; rfl)) _ (applyHeat_on he hf) _
      (congrArg Station.zone (State.setStation_station_self ..)) rfl (by rw [h1]; rfl) rfl
  · intro z
    refine answered (hflag.trans (by rw [h1]; rfl)) _
      ((applyHeat_fault he hf).trans (zoneFaults_setStation ..)) z ?_ rfl (by rw [h1]; rfl) ?_
    · rw [addHard_zone, State.modStation_station, raiseEvent_station, State.setStation_station_self]
    · rw [addHard_link]
      exact raiseEvent_resetPending ..

end Sys2Proof.Proofs
end

section

/-!
## Stations named: PAUSE, RESUME and CLEAR FAULT

The same change at each station or lane of a list, and what each removal of a hard cause does at one station.
-/

namespace Sys2Proof.Machine

/-! ### The same change at each of a list -/

/-- The same change at each station of a list changes only the stations. -/
theorem overStations_modStation_frame (f : Station → Station) (sts : List StationId) (s : State) :
    { overStations sts (fun st s => s.modStation st f) s with stations := s.stations } = s :=
  overStations_keeps (P := fun t => { t with stations := s.stations } = s) (f := fun st s => s.modStation st f)
    (fun _ _ h => h) sts rfl

theorem overStations_modStation_link (f : Station → Station) (sts : List StationId) (s : State) :
    (overStations sts (fun st s => s.modStation st f) s).link = s.link := by
  have h := congrArg State.link (overStations_modStation_frame f sts s)
  exact h

theorem overStations_modStation_station (f : Station → Station) {sts : List StationId} (hnd : sts.Nodup) (s : State)
    (st : StationId) :
    (overStations sts (fun st s => s.modStation st f) s).station st =
      if st ∈ sts then f (s.station st) else s.station st := by
  unfold overStations
  induction sts generalizing s with
  | nil => simp
  | cons x xs ih =>
    obtain ⟨hx, hxs⟩ := List.nodup_cons.mp hnd
    rw [List.foldl_cons, ih hxs]
    by_cases h : st = x
    · subst h
      simp [hx]
    · simp [h, State.modStation_station_of_ne s h f]

theorem overLanes_modLane_lane (f : Lane → Lane) {ls : List LaneId} (hnd : ls.Nodup) (s : State) (l : LaneId) :
    (overLanes ls (fun l s => s.modLane l f) s).lane l = if l ∈ ls then f (s.lane l) else s.lane l := by
  unfold overLanes
  induction ls generalizing s with
  | nil => simp
  | cons x xs ih =>
    obtain ⟨hx, hxs⟩ := List.nodup_cons.mp hnd
    rw [List.foldl_cons, ih hxs]
    by_cases h : l = x
    · subst h
      simp [hx]
    · simp [h, State.modLane_lane_of_ne s h f]

theorem lanesOf_nodup (s : State) (st : StationId) : (s.lanesOf st).Nodup :=
  List.Nodup.filter _ (by decide)

/-! ### The stations a request names (R98, R99) -/

/-- Station numbers up to 4 name one station, or all with 0. -/
theorem stationsNamed_of_le {n : Nat} (h : n ≤ 4) :
    ∃ sts, stationsNamed n = some sts ∧ sts.Nodup ∧ ∀ st : StationId, st ∈ sts ↔ n = 0 ∨ n = st.number := by
  match n, h with
  | 0, _ => exact ⟨allStations, rfl, by decide, fun st => ⟨fun _ => .inl rfl, fun _ => mem_allStations st⟩⟩
  | 1, _ => exact ⟨[.s1], rfl, by decide, fun st => by cases st <;> decide⟩
  | 2, _ => exact ⟨[.s2], rfl, by decide, fun st => by cases st <;> decide⟩
  | 3, _ => exact ⟨[.s3], rfl, by decide, fun st => by cases st <;> decide⟩
  | 4, _ => exact ⟨[.s4], rfl, by decide, fun st => by cases st <;> decide⟩

theorem stationsNamed_of_gt {n : Nat} (h : 4 < n) : stationsNamed n = none := by
  match n, h with
  | n + 5, _ => rfl

/-! ### PAUSE and RESUME (R98) -/

theorem exec_pause (tag : Octet) (p : List Octet) (s : State) : exec (.pause tag p) s = request .pause tag p s := rfl

theorem exec_resume (tag : Octet) (p : List Octet) (s : State) : exec (.resume tag p) s = request .resume tag p s := rfl

theorem holdReply_eq (s : State) :
    holdReply s = octets 2 (s.station .s1).hold.bits ++ octets 2 (s.station .s2).hold.bits ++
      octets 2 (s.station .s3).hold.bits ++ octets 2 (s.station .s4).hold.bits := by
  simp [holdReply, allStations]

theorem pauseAll_eq (sts : List StationId) (s : State) :
    overStations sts (addSoft .pause) s = overStations sts (fun st s => s.modStation st fun u =>
      if u.setup.enabled then { u with hold := { u.hold with pause := true } } else u) s := by
  have hadd : addSoft .pause = fun st s => s.modStation st fun u =>
      if u.setup.enabled then { u with hold := { u.hold with pause := true } } else u :=
    funext fun st => funext fun s => addSoft_eq_modStation .pause st s
  rw [hadd]

theorem resumeAll_eq (sts : List StationId) (s : State) :
    overStations sts (dropCause .pause) s = overStations sts (fun st s => s.modStation st fun u =>
      { u with hold := { u.hold with pause := false } }) s := rfl

section

variable {s : State} {n : Octet} {sts : List StationId}

theorem reqPause_badValue (h : 4 < n.toNat) : reqPause [n] s = refuse .badValue s := by
  have hn : u8 [n] 0 = n.toNat := rfl
  rw [reqPause, hn, stationsNamed_of_gt h]

theorem reqResume_badValue (h : 4 < n.toNat) : reqResume [n] s = refuse .badValue s := by
  have hn : u8 [n] 0 = n.toNat := rfl
  rw [reqResume, hn, stationsNamed_of_gt h]

theorem reqPause_named (h : stationsNamed n.toNat = some sts) :
    reqPause [n] s = if sts.any s.enabled then
      accept .ok (holdReply (overStations sts (addSoft .pause) s)) (overStations sts (addSoft .pause) s)
      else refuse .notReady s := by
  have hn : u8 [n] 0 = n.toNat := rfl
  rw [reqPause, hn, h]

theorem reqResume_named (h : stationsNamed n.toNat = some sts) :
    reqResume [n] s = if n.toNat = 0 ∨ sts.any s.enabled = true then
      accept .ok (holdReply (overStations sts (dropCause .pause) s)) (overStations sts (dropCause .pause) s)
      else refuse .notReady s := by
  have hn : u8 [n] 0 = n.toNat := rfl
  rw [reqResume, hn, h]

end

/-! ### CLEAR FAULT at one station (R99, R134, R142) -/

theorem exec_clearFault (tag : Octet) (p : List Octet) (s : State) :
    exec (.clearFault tag p) s = request .clearFault tag p s := rfl

/-- A zone in FAULT is released (R139, R142). -/
def Station.zoneReleased (u : Station) : Station :=
  if u.zone.state = .fault then u.zoned { u.zone with state := .heating, heater := false } else u

theorem releaseZone_eq (st : StationId) (s : State) :
    releaseZone st s = s.modStation st Station.zoneReleased := by
  unfold releaseZone State.modStation Station.zoneReleased
  dsimp only
  split
  · exact setZone_eq_zoned ..
  · exact (s.modStation_id st).symm

theorem releaseEndedZone_eq (st : StationId) (s : State) :
    (if (s.station st).zone.faultEnded then releaseZone st s else s) =
      s.setStation st (if (s.station st).zone.faultEnded then (s.station st).zoneReleased else s.station st) := by
  split
  · exact releaseZone_eq st s
  · exact (s.modStation_id st).symm

/-- A lane in FAULT is released (R99, R134). -/
def Lane.released (u : Lane) : Lane := if u.state = .fault then { u with state := .parked } else u

/-- REFERENCE leaves a station whose source is no longer in FAULT. -/
def Station.referenceCleared (u : Station) (ok : Bool) : Station :=
  { u with hold := { u.hold with reference := u.hold.reference && !ok } }

/-- ACTUATOR leaves a station whose lifted confirm is active. -/
def Station.actuatorCleared (u : Station) : Station :=
  if u.hold.actuator && u.liftedIn then
    { u with hold := { u.hold with actuator := false }, actuator := .lifted, valve := .lift, stroke := none }
  else u

/-- HEAT_FAULT leaves a station whose zone's condition has ended. -/
def Station.heatCleared (u : Station) : Station :=
  if u.hold.heatFault && u.zone.faultEnded then
    ({ u with hold := { u.hold with heatFault := false } } : Station).zoneReleased
  else u

/-- FOIL_DRIVE leaves a station whose lanes' inputs are inactive. -/
def Station.foilCleared (u : Station) (ok : Bool) : Station :=
  { u with hold := { u.hold with foilDrive := u.hold.foilDrive && !ok } }

/-- TRIM_SAT is cleared. -/
def Station.trimSatCleared (u : Station) : Station := { u with loop := { u.loop with trimSat := false } }

section

variable (st : StationId) (s : State)

theorem clearCause_reference :
    clearCause st .reference s = s.modStation st fun u => u.referenceCleared (s.removable st .reference) := by
  unfold clearCause
  split
  · next h =>
    rw [(Bool.and_eq_true_iff.mp h).2]
    simp [Station.referenceCleared, removalAction, dropCause, HoldSet.put]
  · next h =>
    have hsame : (s.station st).referenceCleared (s.removable st .reference) = s.station st := by
      unfold Station.referenceCleared
      have hkept : ((s.station st).hold.reference && !s.removable st .reference) = (s.station st).hold.reference := by
        cases hh : (s.station st).hold.reference <;> simp_all [HoldSet.has]
      rw [hkept]
    rw [State.modStation, hsame]
    exact (s.modStation_id st).symm

theorem clearCause_actuator : clearCause st .actuator s = s.modStation st Station.actuatorCleared := by
  unfold clearCause State.modStation Station.actuatorCleared
  by_cases h : ((s.station st).hold.actuator && (s.station st).liftedIn) = true
  · rw [if_pos h]
    refine (if_pos h).trans ?_
    simp [removalAction, dropCause, State.modStation_modStation, HoldSet.put]
    rfl
  · rw [if_neg h]
    exact (if_neg h).trans (s.modStation_id st).symm

theorem clearCause_heatFault : clearCause st .heatFault s = s.modStation st Station.heatCleared := by
  unfold clearCause State.modStation Station.heatCleared
  by_cases h : ((s.station st).hold.heatFault && (s.station st).zone.faultEnded) = true
  · rw [if_pos h]
    refine (if_pos h).trans ?_
    rw [removalAction, releaseZone_eq, dropCause, State.modStation_modStation]
    rfl
  · rw [if_neg h]
    exact (if_neg h).trans (s.modStation_id st).symm

theorem clearCause_foilDrive :
    clearCause st .foilDrive s =
      overLanes (if (s.station st).hold.foilDrive && s.removable st .foilDrive then s.lanesOf st else [])
        (fun l s => s.modLane l Lane.released)
        (s.modStation st fun u => u.foilCleared (s.removable st .foilDrive)) := by
  unfold clearCause
  by_cases h : ((s.station st).hold.foilDrive && s.removable st .foilDrive) = true
  · rw [if_pos h]
    refine (if_pos h).trans ?_
    rw [(Bool.and_eq_true_iff.mp h).2]
    simp only [removalAction, dropCause, HoldSet.put, Station.foilCleared, Bool.not_true, Bool.and_false]
    rfl
  · have hsame : (s.station st).foilCleared (s.removable st .foilDrive) = s.station st := by
      unfold Station.foilCleared
      have hkept : ((s.station st).hold.foilDrive && !s.removable st .foilDrive) = (s.station st).hold.foilDrive := by
        cases hh : (s.station st).hold.foilDrive <;> simp_all
      rw [hkept]
    rw [if_neg h, State.modStation, hsame]
    exact (if_neg h).trans (s.modStation_id st).symm

/-- The station after CLEAR FAULT (R99, R134, R142). -/
def State.clearedStation : Station :=
  let u := s.station st
  (if s.enabled st then
    (u.referenceCleared (s.removable st .reference)).actuatorCleared.heatCleared.foilCleared (s.removable st .foilDrive)
  else if u.zone.faultEnded then u.zoneReleased else u).trimSatCleared

/-- CLEAR FAULT at the station releases the lane (R99, R134). -/
def State.releases (l : LaneId) : Prop :=
  (s.lane l).station = some st ∧ (s.lane l).state = .fault ∧
    ((s.enabled st = true ∧ (s.station st).hold.foilDrive = true ∧ s.removable st .foilDrive = true) ∨
      (s.enabled st = false ∧ (s.lane l).faultIn = false))

/-- The lanes that CLEAR FAULT at the station releases. -/
def State.clearedLanes : List LaneId :=
  if s.enabled st then (if (s.station st).hold.foilDrive && s.removable st .foilDrive then s.lanesOf st else [])
  else (s.lanesOf st).filter fun l => !(s.lane l).faultIn

/-- Lanes released and a station replaced are two changes apart. -/
theorem releaseLanes_setStation (ls : List LaneId) (u : Station) :
    overLanes ls (fun l s => s.modLane l Lane.released) (s.setStation st u) =
      (overLanes ls (fun l s => s.modLane l Lane.released) s).setStation st u := by
  unfold overLanes
  induction ls generalizing s with
  | nil => rfl
  | cons l ls ih => exact ih (s.modLane l Lane.released)

theorem Station.heatCleared_foilDrive (u : Station) : u.heatCleared.hold.foilDrive = u.hold.foilDrive := by
  unfold Station.heatCleared Station.zoneReleased
  split <;> [split; skip] <;> rfl

theorem Station.actuatorCleared_foilDrive (u : Station) : u.actuatorCleared.hold.foilDrive = u.hold.foilDrive := by
  unfold Station.actuatorCleared
  split <;> rfl

theorem releaseLanes_station (ls : List LaneId) :
    (overLanes ls (fun l s => s.modLane l Lane.released) s).station st = s.station st :=
  congrArg (PerStation.get · st) (overLanes_modLane_stations (fun _ => Lane.released) ls s)

theorem clearCauses_eq :
    hardCauses.foldl (fun s c => clearCause st c s) s =
      (overLanes (if (s.station st).hold.foilDrive && s.removable st .foilDrive then s.lanesOf st else [])
        (fun l s => s.modLane l Lane.released) s).setStation st
          (((s.station st).referenceCleared (s.removable st .reference)).actuatorCleared.heatCleared.foilCleared
            (s.removable st .foilDrive)) := by
  let v := ((s.station st).referenceCleared (s.removable st .reference)).actuatorCleared.heatCleared
  have hthree : clearCause st .heatFault (clearCause st .actuator (clearCause st .reference s)) = s.setStation st v := by
    rw [clearCause_reference, clearCause_actuator, clearCause_heatFault, State.modStation_modStation,
      State.modStation_modStation]
    rfl
  have hfold : hardCauses.foldl (fun s c => clearCause st c s) s =
      clearCause st .foilDrive (clearCause st .heatFault (clearCause st .actuator (clearCause st .reference s))) := rfl
  have hfoil : ((s.setStation st v).station st).hold.foilDrive = (s.station st).hold.foilDrive := by
    rw [State.setStation_station_self, Station.heatCleared_foilDrive, Station.actuatorCleared_foilDrive]
    rfl
  rw [hfold, hthree, clearCause_foilDrive, hfoil, State.modStation_setStation, releaseLanes_setStation]
  rfl

theorem clearStation_eq :
    clearStation st s =
      (overLanes (s.clearedLanes st) (fun l s => s.modLane l Lane.released) s).setStation st (s.clearedStation st) := by
  unfold clearStation State.clearedLanes State.clearedStation
  by_cases he : s.enabled st = true
  · simp only [if_pos he]
    rw [clearCauses_eq, State.modStation_setStation]
    rfl
  · simp only [if_neg he]
    have hlanes := releaseLanes_station st s ((s.lanesOf st).filter fun l => !(s.lane l).faultIn)
    have hdisabled : clearDisabled st s =
        (overLanes ((s.lanesOf st).filter fun l => !(s.lane l).faultIn) (fun l s => s.modLane l Lane.released)
          s).setStation st (if (s.station st).zone.faultEnded then (s.station st).zoneReleased else s.station st) := by
      refine (releaseEndedZone_eq st
        (overLanes ((s.lanesOf st).filter fun l => !(s.lane l).faultIn) (fun l s => s.modLane l Lane.released) s)).trans ?_
      rw [hlanes]
    rw [hdisabled, State.modStation_setStation]
    rfl
theorem clearStation_frame : { clearStation st s with stations := s.stations, lanes := s.lanes } = s := by
  obtain ⟨lanes, hlanes⟩ := overLanes_modLane_frame (fun _ => Lane.released) (s.clearedLanes st) s
  rw [clearStation_eq, hlanes]
  rfl

theorem clearStation_station : (clearStation st s).station st = s.clearedStation st := by
  rw [clearStation_eq, State.setStation_station_self]

theorem clearStation_station_of_ne {st' : StationId} (h : st' ≠ st) :
    (clearStation st s).station st' = s.station st' := by
  have hlanes := releaseLanes_station st' s (s.clearedLanes st)
  rw [clearStation_eq, ← hlanes]
  exact PerStation.get_put_of_ne _ h _

theorem clearedLanes_nodup : (s.clearedLanes st).Nodup := by
  unfold State.clearedLanes
  split
  · split
    · exact lanesOf_nodup s st
    · exact List.nodup_nil
  · exact (lanesOf_nodup s st).filter _

theorem clearStation_lane (l : LaneId) :
    (clearStation st s).lane l = if l ∈ s.clearedLanes st then (s.lane l).released else s.lane l := by
  rw [clearStation_eq]
  exact overLanes_modLane_lane Lane.released (clearedLanes_nodup st s) s l

theorem mem_clearedLanes {l : LaneId} :
    l ∈ s.clearedLanes st ↔ (s.lane l).station = some st ∧
      ((s.enabled st = true ∧ (s.station st).hold.foilDrive = true ∧ s.removable st .foilDrive = true) ∨
        (s.enabled st = false ∧ (s.lane l).faultIn = false)) := by
  unfold State.clearedLanes
  cases s.enabled st
  · simp [mem_lanesOf]
  · by_cases h : ((s.station st).hold.foilDrive && s.removable st .foilDrive) = true
    · simp [mem_lanesOf, Bool.and_eq_true_iff.mp h]
    · rw [if_pos rfl, if_neg h]
      rw [Bool.and_eq_true] at h
      simp [h]

theorem clearStation_lane_releases {l : LaneId} (h : s.releases st l) :
    (clearStation st s).lane l = { s.lane l with state := .parked } := by
  obtain ⟨hst, hfault, hwhy⟩ := h
  rw [clearStation_lane, if_pos ((mem_clearedLanes st s).mpr ⟨hst, hwhy⟩)]
  exact if_pos hfault

theorem clearStation_lane_keeps {l : LaneId} (h : ¬ s.releases st l) : (clearStation st s).lane l = s.lane l := by
  rw [clearStation_lane]
  split
  · next hmem =>
    obtain ⟨hst, hwhy⟩ := (mem_clearedLanes st s).mp hmem
    exact if_neg fun hfault => h ⟨hst, hfault, hwhy⟩
  · rfl

/-- What decides about a lane of another station stays as it is. -/
theorem clearStation_lane_station (l : LaneId) :
    ((clearStation st s).lane l).station = (s.lane l).station ∧
      ((clearStation st s).lane l).faultIn = (s.lane l).faultIn := by
  rw [clearStation_lane, Lane.released]
  split <;> [split; skip] <;> exact ⟨rfl, rfl⟩

theorem foilDrive_removable_eq (st' : StationId) :
    s.removable st' .foilDrive = allLanes.all fun l => (s.lane l).station != some st' || !(s.lane l).faultIn := by
  simp [State.removable, State.lanesOf, List.all_filter, bne]

theorem clearStation_removable (st' : StationId) :
    (clearStation st s).removable st' .foilDrive = s.removable st' .foilDrive := by
  simp only [foilDrive_removable_eq, clearStation_lane_station]

theorem clearStation_ref : (clearStation st s).ref = s.ref := by
  have h := congrArg State.ref (clearStation_frame st s)
  exact h

theorem clearStation_clearedStation {st' : StationId} (h : st' ≠ st) :
    (clearStation st s).clearedStation st' = s.clearedStation st' := by
  have href : (clearStation st s).removable st' .reference = s.removable st' .reference := by
    simp only [State.removable, clearStation_ref]
  unfold State.clearedStation State.enabled
  rw [href, clearStation_removable, clearStation_station_of_ne st s h]

theorem clearStation_releases {st' : StationId} (h : st' ≠ st) (l : LaneId) :
    (clearStation st s).releases st' l ↔ s.releases st' l := by
  unfold State.releases State.enabled
  rw [clearStation_station_of_ne st s h, clearStation_removable, (clearStation_lane_station st s l).1,
    (clearStation_lane_station st s l).2]
  refine and_congr_right fun hst => ?_
  rw [clearStation_lane_keeps st s fun hr => h (Option.some.inj (hst.symm.trans hr.1))]

end

/-- CLEAR FAULT at each station of a list: what becomes of the named stations, of the others and of the lanes. -/
theorem clearStations {sts : List StationId} (hnd : sts.Nodup) (s : State) :
    let t := overStations sts clearStation s
    { t with stations := s.stations, lanes := s.lanes } = s ∧
      (∀ st, t.station st = if st ∈ sts then s.clearedStation st else s.station st) ∧
      ∀ l, ((∃ st ∈ sts, s.releases st l) → t.lane l = { s.lane l with state := .parked }) ∧
        ((¬ ∃ st ∈ sts, s.releases st l) → t.lane l = s.lane l) := by
  unfold overStations
  induction sts generalizing s with
  | nil => simp
  | cons x xs ih =>
    obtain ⟨hx, hxs⟩ := List.nodup_cons.mp hnd
    obtain ⟨hframe, hstations, hlanes⟩ := ih hxs (clearStation x s)
    have hne {st : StationId} (h : st ∈ xs) : st ≠ x := fun he => hx (he ▸ h)
    have hrest (l : LaneId) : (∃ st ∈ xs, (clearStation x s).releases st l) ↔ ∃ st ∈ xs, s.releases st l :=
      exists_congr fun st => and_congr_right fun hst => clearStation_releases x s (hne hst) l
    simp only [hrest] at hlanes
    refine ⟨?_, fun st => ?_, fun l => ?_⟩
    · have h := congrArg (fun t : State => { t with stations := s.stations, lanes := s.lanes }) hframe
      exact h.trans (clearStation_frame x s)
    · rw [List.foldl_cons, hstations]
      by_cases hst : st = x
      · subst hst
        rw [if_neg hx, if_pos List.mem_cons_self, clearStation_station]
      · rw [clearStation_station_of_ne x s hst, clearStation_clearedStation x s hst]
        simp [hst]
    · rw [List.foldl_cons, List.exists_mem_cons_iff]
      by_cases hrel : s.releases x l
      · have hlater : ¬ ∃ st ∈ xs, s.releases st l := fun ⟨st, hst, hr⟩ =>
          hne hst (Option.some.inj (hr.1.symm.trans hrel.1))
        rw [(hlanes l).2 hlater]
        exact ⟨fun _ => clearStation_lane_releases x s hrel, fun hno => absurd (.inl hrel) hno⟩
      · have hlane := hlanes l
        rw [clearStation_lane_keeps x s hrel] at hlane
        exact ⟨fun hr => hlane.1 (hr.resolve_left hrel), fun hno => hlane.2 fun hr => hno (.inr hr)⟩
theorem holdsHard_iff (s : State) (st : StationId) :
    s.holdsHard st = true ↔ s.enabled st = true ∧ ((s.station st).hold.reference = true ∨
      (s.station st).hold.actuator = true ∨ (s.station st).hold.heatFault = true ∨
      (s.station st).hold.foilDrive = true) := by
  simp only [State.holdsHard, HoldSet.anyHard, Bool.and_eq_true, Bool.or_eq_true, or_assoc]

theorem anyRemovable_iff (s : State) (st : StationId) :
    s.anyRemovable st = true ↔ s.enabled st = true ∧
      (((s.station st).hold.reference = true ∧ s.removable st .reference = true) ∨
      ((s.station st).hold.actuator = true ∧ (s.station st).liftedIn = true) ∨
      ((s.station st).hold.heatFault = true ∧ (s.station st).zone.faultEnded = true) ∨
      ((s.station st).hold.foilDrive = true ∧ s.removable st .foilDrive = true)) := by
  have hactuator : s.removable st .actuator = (s.station st).liftedIn := rfl
  have hheat : s.removable st .heatFault = (s.station st).zone.faultEnded := rfl
  simp only [State.anyRemovable, hardCauses, List.any_cons, List.any_nil, Bool.or_false, Bool.and_eq_true,
    Bool.or_eq_true, HoldSet.has, hactuator, hheat]

theorem reqClearFault_badValue {s : State} {n : Octet} (h : 4 < n.toNat) :
    reqClearFault [n] s = refuse .badValue s := by
  have hn : u8 [n] 0 = n.toNat := rfl
  rw [reqClearFault, hn, stationsNamed_of_gt h]

theorem reqClearFault_named {s : State} {n : Octet} {sts : List StationId} (h : stationsNamed n.toNat = some sts) :
    reqClearFault [n] s =
      if sts.any s.holdsHard && !sts.any s.anyRemovable then accept .notReady (faultReply s) s
      else accept .ok (faultReply (overStations sts clearStation s)) (overStations sts clearStation s) := by
  have hn : u8 [n] 0 = n.toNat := rfl
  rw [reqClearFault, hn, h]

/-- A released zone holds its station while it is enabled. -/
theorem HeatZone.holds_released (z : HeatZone) (heater : Bool) :
    ({ z with state := .heating, heater := heater } : HeatZone).holds = z.enabled := by
  exact (Bool.and_true _).trans (Bool.and_true _)

theorem Station.actuatorCleared_eq (u : Station) :
    let lifts : Prop := u.hold.actuator = true ∧ u.liftedIn = true
    u.actuatorCleared = { u with
      hold := { u.hold with actuator := u.hold.actuator && !u.liftedIn }
      actuator := if lifts then .lifted else u.actuator
      valve := if lifts then .lift else u.valve
      stroke := if lifts then none else u.stroke } := by
  intro lifts
  unfold Station.actuatorCleared
  by_cases h : lifts
  · simp [h.1, h.2, lifts]
  · have hb : ¬ (u.hold.actuator && u.liftedIn) = true := mt Bool.and_eq_true_iff.mp h
    have hkept : (u.hold.actuator && !u.liftedIn) = u.hold.actuator := by
      cases ha : u.hold.actuator <;> simp_all [lifts]
    simp only [if_neg h, if_neg hb, hkept]

theorem Station.heatCleared_eq {u : Station} {zoneOk : Prop} [Decidable zoneOk] (he : u.setup.enabled = true)
    (hended : u.zone.faultEnded = true ↔ zoneOk) :
    let cools : Prop := u.hold.heatFault = true ∧ zoneOk
    u.heatCleared = { u with
      hold := { u.hold with
        heatFault := if cools then false else u.hold.heatFault
        thermal := if cools ∧ u.zone.state = .fault then u.zone.enabled else u.hold.thermal }
      zone := if cools ∧ u.zone.state = .fault then { u.zone with state := .heating, heater := false } else u.zone } := by
  intro cools
  have hcools : (u.hold.heatFault && u.zone.faultEnded) = true ↔ cools := by
    rw [Bool.and_eq_true, hended]
  have hthermal : (if u.zone.enabled = true then u.hold.thermal || u.setup.enabled else false) = u.zone.enabled := by
    rw [he, Bool.or_true]
    cases u.zone.enabled <;> rfl
  unfold Station.heatCleared
  by_cases h : cools
  · unfold Station.zoneReleased Station.zoned
    simp only [hcools, if_pos h]
    by_cases hf : u.zone.state = .fault
    · simp only [if_pos hf, if_pos (And.intro h hf), HeatZone.holds_released, hthermal]
    · simp only [if_neg hf, if_neg fun hc : cools ∧ u.zone.state = .fault => hf hc.2]
  · simp only [hcools, if_neg h, if_neg fun hc : cools ∧ u.zone.state = .fault => h hc.1]

section

variable {s : State} {st : StationId} {zoneOk : Prop} [Decidable zoneOk]

theorem clearedStation_enabled {sourceOk lanesOk : Prop} [Decidable sourceOk] [Decidable lanesOk]
    (he : s.enabled st = true) (hsource : s.removable st .reference = true ↔ sourceOk)
    (hzone : (s.station st).zone.faultEnded = true ↔ zoneOk) (hlanes : s.removable st .foilDrive = true ↔ lanesOk) :
    let u := s.station st
    let lifts : Prop := u.hold.actuator = true ∧ u.liftedIn = true
    let cools : Prop := u.hold.heatFault = true ∧ zoneOk
    s.clearedStation st = { u with
      hold := { u.hold with
        reference := u.hold.reference && !decide sourceOk
        actuator := u.hold.actuator && !u.liftedIn
        heatFault := if cools then false else u.hold.heatFault
        foilDrive := if lanesOk then false else u.hold.foilDrive
        thermal := if cools ∧ u.zone.state = .fault then u.zone.enabled else u.hold.thermal }
      actuator := if lifts then .lifted else u.actuator
      valve := if lifts then .lift else u.valve
      stroke := if lifts then none else u.stroke
      zone := if cools ∧ u.zone.state = .fault then { u.zone with state := .heating, heater := false } else u.zone
      loop := { u.loop with trimSat := false } } := by
  intro u lifts cools
  have hreference : s.removable st .reference = decide sourceOk := Bool.eq_iff_iff.mpr (by simp [hsource])
  have hfoil : (u.hold.foilDrive && !s.removable st .foilDrive) = if lanesOk then false else u.hold.foilDrive := by
    by_cases hl : lanesOk
    · rw [if_pos hl, hlanes.mpr hl]
      exact Bool.and_false _
    · rw [if_neg hl, Bool.eq_false_iff.mpr (mt hlanes.mp hl)]
      exact Bool.and_true _
  have hcauses : s.clearedStation st = (((u.referenceCleared (s.removable st .reference)).actuatorCleared).heatCleared
      |>.foilCleared (s.removable st .foilDrive)).trimSatCleared :=
    congrArg Station.trimSatCleared (if_pos he)
  rw [hcauses, Station.heatCleared_eq (zoneOk := zoneOk), Station.actuatorCleared_eq, hreference]
  · unfold Station.foilCleared Station.trimSatCleared Station.referenceCleared
    dsimp only
    rw [hfoil]
  · rw [Station.actuatorCleared_eq]
    exact he
  · rw [Station.actuatorCleared_eq]
    exact hzone

theorem clearedStation_disabled (he : s.enabled st = false) (hzone : (s.station st).zone.faultEnded = true ↔ zoneOk) :
    let u := s.station st
    let cools : Prop := zoneOk ∧ u.zone.state = .fault
    s.clearedStation st = { u with
      hold := if cools ∧ u.zone.enabled = false then { u.hold with thermal := false } else u.hold
      zone := if cools then { u.zone with state := .heating, heater := false } else u.zone
      loop := { u.loop with trimSat := false } } := by
  intro u cools
  have hcleared : s.clearedStation st = (if u.zone.faultEnded then u.zoneReleased else u).trimSatCleared :=
    congrArg Station.trimSatCleared (if_neg (by rw [he]; exact Bool.false_ne_true))
  have hsetup : u.setup.enabled = false := he
  rw [hcleared]
  by_cases hz : zoneOk
  · rw [if_pos (hzone.mpr hz), Station.zoneReleased]
    by_cases hf : u.zone.state = .fault
    · rw [if_pos hf, Station.zoned, HeatZone.holds_released, hsetup, Bool.or_false, if_pos (And.intro hz hf)]
      cases hzoneOn : u.zone.enabled <;> simp [cools, hz, hf, Station.trimSatCleared]
    · have hno : ¬ cools := fun hc => hf hc.2
      rw [if_neg hf, if_neg hno, if_neg fun hc => hno hc.1]
      rfl
  · have hno : ¬ cools := fun hc => hz hc.1
    rw [if_neg (mt hzone.mp hz), if_neg hno, if_neg fun hc => hno hc.1]
    rfl

end

end Sys2Proof.Machine

namespace Sys2Proof.Proofs

open Sys2Proof.Machine

/-- Settles O36, by the change that each named station takes. -/
theorem pauseAndResume : Obligations.PauseAndResume := by
  intro s tag n h named reply
  rw [exec_pause, exec_resume]
  have hreply (t : State) : statusCode .ok :: holdReply t = reply t := by
    rw [holdReply_eq]
    simp only [reply, List.append_assoc]
    rfl
  refine ⟨fun hgt => ⟨request_refused (st := .badValue) h rfl (reqPause_badValue hgt),
    request_refused (st := .badValue) h rfl (reqResume_badValue hgt)⟩, fun hle hnone => ?_, fun hpos hle hnone => ?_,
    fun hle hsome => ?_, fun hle hsome => ?_⟩ <;>
  obtain ⟨sts, hnamed, hnodup, hmem⟩ := stationsNamed_of_le hle
  · have hany : ¬ sts.any s.enabled = true := fun hany => by
      obtain ⟨st, hst, he⟩ := List.any_eq_true.mp hany
      exact Bool.false_ne_true ((hnone st ((hmem st).mp hst)).symm.trans he)
    exact request_refused (st := .notReady) h rfl ((reqPause_named hnamed).trans (if_neg hany))
  · have hany : ¬ (n.toNat = 0 ∨ sts.any s.enabled = true) := fun hany => by
      obtain ⟨st, hst, he⟩ := List.any_eq_true.mp (hany.resolve_left (Nat.pos_iff_ne_zero.mp hpos))
      exact Bool.false_ne_true ((hnone st ((hmem st).mp hst)).symm.trans he)
    exact request_refused (st := .notReady) h rfl ((reqResume_named hnamed).trans (if_neg hany))
  · obtain ⟨st, hst, he⟩ := hsome
    have hany : sts.any s.enabled = true := List.any_eq_true.mpr ⟨st, (hmem st).mpr hst, he⟩
    have hcarry := (reqPause_named hnamed).trans (if_pos hany)
    rw [pauseAll_eq] at hcarry
    have hanswer := request_accepted (tag := tag) (k := .pause) (p := [n]) h rfl hcarry
      (overStations_modStation_link _ sts s)
    rw [hreply] at hanswer
    refine ⟨_, hanswer, overStations_modStation_frame _ sts s,
      fun st => (overStations_modStation_station _ hnodup s st).trans ?_⟩
    by_cases hst : named st
    · rw [if_pos ((hmem st).mpr hst)]
      by_cases he : s.enabled st = true
      · exact (if_pos he).trans (if_pos ⟨hst, he⟩).symm
      · exact (if_neg he).trans (if_neg fun h => he h.2).symm
    · exact (if_neg (mt (hmem st).mp hst)).trans (if_neg fun h => hst h.1).symm
  · have hany : n.toNat = 0 ∨ sts.any s.enabled = true :=
      hsome.imp_right fun ⟨st, hst, he⟩ => List.any_eq_true.mpr ⟨st, (hmem st).mpr hst, he⟩
    have hcarry := (reqResume_named hnamed).trans (if_pos hany)
    rw [resumeAll_eq] at hcarry
    have hanswer := request_accepted (tag := tag) (k := .resume) (p := [n]) h rfl hcarry
      (overStations_modStation_link _ sts s)
    rw [hreply] at hanswer
    refine ⟨_, hanswer, overStations_modStation_frame _ sts s,
      fun st => (overStations_modStation_station _ hnodup s st).trans ?_⟩
    simp only [hmem]
    rfl

/-- Settles O37, by what each removal does at one station, and that no station's removals touch another's. -/
theorem clearFaultRemovesEndedCauses : Obligations.ClearFaultRemovesEndedCauses := by
  intro s tag n h named fields reply sourceOk zoneOk lanesOk removable hard stuck
  have hreply (t : State) : faultReply t = reply t := by
    simp only [faultReply, allStations, List.flatMap_cons, List.flatMap_nil, List.append_nil, reply, fields,
      List.append_assoc]
    rfl
  have hsource : ∀ st, s.removable st .reference = true ↔ sourceOk := fun st => bne_iff_ne
  have hzone (st : StationId) : (s.station st).zone.faultEnded = true ↔ zoneOk st := by
    simp [HeatZone.faultEnded, zoneOk]
  have hlanes (st : StationId) : s.removable st .foilDrive = true ↔ lanesOk st := by
    rw [foilDrive_removable_eq]
  have hhard (st : StationId) : s.holdsHard st = true ↔ s.enabled st = true ∧ hard st := holdsHard_iff s st
  have hremovable (st : StationId) : s.anyRemovable st = true ↔ s.enabled st = true ∧ removable st := by
    rw [anyRemovable_iff, hsource, hzone, hlanes]
  rw [exec_clearFault]
  refine ⟨fun hgt => request_refused (st := .badValue) h rfl (reqClearFault_badValue hgt), fun hle hstuck => ?_,
    fun hle hnot => ?_⟩ <;>
  obtain ⟨sts, hnamed, hnodup, hmem⟩ := stationsNamed_of_le hle <;>
  have hcond : (sts.any s.holdsHard && !sts.any s.anyRemovable) = true ↔ stuck := by
    simp only [Bool.and_eq_true, Bool.not_eq_true', List.any_eq_true, List.any_eq_false, hhard, hremovable, hmem, not_and]
    rfl
  · have hanswer := request_accepted (tag := tag) (k := .clearFault) (p := [n]) h rfl
      ((reqClearFault_named hnamed).trans (if_pos (hcond.mpr hstuck))) rfl
    rw [hreply] at hanswer
    exact hanswer
  · obtain ⟨hframe, hstations, hreleased⟩ := clearStations hnodup s
    have hanswer := request_accepted (tag := tag) (k := .clearFault) (p := [n]) h rfl
      ((reqClearFault_named hnamed).trans (if_neg (mt hcond.mp hnot))) (congrArg State.link hframe :)
    rw [hreply] at hanswer
    refine ⟨_, hanswer, hframe, fun st hst => ?_, fun st hst he => ?_, fun st hst he => ?_, fun l => ?_⟩
    · rw [hstations, if_neg (mt (hmem st).mp hst)]
    · rw [hstations, if_pos ((hmem st).mpr hst)]
      exact clearedStation_enabled he (hsource st) (hzone st) (hlanes st)
    · rw [hstations, if_pos ((hmem st).mpr hst)]
      exact clearedStation_disabled he (hzone st)
    · intro released
      have hiff : (∃ st ∈ sts, s.releases st l) ↔ released := by
        simp only [State.releases, hlanes, hmem]
        exact exists_congr fun st => by grind
      exact ⟨fun hr => (hreleased l).1 (hiff.mpr hr), fun hr => (hreleased l).2 (mt hiff.mp hr)⟩

end Sys2Proof.Proofs
end

section

/-!
## The register loop

What a reading, a pair and the two pairing places do, and the die gates and expiries that use them.
-/

namespace Sys2Proof.Machine

theorem reached_iff (hw p : Pos) : reached hw p = true ↔ 0 ≤ sdiff hw p := decide_eq_true_iff

/-! ### Records by their sequence numbers (R40, R42) -/

/-- The live records have different sequence numbers. -/
theorem State.Numbered.index_unique {s : State} (h : s.Numbered) (hlen : s.queue.length ≤ Config.queueCapacity)
    {j j' : Nat} (hj : j < s.queue.length) (hj' : j' < s.queue.length) (hseq : s.queue[j].seq = s.queue[j'].seq) :
    j = j' := by
  have hcap : s.queue.length ≤ 256 := hlen
  rw [h j s.queue[j] (List.getElem?_eq_getElem hj), h j' s.queue[j'] (List.getElem?_eq_getElem hj')] at hseq
  have hback : BitVec.ofNat 16 (s.queue.length - j) = BitVec.ofNat 16 (s.queue.length - j') := by
    have h := congrArg (s.tracker.seqCounter - ·) hseq
    simpa only [sub_sub_cancel] using h
  have hnat := congrArg BitVec.toNat hback
  rw [BitVec.toNat_ofNat, BitVec.toNat_ofNat, Nat.mod_eq_of_lt (by omega), Nat.mod_eq_of_lt (by omega)] at hnat
  omega

theorem State.Numbered.seqs_nodup {s : State} (h : s.Numbered) (hlen : s.queue.length ≤ Config.queueCapacity) :
    (s.queue.map LabelRecord.seq).Nodup := by
  refine List.pairwise_iff_getElem.mpr fun i j hi hj hij heq => ?_
  rw [List.length_map] at hi hj
  rw [List.getElem_map, List.getElem_map] at heq
  exact absurd (h.index_unique hlen hi hj heq) (Nat.ne_of_lt hij)

theorem State.Numbered.seq_unique {s : State} (h : s.Numbered) (hlen : s.queue.length ≤ Config.queueCapacity)
    {r r' : LabelRecord} (hr : r ∈ s.queue) (hr' : r' ∈ s.queue) (hseq : r.seq = r'.seq) : r = r' := by
  obtain ⟨j, hj, rfl⟩ := List.getElem_of_mem hr
  obtain ⟨j', hj', rfl⟩ := List.getElem_of_mem hr'
  have hindex := h.index_unique hlen hj hj' hseq
  subst hindex
  rfl

/-- A record is the one found by its sequence number. -/
theorem State.Numbered.record?_eq {s : State} (h : s.Numbered) (hlen : s.queue.length ≤ Config.queueCapacity) {r : LabelRecord}
    (hr : r ∈ s.queue) : s.record? r.seq = some r := by
  unfold State.record?
  cases hf : s.queue.find? fun x => x.seq == r.seq with
  | none => exact absurd (beq_self_eq_true r.seq) (List.find?_eq_none.mp hf r hr)
  | some x =>
    have hx := List.find?_some hf
    rw [h.seq_unique hlen (List.mem_of_find?_eq_some hf) hr (beq_iff_eq.mp hx)]

/-! ### Visits changed -/

theorem modVisit_eq (seq : BitVec 16) (st : StationId) (f : Visit → Visit) (s : State) :
    modVisit seq st f s = { s with queue := visitsChanged s.queue seq st f } := rfl

theorem visitsChanged_congr {q : List LabelRecord} {seq : BitVec 16} {st : StationId} {f g : Visit → Visit}
    (h : ∀ r ∈ q, r.seq = seq → ∀ v, r.visit st = some v → f v = g v) :
    visitsChanged q seq st f = visitsChanged q seq st g := by
  refine List.map_congr_left fun r hr => ?_
  by_cases hs : r.seq = seq
  · have hmap : (r.visits.get st).map f = (r.visits.get st).map g := by
      cases hv : r.visits.get st with
      | none => rfl
      | some v => exact congrArg some (h r hr hs v hv)
    rw [if_pos hs, if_pos hs, hmap]
  · rw [if_neg hs, if_neg hs]

/-! ### Readings with no usable value (R50, R51, R72) -/

theorem losesMarks_iff (u : Station) :
    losesMarks u = true ↔
      u.setup.missLimit ≤ min 31 (u.unusable + 1) ∧ u.hold.marksLost = false ∧ u.setup.enabled = true := by
  simp [losesMarks, and_assoc]

theorem unusableReading_eq (st : StationId) (s : State) : unusableReading st s = unusableTaken s st := by
  unfold unusableReading unusableTaken
  dsimp only
  rw [State.modStation_station]
  by_cases h : losesMarks (s.station st) = true
  · rw [if_pos h, if_pos ((losesMarks_iff _).mp h)]
    have he : (s.modStation st fun u => { u with unusable := min 31 ((s.station st).unusable + 1) }).enabled st = true := by
      rw [State.enabled, State.modStation_station]
      exact ((losesMarks_iff _).mp h).2.2
    rw [addSoft, if_pos he, State.modStation_modStation]
    rfl
  · rw [if_neg h, if_neg (mt (losesMarks_iff _).mpr h)]
    rfl

theorem unusableTaken_setStation (s : State) (st : StationId) (u : Station) (q : List LabelRecord) :
    unusableTaken { s.setStation st u with queue := q } st =
      let run := min 31 (u.unusable + 1)
      if losesMarks u then raiseEvent .marksLost st.number run
        { s.setStation st { u with unusable := run, hold := { u.hold with marksLost := true } } with queue := q }
      else { s.setStation st { u with unusable := run } with queue := q } := by
  have hst : ({ s.setStation st u with queue := q } : State).station st = u := State.setStation_station_self ..
  have hset (v : Station) : ({ s.setStation st u with queue := q } : State).setStation st v =
      { s.setStation st v with queue := q } := by
    simp only [State.setStation, PerStation.put_put]
  unfold unusableTaken
  simp only [hst, hset]

theorem endNoGate_eq (st : StationId) (w : WaitingMark) (s : State) : endNoGate st w s = endsNoGate s st w.seq :=
  unusableReading_eq st _

theorem waitingExpired_eq (st : StationId) (w : WaitingMark) (s : State) :
    waitingExpired st w s = endsNoGate (withLoop s st fun l => { l with waiting := none }) st w.seq :=
  endNoGate_eq st w _

theorem orphanGate_eq (st : StationId) (s : State) :
    orphanGate st s = withLoop s st fun l => { l with gate := none, orphans := min 65535 (l.orphans + 1) } := by
  unfold orphanGate
  simp only [bump16_eq]
  rfl

/-! ### A pair's correction (R76 to R82) -/

theorem bump32_eq (n : Nat) : bump32 n = min 4294967295 (n + 1) := Nat.min_comm ..

theorem rawStep_eq (gain : Nat) (e : Int) :
    rawStep gain e = if e < 0 then -(((e.natAbs * gain + 8) / 16 : Nat) : Int)
      else (((e.natAbs * gain + 8) / 16 : Nat) : Int) := rfl

theorem stepOf_eq (t : Tuning) (e : Int) : clampInt (-t.stepMax) t.stepMax (rawStep t.gain e) = stepOf t e := by
  simp only [rawStep_eq, stepOf, clampInt]
  push_cast
  rfl

/-- A step is clamped exactly when the error's size asks for more than the greatest step. -/
theorem stepOf_eq_rawStep_iff (t : Tuning) (e : Int) :
    stepOf t e = rawStep t.gain e ↔ ¬ t.stepMax < (e.natAbs * t.gain + 8) / 16 := by
  rw [← stepOf_eq, rawStep_eq, clampInt]
  generalize (e.natAbs * t.gain + 8) / 16 = m
  split <;> omega

theorem steps_iff (l : RegLoop) (agree : Bool) (e : Int) :
    steps l agree e = true ↔
      agree = true ∧ l.settleCtr = 0 ∧ l.tuning.mode = .auto ∧ l.tuning.deadBand < e.natAbs := by
  simp [steps, and_assoc]

/-- The flags of a pair that steps the trim. -/
theorem pairFlags_of_steps {l : RegLoop} {e : Int} (h : steps l true e = true) (f : RegFlags) :
    pairFlags l true e f = { f with
      stepClamped := f.stepClamped || decide (stepOf l.tuning e ≠ rawStep l.tuning.gain e)
      saturated := f.saturated || decide (trimTaken l true e ≠ trimAsked l true e) } := by
  obtain ⟨-, hzero, -, hband⟩ := (steps_iff l true e).mp h
  have hclamped : decide (l.tuning.stepMax < (e.natAbs * l.tuning.gain + 8) / 16) =
      decide (stepOf l.tuning e ≠ rawStep l.tuning.gain e) :=
    decide_eq_decide.mpr (by rw [ne_eq, stepOf_eq_rawStep_iff, not_not])
  have hnot : ¬ e.natAbs ≤ l.tuning.deadBand := Nat.not_le.mpr hband
  simp [pairFlags, h, hzero, hnot, hclamped]

theorem correct_eq (l : RegLoop) (f : RegFlags) (agree : Bool) (e : Int) :
    l.correct f agree e = {
      flags := pairFlags l agree e f
      trim := trimTaken l agree e
      settleCtr := (pairLoop l agree e).settleCtr
      saturated := decide (trimTaken l agree e ≠ trimAsked l agree e) } := by
  unfold RegLoop.correct pairLoop
  dsimp only
  cases agree with
  | false => simp [pairFlags, trimTaken, trimAsked, steps]
  | true =>
    by_cases hsettle : 0 < l.settleCtr
    · have hne : ¬ l.settleCtr = 0 := by omega
      simp [pairFlags, trimTaken, trimAsked, steps, hsettle, hne]
    · have hzero : l.settleCtr = 0 := by omega
      cases hmode : l.tuning.mode with
      | measure =>
        have hauto : (RegMode.measure == RegMode.auto) = false := rfl
        simp [pairFlags, trimTaken, trimAsked, steps, hzero, hmode, hauto]
      | auto =>
        by_cases hband : e.natAbs ≤ l.tuning.deadBand
        · have hnot : ¬ l.tuning.deadBand < e.natAbs := by omega
          simp [pairFlags, trimTaken, trimAsked, steps, hzero, hmode, hband, hnot]
        · have hsteps : steps l true e = true := by
            rw [steps_iff]
            exact ⟨rfl, hzero, hmode, by omega⟩
          have hasked : trimAsked l true e = l.trim + stepOf l.tuning e := if_pos hsteps
          have htaken : l.tuning.saturate (l.trim + stepOf l.tuning e) = trimTaken l true e := by
            rw [trimTaken, if_pos hsteps, hasked]
            rfl
          rw [if_neg (by decide), if_neg hsettle, if_neg (by decide), if_neg hband, stepOf_eq, htaken,
            ← hasked, pairFlags_of_steps hsteps]
          by_cases hstep : stepOf l.tuning e = rawStep l.tuning.gain e <;>
            by_cases hsat : trimTaken l true e = trimAsked l true e <;> simp [hstep, hsat, hzero]

/-- The loop after its correction, but for the sticky flag. -/
theorem paired_eq (l : RegLoop) (f : RegFlags) (agree : Bool) (e : Int) :
    l.paired (l.correct f agree e) e = { pairLoop l agree e with trimSat := l.trimSat } := by
  rw [correct_eq]
  simp only [RegLoop.paired, pairLoop, bump32_eq]

/-- Slots that differ leave the trim. -/
theorem trimTaken_of_disagree (l : RegLoop) (e : Int) : trimTaken l false e = trimAsked l false e := rfl

theorem usableReading_setStation (s : State) (st : StationId) (u : Station) :
    usableReading st (s.setStation st u) =
      s.setStation st { u with unusable := 0, hold := { u.hold with marksLost := false } } := by
  unfold usableReading dropCause
  rw [State.modStation_setStation, State.modStation_setStation]
  rfl

theorem trimSaturated_setStation (s : State) (st : StationId) (source : Nat) (u : Station) :
    trimSaturated st source (s.setStation st u) =
      raiseEvent .trimSaturated st.number source
        (s.setStation st { u with loop := { u.loop with trimSat := true } }) := by
  unfold trimSaturated
  rw [State.modStation_setStation]

/-- The visits that a pair changes are the one whose flags it reads. -/
theorem pairedVisits_eq {s : State} (hn : s.Numbered) (hlen : s.queue.length ≤ Config.queueCapacity) (st : StationId) (seq : BitVec 16)
    (l : RegLoop) (agree : Bool) (e : Int) :
    visitsChanged s.queue seq st (fun v =>
        { v with error := some e, regFlags := (l.correct (s.visitFlags seq st) agree e).flags }) =
      visitsChanged s.queue seq st (fun v => { v with error := some e, regFlags := pairFlags l agree e v.regFlags }) := by
  refine visitsChanged_congr fun r hr hseq v hv => ?_
  have hflags : s.visitFlags seq st = v.regFlags := by
    unfold State.visitFlags
    rw [← hseq, hn.record?_eq hlen hr, Option.bind_some, hv]
  rw [hflags, correct_eq]

theorem pairUp_eq {s : State} (hn : s.Numbered) (hlen : s.queue.length ≤ Config.queueCapacity) (st : StationId) (mark : Pos) (seq : BitVec 16)
    (slot : Nat) (gate : Pos) (gateSlot : Nat) :
    pairUp st mark seq slot gate gateSlot s = pairTaken s st mark seq slot gate gateSlot := by
  let u := s.station st
  let e := errorOf u.loop mark gate
  let agree := slot == gateSlot
  let t : State := { s with queue := visitsChanged s.queue seq st fun v =>
    { v with error := some e, regFlags := pairFlags u.loop agree e v.regFlags } }
  let paired : State := t.setStation st { u with loop := { pairLoop u.loop agree e with trimSat := u.loop.trimSat } }
  have hpaired : (modVisit seq st (fun v => { v with
      error := some e, regFlags := (u.loop.correct (s.visitFlags seq st) agree e).flags }) s).modStation st
        (fun x => { x with loop := x.loop.paired (u.loop.correct (s.visitFlags seq st) agree e) e }) = paired := by
    have hloop : u.loop.paired (u.loop.correct (s.visitFlags seq st) agree e) e =
        { pairLoop u.loop agree e with trimSat := u.loop.trimSat } := paired_eq ..
    rw [modVisit_eq, pairedVisits_eq hn hlen]
    exact congrArg (fun l => t.setStation st { u with loop := l }) hloop
  have hrun : pairUp st mark seq slot gate gateSlot s =
      let x := if agree then usableReading st paired else unusableReading st paired
      if !agree then raiseEvent .dieSlip st.number (256 + 8 * slot + gateSlot) x
      else if (u.loop.correct (s.visitFlags seq st) agree e).saturated then trimSaturated st 1 x else x := by
    rw [← hpaired]
    rfl
  have htaken : pairTaken s st mark seq slot gate gateSlot =
      let x : Station := { u with loop := pairLoop u.loop agree e }
      if agree then
        let t := t.setStation st { x with unusable := 0, hold := { u.hold with marksLost := false } }
        if trimTaken u.loop agree e ≠ trimAsked u.loop agree e then raiseEvent .trimSaturated st.number 1 t else t
      else raiseEvent .dieSlip st.number (256 + 8 * slot + gateSlot) (unusableTaken (t.setStation st x) st) := rfl
  rw [hrun, htaken, correct_eq]
  cases hagree : agree with
  | false =>
    have hsat : ({ pairLoop u.loop false e with trimSat := u.loop.trimSat } : RegLoop) = pairLoop u.loop false e := by
      simp [pairLoop, trimTaken_of_disagree]
    simp only [paired, hagree, hsat, unusableReading_eq]
    rfl
  | true =>
    simp only [paired, hagree, usableReading_setStation]
    by_cases hsat : trimTaken u.loop true e = trimAsked u.loop true e
    · have hloop : ({ pairLoop u.loop true e with trimSat := u.loop.trimSat } : RegLoop) = pairLoop u.loop true e := by
        simp [pairLoop, hsat]
      simp [hsat, hloop]
    · have hloop : ({ pairLoop u.loop true e with trimSat := true } : RegLoop) = pairLoop u.loop true e := by
        simp [pairLoop, hsat]
      simp [hsat, hloop, trimSaturated_setStation]

/-! ### The pairing places (R70, R71) -/

theorem withinCapture_iff (l : RegLoop) (mark gate : Pos) :
    withinCapture l.tuning mark gate = true ↔ (errorOf l mark gate).natAbs ≤ l.tuning.capture := decide_eq_true_iff

theorem withLoop_withLoop (s : State) (st : StationId) (f g : RegLoop → RegLoop) :
    withLoop (withLoop s st f) st g = withLoop s st fun l => g (f l) :=
  State.modStation_setStation s st { s.station st with loop := f (s.station st).loop } fun u =>
    { u with loop := g u.loop }

theorem withLoop_loop (s : State) (st : StationId) (f : RegLoop → RegLoop) :
    ((withLoop s st f).station st).loop = f (s.station st).loop :=
  congrArg Station.loop (State.setStation_station_self ..)

/-- A gate takes the unpaired-gate place, and leaves it at once when its threshold is reached (R71, step 3). -/
def gateEnters (st : StationId) (gate : Pos) (slot : Nat) (s : State) : State :=
  let t := (s.station st).loop.tuning
  let g : HeldGate := { pos := gate, slot, expiry := posShift gate (t.target + t.capture) }
  let s := withLoop s st fun l => { l with gate := some g }
  if reached s.ref.hw g.expiry then orphanGate st s else s

theorem gateEnters_eq (st : StationId) (gate : Pos) (slot : Nat) (s : State) :
    let l := (s.station st).loop
    let expiry := posShift gate (l.tuning.target + l.tuning.capture)
    gateEnters st gate slot s = withLoop s st fun l => { l with
      gate := if 0 ≤ sdiff s.ref.hw expiry then none else some { pos := gate, slot := slot, expiry := expiry }
      orphans := if 0 ≤ sdiff s.ref.hw expiry then min 65535 (l.orphans + 1) else l.orphans } := by
  intro l expiry
  by_cases hr : 0 ≤ sdiff s.ref.hw expiry
  · refine (if_pos ((reached_iff _ _).mpr hr)).trans ?_
    rw [orphanGate_eq, withLoop_withLoop]
    simp only [if_pos hr]
  · refine (if_neg (mt (reached_iff _ _).mp hr)).trans ?_
    simp only [if_neg hr]
    rfl

theorem gateWaits_of_held {st : StationId} {s : State} {g : HeldGate} (hg : (s.station st).loop.gate = some g)
    (gate : Pos) (slot : Nat) : gateWaits st gate slot s = gateEnters st gate slot (orphanGate st s) := by
  rw [gateWaits, hg]
  rfl

theorem gateWaits_of_none {st : StationId} {s : State} (hg : (s.station st).loop.gate = none) (gate : Pos)
    (slot : Nat) : gateWaits st gate slot s = gateEnters st gate slot s := by
  rw [gateWaits, hg]
  rfl

theorem gateWaits_eq (st : StationId) (gate : Pos) (slot : Nat) (s : State) :
    gateWaits st gate slot s = gateHeld s st gate slot := by
  unfold gateHeld
  cases hg : (s.station st).loop.gate with
  | none =>
    rw [gateWaits_of_none hg, gateEnters_eq]
    simp only [withLoop, hg, Option.isSome_none, Bool.false_eq_true, if_false]
  | some g =>
    have htuning : ((orphanGate st s).station st).loop.tuning = (s.station st).loop.tuning := by
      rw [orphanGate_eq, withLoop_loop]
    have href : (orphanGate st s).ref = s.ref := rfl
    rw [gateWaits_of_held hg, gateEnters_eq, htuning, href, orphanGate_eq]
    dsimp only
    rw [withLoop_withLoop]
    simp only [withLoop, hg, Option.isSome_some, if_true]

theorem takeGate_waits {st : StationId} {s : State} {gate : Pos}
    (h : ∀ w, (s.station st).loop.waiting = some w →
      (s.station st).loop.tuning.capture < (errorOf (s.station st).loop w.pos gate).natAbs) (slot : Nat) :
    takeGate st gate slot s = gateHeld s st gate slot := by
  unfold takeGate
  dsimp only
  split
  · next w hw =>
    rw [if_neg (mt (withinCapture_iff _ _ _).mp (Nat.not_le.mpr (h w hw))), gateWaits_eq]
  · exact gateWaits_eq ..

theorem takeGate_pairs {st : StationId} {s : State} {gate : Pos} {w : WaitingMark} (hn : s.Numbered)
    (hlen : s.queue.length ≤ Config.queueCapacity) (hw : (s.station st).loop.waiting = some w)
    (hc : (errorOf (s.station st).loop w.pos gate).natAbs ≤ (s.station st).loop.tuning.capture) (slot : Nat) :
    takeGate st gate slot s =
      pairTaken (withLoop s st fun l => { l with waiting := none }) st w.pos w.seq w.slot gate slot := by
  have hpair := pairUp_eq (s := withLoop s st fun l => { l with waiting := none }) hn hlen st w.pos w.seq w.slot gate slot
  rw [takeGate, hw]
  exact (if_pos ((withinCapture_iff _ _ _).mpr hc)).trans hpair

theorem endsNoGate_loop (s : State) (st : StationId) (seq : BitVec 16) :
    ((endsNoGate s st seq).station st).loop = (s.station st).loop := by
  unfold endsNoGate unusableTaken
  dsimp only
  split
  · rw [raiseEvent_station, State.setStation_station_self]
    rfl
  · rw [State.setStation_station_self]
    rfl

theorem endsNoGate_ref (s : State) (st : StationId) (seq : BitVec 16) : (endsNoGate s st seq).ref = s.ref := by
  unfold endsNoGate unusableTaken
  dsimp only
  split
  · rw [raiseEvent_ref]
    rfl
  · rfl

/-- A mark takes the waiting-mark place, and leaves it at once when its threshold is reached (R70, step 3). -/
def markEnters (st : StationId) (mark : Pos) (seq : BitVec 16) (slot : Nat) (s : State) : State :=
  let t := (s.station st).loop.tuning
  let w : WaitingMark := { pos := mark, seq, slot, expiry := posShift mark (t.capture - t.target) }
  let s := withLoop s st fun l => { l with waiting := some w }
  if reached s.ref.hw w.expiry then waitingExpired st w s else s

theorem markEnters_eq (st : StationId) (mark : Pos) (seq : BitVec 16) (slot : Nat) (s : State) :
    let tuning := (s.station st).loop.tuning
    let expiry := posShift mark (tuning.capture - tuning.target)
    markEnters st mark seq slot s =
      if 0 ≤ sdiff s.ref.hw expiry then endsNoGate (withLoop s st fun l => { l with waiting := none }) st seq
      else withLoop s st fun l => { l with waiting := some { pos := mark, seq := seq, slot := slot, expiry := expiry } } := by
  intro tuning expiry
  by_cases hr : 0 ≤ sdiff s.ref.hw expiry
  · rw [if_pos hr]
    refine (if_pos ((reached_iff _ _).mpr hr)).trans ?_
    rw [waitingExpired_eq, withLoop_withLoop]
  · rw [if_neg hr]
    exact if_neg (mt (reached_iff _ _).mp hr)

theorem markWaits_of_held {st : StationId} {s : State} {w : WaitingMark} (hw : (s.station st).loop.waiting = some w)
    (mark : Pos) (seq : BitVec 16) (slot : Nat) :
    markWaits st mark seq slot s = markEnters st mark seq slot (waitingExpired st w s) := by
  rw [markWaits, hw]
  rfl

theorem markWaits_of_none {st : StationId} {s : State} (hw : (s.station st).loop.waiting = none) (mark : Pos)
    (seq : BitVec 16) (slot : Nat) : markWaits st mark seq slot s = markEnters st mark seq slot s := by
  rw [markWaits, hw]
  rfl

/-- A mark that no gate waits for takes the waiting-mark place. -/
theorem markWaits_eq (st : StationId) (mark : Pos) (seq : BitVec 16) (slot : Nat) (s : State) :
    markWaits st mark seq slot s = markHeld s st mark seq slot := by
  unfold markHeld
  cases hw : (s.station st).loop.waiting with
  | none =>
    rw [markWaits_of_none hw, markEnters_eq]
  | some w =>
    have htuning : ((waitingExpired st w s).station st).loop.tuning = (s.station st).loop.tuning := by
      rw [waitingExpired_eq, endsNoGate_loop, withLoop_loop]
    have href : (waitingExpired st w s).ref = s.ref := by
      rw [waitingExpired_eq, endsNoGate_ref]
      rfl
    rw [markWaits_of_held hw, markEnters_eq, htuning, href, waitingExpired_eq]

/-- A mark handed over to the register loop pairs or waits. -/
theorem takeMark_eq {s : State} (hn : s.Numbered) (hlen : s.queue.length ≤ Config.queueCapacity) (st : StationId)
    (mark : Pos) (seq : BitVec 16) (slot : Nat) :
    takeMark st mark seq slot s = handedOver s st mark seq slot := by
  unfold takeMark handedOver
  dsimp only
  cases hg : (s.station st).loop.gate with
  | none => exact markWaits_eq ..
  | some g =>
    have hpair := pairUp_eq (s := withLoop s st fun l => { l with gate := none }) hn hlen st mark seq slot g.pos g.slot
    dsimp only
    by_cases hc : (errorOf (s.station st).loop mark g.pos).natAbs ≤ (s.station st).loop.tuning.capture
    · rw [if_pos hc, if_pos ((withinCapture_iff _ _ _).mpr hc)]
      exact hpair
    · rw [if_neg hc, if_neg (mt (withinCapture_iff _ _ _).mp hc), markWaits_eq]

/-! ### Die gates (R68, R69) -/

theorem exec_dieGate (st : StationId) (index : Bool) (s : State) :
    exec (.dieGate st index) s = .next (dieGate st index s) := rfl

/-- A gate not rewound is taken at an enabled station, and ignored at a disabled one. -/
theorem dieGate_of_not_behind {s : State} (h : 0 ≤ sdiff s.web s.ref.hw) (st : StationId) (index : Bool) :
    dieGate st index s = if (s.station st).setup.enabled then gateTaken st index s else s := by
  have hb : ¬ s.behind = true := fun hb => absurd (of_decide_eq_true hb) (Int.not_lt.mpr h)
  exact if_neg hb

section

variable {s : State} {st : StationId} {index : Bool}

/-- The gate without the index flag at a station not synchronised only sets the cursor. -/
theorem gateTaken_unsynced (hs : (s.station st).loop.synced = false) :
    gateTaken st false s = withLoop s st fun l => { l with
      cursor := (l.cursor + 1) % (s.station st).setup.dieSlots } := by
  unfold gateTaken
  dsimp only
  have hsync (c : Nat) : withLoop s st (fun l => { l with cursor := c, synced := l.synced || false }) =
      withLoop s st fun l => { l with cursor := c } := by
    simp only [Bool.or_false]
  rw [hs]
  exact hsync _

/-- A gate that goes on to pairing: its slot, the cursor it sets, and the slip it may find (R68). -/
theorem gateTaken_takes (h : index = true ∨ (s.station st).loop.synced = true) :
    gateTaken st index s =
      let l := (s.station st).loop
      let next := (l.cursor + 1) % (s.station st).setup.dieSlots
      let slot := if index then 0 else next
      let set : State := withLoop s st fun l => { l with cursor := slot, synced := l.synced || index }
      takeGate st s.web slot
        (if index = true ∧ l.synced = true ∧ next ≠ 0 then raiseEvent .dieSlip st.number next set else set) := by
  unfold gateTaken
  dsimp only
  cases index with
  | false =>
    have hs : (s.station st).loop.synced = true := h.resolve_left Bool.false_ne_true
    rw [hs]
    exact congrArg (takeGate st s.web _) (if_neg fun hslips => absurd hslips.1 Bool.false_ne_true).symm
  | true =>
    cases hs : (s.station st).loop.synced with
    | false =>
      exact congrArg (takeGate st s.web 0) (if_neg fun hslips => absurd hslips.2.1 Bool.false_ne_true).symm
    | true =>
      dsimp only
      by_cases hnext : (s.station st).advance = 0
      · rw [if_pos hnext]
        exact congrArg (takeGate st s.web 0) (if_neg fun hslips => hslips.2.2 hnext).symm
      · have hweb (t : State) : (raiseEvent .dieSlip st.number (s.station st).advance t).web = t.web :=
          congrArg Reference.web (raiseEvent_ref ..)
        rw [if_neg hnext, hweb]
        exact congrArg (takeGate st s.web 0) (if_pos ⟨rfl, rfl, hnext⟩).symm

end

/-! ### The expiries of the pairing places (R72, R73) -/

theorem exec_waitingMarkExpiry (st : StationId) (s : State) :
    exec (.waitingMarkExpiry st) s = .next (waitingMarkExpiry st s) := rfl

theorem exec_unpairedGateExpiry (st : StationId) (s : State) :
    exec (.unpairedGateExpiry st) s = .next (unpairedGateExpiry st s) := rfl

section

variable {s : State} {st : StationId}

theorem waitingMarkExpiry_reached {w : WaitingMark} (hw : (s.station st).loop.waiting = some w)
    (hr : 0 ≤ sdiff s.ref.hw w.expiry) : waitingMarkExpiry st s = waitingExpired st w s := by
  rw [waitingMarkExpiry, hw]
  exact if_pos ((reached_iff _ _).mpr hr)

theorem waitingMarkExpiry_not (h : ∀ w, (s.station st).loop.waiting = some w → sdiff s.ref.hw w.expiry < 0) :
    waitingMarkExpiry st s = s := by
  unfold waitingMarkExpiry
  split
  · next w hw => exact if_neg (mt (reached_iff _ _).mp (Int.not_le.mpr (h w hw)))
  · rfl

theorem unpairedGateExpiry_reached {g : HeldGate} (hg : (s.station st).loop.gate = some g)
    (hr : 0 ≤ sdiff s.ref.hw g.expiry) : unpairedGateExpiry st s = orphanGate st s := by
  rw [unpairedGateExpiry, hg]
  exact if_pos ((reached_iff _ _).mpr hr)

theorem unpairedGateExpiry_not (h : ∀ g, (s.station st).loop.gate = some g → sdiff s.ref.hw g.expiry < 0) :
    unpairedGateExpiry st s = s := by
  unfold unpairedGateExpiry
  split
  · next g hg => exact if_neg (mt (reached_iff _ _).mp (Int.not_le.mpr (h g hg)))
  · rfl

end

end Sys2Proof.Machine

namespace Sys2Proof.Proofs

open Sys2Proof.Machine

/-- Settles O54, by what a mark that ends NO_GATE does to its visit and to the unusable run. -/
theorem pairingPlacesExpire : Obligations.PairingPlacesExpire := by
  intro s st u run lost
  rw [exec_waitingMarkExpiry, exec_unpairedGateExpiry]
  refine ⟨fun w hw hr => ?_, fun h => congrArg _ (waitingMarkExpiry_not h), fun g hg hr => ?_,
    fun h => congrArg _ (unpairedGateExpiry_not h)⟩
  · intro x queue
    have hlost : losesMarks u = true ↔ lost := losesMarks_iff u
    have hstate : waitingExpired st w s =
        unusableTaken { s.setStation st { u with loop := { u.loop with waiting := none } } with queue := queue } st :=
      waitingExpired_eq st w s
    rw [waitingMarkExpiry_reached hw hr, hstate, unusableTaken_setStation]
    exact ⟨fun h => congrArg _ (if_neg (mt hlost.mp h)), fun h => congrArg _ (if_pos (hlost.mpr h))⟩
  · rw [unpairedGateExpiry_reached hg hr, orphanGate_eq]
    rfl

/-- Settles O53, by the slot that a gate takes, and what the gate then pairs with or waits for. -/
theorem dieGatePairsAndCorrects : Obligations.DieGatePairsAndCorrects := by
  intro s st index hfront u l next slot slips set t
  rw [exec_dieGate, dieGate_of_not_behind hfront]
  have hset : (set.station st).loop = { l with cursor := slot, synced := l.synced || index } := withLoop_loop ..
  obtain ⟨hloop, hqueue, htracker⟩ : (t.station st).loop = { l with cursor := slot, synced := l.synced || index } ∧
      t.queue = s.queue ∧ t.tracker = s.tracker := by
    by_cases hslips : slips
    · simp only [t, if_pos hslips, raiseEvent_station, raiseEvent_queue, raiseEvent_tracker]
      exact ⟨hset, rfl, rfl⟩
    · simp only [t, if_neg hslips]
      exact ⟨hset, rfl, rfl⟩
  refine ⟨fun he => ?_, fun he hi hs => ?_, fun he htakes hnone => ?_, fun w he htakes hw hcapture hn hcap => ?_⟩
  · rw [if_neg (by rw [he]; exact Bool.false_ne_true)]
  · subst hi
    exact congrArg Host.Outcome.next ((if_pos he).trans (gateTaken_unsynced hs))
  · have hrun : gateTaken st index s = takeGate st s.web slot t := gateTaken_takes htakes
    rw [if_pos he, hrun, takeGate_waits]
    rw [hloop]
    exact hnone
  · have hrun : gateTaken st index s = takeGate st s.web slot t := gateTaken_takes htakes
    have hlen : t.queue.length ≤ Config.queueCapacity := by
      rw [hqueue]
      exact hcap.queue
    have hnumbered : t.Numbered := by
      unfold State.Numbered
      rw [hqueue, htracker]
      exact hn
    rw [if_pos he, hrun, takeGate_pairs hnumbered hlen (by rw [hloop]; exact hw) (by rw [hloop]; exact hcapture)]

end Sys2Proof.Proofs
end

section

/-!
## Strokes, and the inputs of the sources

The confirms, the stroke timer and the idle-lift point of a station (R101, R102, R109), and the fault input, motion
timer and speed sample of a source (R3, R7, R13, R16).
-/

namespace Sys2Proof.Machine

/-! ### Confirms and the stroke timer (R101, R102) -/

theorem exec_engagedConfirm (st : StationId) (level : Bool) (s : State) :
    exec (.engagedConfirm st level) s = .next (s.modStation st fun u => u.engagedConfirm level) := rfl

theorem exec_liftedConfirm (st : StationId) (level : Bool) (s : State) :
    exec (.liftedConfirm st level) s = .next (s.modStation st fun u => u.liftedConfirm level) := rfl

theorem exec_strokeTimerExpiry (st : StationId) (s : State) :
    exec (.strokeTimerExpiry st) s = .next (strokeExpired st s) := rfl

theorem Station.engagedConfirm_completes {u : Station} (hu : u.engagedIn = false) (ha : u.actuator = .engaging) :
    u.engagedConfirm true = { u with engagedIn := true, actuator := .engaged, stroke := none } := by
  simp [Station.engagedConfirm, hu, ha]

theorem Station.engagedConfirm_level {u : Station} {level : Bool}
    (h : level = false ∨ u.engagedIn = true ∨ u.actuator ≠ .engaging) :
    u.engagedConfirm level = { u with engagedIn := level } := by
  refine if_neg fun hrises => ?_
  simp only [Bool.and_eq_true, Bool.not_eq_true', beq_iff_eq] at hrises
  obtain ⟨⟨hl, hu⟩, ha⟩ := hrises
  simp [hl, hu] at h
  exact h ha

theorem Station.liftedConfirm_completes {u : Station} (hu : u.liftedIn = false) (ha : u.actuator = .lifting) :
    u.liftedConfirm true = { u with liftedIn := true, actuator := .lifted, stroke := none } := by
  simp [Station.liftedConfirm, hu, ha]

theorem Station.liftedConfirm_level {u : Station} {level : Bool}
    (h : level = false ∨ u.liftedIn = true ∨ u.actuator ≠ .lifting) :
    u.liftedConfirm level = { u with liftedIn := level } := by
  refine if_neg fun hrises => ?_
  simp only [Bool.and_eq_true, Bool.not_eq_true', beq_iff_eq] at hrises
  obtain ⟨⟨hl, hu⟩, ha⟩ := hrises
  simp [hl, hu] at h
  exact h ha

theorem strokeExpired_engaging {s : State} {st : StationId} (h : (s.station st).actuator = .engaging) :
    strokeExpired st s = addHard .actuator st (raiseEvent .impressionFault st.number 1
      (s.setStation st { s.station st with valve := .lift, actuator := .jammed, stroke := none })) := by
  unfold strokeExpired
  dsimp only
  rw [h]
  rfl

theorem strokeExpired_lifting {s : State} {st : StationId} (h : (s.station st).actuator = .lifting) :
    strokeExpired st s = addHard .actuator st (raiseEvent .impressionFault st.number 2
      (s.setStation st { s.station st with valve := .lift, actuator := .jammed, stroke := none })) := by
  unfold strokeExpired
  dsimp only
  rw [h]
  rfl

theorem strokeExpired_other {s : State} {st : StationId} (he : (s.station st).actuator ≠ .engaging)
    (hl : (s.station st).actuator ≠ .lifting) : strokeExpired st s = s := by
  unfold strokeExpired
  dsimp only
  split
  · next h => exact absurd h he
  · next h => exact absurd h hl
  · rfl

/-! ### Requests of the actuator and the idle-lift point (R101, R109) -/

theorem Station.lift_eq (u : Station) :
    u.lift = if u.actuator = .engaging ∨ u.actuator = .engaged then
      (if u.liftedIn then { u with valve := .lift, actuator := .lifted, stroke := none }
       else { u with valve := .lift, actuator := .lifting, stroke := some u.setup.actTimeout }) else u := by
  cases h : u.actuator <;> simp [Station.lift, h]

theorem Station.engage_eq (u : Station) :
    u.engage = if u.actuator = .lifted ∨ u.actuator = .lifting then
      (if u.engagedIn then { u with valve := .engage, actuator := .engaged, stroke := none }
       else { u with valve := .engage, actuator := .engaging, stroke := some u.setup.actTimeout }) else u := by
  cases h : u.actuator <;> simp [Station.engage, h]

theorem exec_idleLiftPoint (st : StationId) (s : State) :
    exec (.idleLiftPoint st) s = .next (idleLiftDue st s) := rfl

theorem undelivered_iff (v : Visit) : v.undelivered = true ↔ v.decision = some .strike ∧ v.state ≠ .final := by
  simp [Visit.undelivered, Visit.strikes, Visit.open]

section

variable {s : State} {st : StationId}

theorem idleLiftDue_reached {p : Pos} (hp : (s.station st).idleLift = some p) (hr : 0 ≤ sdiff s.ref.hw p) :
    idleLiftDue st s = s.modStation st fun u =>
      if (visitsOf st s.queue).any Visit.undelivered then { u with idleLift := none }
      else ({ u with idleLift := none } : Station).lift := by
  rw [idleLiftDue, hp]
  exact if_pos ((reached_iff _ _).mpr hr)

theorem idleLiftDue_not (h : ∀ p, (s.station st).idleLift = some p → sdiff s.ref.hw p < 0) : idleLiftDue st s = s := by
  unfold idleLiftDue
  split
  · next p hp => exact if_neg (mt (reached_iff _ _).mp (Int.not_le.mpr (h p hp)))
  · rfl

theorem anyUndelivered_iff (st : StationId) (q : List LabelRecord) :
    (visitsOf st q).any Visit.undelivered = true ↔
      ∃ r ∈ q, ∃ v, r.visit st = some v ∧ v.decision = some .strike ∧ v.state ≠ .final := by
  simp only [visitsOf, List.any_filterMap, List.any_eq_true]
  refine exists_congr fun r => and_congr_right fun _ => ?_
  cases hv : r.visit st with
  | none => simp
  | some v => simp [undelivered_iff]

end

/-! ### The inputs of a source (R3, R7, R13, R16) -/

theorem exec_sourceFaultInputAsserted (x : Source) (s : State) :
    exec (.sourceFaultInputAsserted x) s = .next (sourceFaultAsserted x s) := rfl

theorem exec_sourceFaultInputClears (x : Source) (s : State) :
    exec (.sourceFaultInputClears x) s = .next (sourceFaultClears x s) := rfl

theorem exec_motionTimerExpiry (x : Source) (s : State) :
    exec (.motionTimerExpiry x) s = .next (motionExpired x s) := rfl

theorem exec_speedSampleTimerExpiry (s : State) : exec .speedSampleTimerExpiry s = .next (speedSample s) := rfl

theorem abandonSpan_eq (r : Reference) : r.abandonSpan = abandoned r := by
  obtain ⟨_, _, _, _, _, _, _, _, _, _, origin, _, _⟩ := r
  cases origin <;> rfl

theorem withSource_withSource (r : Reference) (x : Source) (u v : SourceUnit) :
    (r.withSource x u).withSource x v = r.withSource x v := by
  cases x <;> rfl

theorem withSource_source (r : Reference) (x : Source) (u : SourceUnit) : (r.withSource x u).source x = u := by
  cases x <;> rfl

theorem withSource_selected (r : Reference) (x : Source) (u : SourceUnit) :
    (r.withSource x u).selected = r.selected := by
  cases x <;> rfl

/-- The source enters FAULT, its timer stopped and an open span abandoned (R3, R16). -/
def State.faultedSource (s : State) (x : Source) : State :=
  { s with ref := abandoned (s.ref.withSource x { s.ref.source x with faultIn := true, state := .fault, motion := none }) }

section

variable {s : State} {x : Source}

theorem sourceFaults_eq (x : Source) (s : State) :
    sourceFaults x s =
      let t : State := { s with
        ref := abandoned (s.ref.withSource x { s.ref.source x with state := .fault, motion := none }) }
      raiseEvent .sourceFault 0 x.code (if s.ref.selected = x then flush (addReference t) else t) := by
  have hselected :
      (abandoned (s.ref.withSource x { s.ref.source x with state := .fault, motion := none })).selected = s.ref.selected :=
    withSource_selected ..
  unfold sourceFaults
  dsimp only
  rw [abandonSpan_eq, hselected]

theorem sourceFaultAsserted_eq (h : (s.ref.source x).state = .still ∨ (s.ref.source x).state = .moving) :
    sourceFaultAsserted x s = raiseEvent .sourceFault 0 x.code
      (if s.ref.selected = x then flush (addReference (s.faultedSource x)) else s.faultedSource x) := by
  let s' : State := { s with ref := s.ref.withSource x { s.ref.source x with faultIn := true } }
  have hrun : sourceFaultAsserted x s = sourceFaults x s' := by
    unfold sourceFaultAsserted
    dsimp only
    rw [withSource_source]
    split
    · rfl
    · rfl
    · next hstill hmoving => exact (h.elim hstill hmoving).elim
  have href : s'.ref.source x = { s.ref.source x with faultIn := true } := withSource_source ..
  have hselected : s'.ref.selected = s.ref.selected := withSource_selected ..
  rw [hrun, sourceFaults_eq, href, hselected, withSource_withSource]
  rfl

theorem sourceFaultAsserted_level (h : ¬ ((s.ref.source x).state = .still ∨ (s.ref.source x).state = .moving)) :
    sourceFaultAsserted x s = { s with ref := s.ref.withSource x { s.ref.source x with faultIn := true } } := by
  unfold sourceFaultAsserted
  dsimp only
  rw [withSource_source]
  split
  · next hs => exact absurd (.inl hs) h
  · next hs => exact absurd (.inr hs) h
  · rfl

theorem sourceFaultClears_eq (x : Source) (s : State) :
    sourceFaultClears x s = { s with ref := s.ref.withSource x { s.ref.source x with
      faultIn := false
      state := if (s.ref.source x).state = .fault then .still else (s.ref.source x).state } } := by
  unfold sourceFaultClears
  by_cases h : (s.ref.source x).state = .fault
  · simp only [if_pos h]
  · simp only [if_neg h]

end

end Sys2Proof.Machine

namespace Sys2Proof.Proofs

open Sys2Proof.Machine

/-- Settles O55, by what a confirm, a failed stroke and a reached idle-lift point each do. -/
theorem strokesCompleteOrFail : Obligations.StrokesCompleteOrFail := by
  intro s st level u jam
  rw [exec_engagedConfirm, exec_liftedConfirm, exec_strokeTimerExpiry, exec_idleLiftPoint]
  refine ⟨?_, fun h => ?_, ?_, fun h => ?_, fun h => congrArg _ (strokeExpired_engaging h),
    fun h => congrArg _ (strokeExpired_lifting h), fun he hl => congrArg _ (strokeExpired_other he hl),
    fun p hp hr => ⟨fun hnone => ?_, fun r hrec v hv hstrike hopen => ?_⟩,
    fun h => congrArg _ (idleLiftDue_not h), u.lift_eq, u.engage_eq⟩
  · rintro rfl hu ha
    exact congrArg (fun x => Host.Outcome.next (s.setStation st x)) (Station.engagedConfirm_completes hu ha)
  · exact congrArg (fun x => Host.Outcome.next (s.setStation st x)) (Station.engagedConfirm_level h)
  · rintro rfl hu ha
    exact congrArg (fun x => Host.Outcome.next (s.setStation st x)) (Station.liftedConfirm_completes hu ha)
  · exact congrArg (fun x => Host.Outcome.next (s.setStation st x)) (Station.liftedConfirm_level h)
  · have hno : ¬ (visitsOf st s.queue).any Visit.undelivered = true := fun hany => by
      obtain ⟨r, hr, v, hv, hd, hf⟩ := (anyUndelivered_iff st s.queue).mp hany
      exact hf (hnone r hr v hv hd)
    rw [idleLiftDue_reached hp hr]
    simp only [if_neg hno]
    rfl
  · have hany := (anyUndelivered_iff st s.queue).mpr ⟨r, hrec, v, hv, hstrike, hopen⟩
    rw [idleLiftDue_reached hp hr]
    simp only [if_pos hany]
    rfl

/-- Settles O43, by the source's state before its input or its timer. -/
theorem sourceFaultMotionAndSpeed : Obligations.SourceFaultMotionAndSpeed := by
  intro s x u moves faulted fault
  rw [exec_sourceFaultInputAsserted, exec_sourceFaultInputClears, exec_motionTimerExpiry, exec_speedSampleTimerExpiry]
  refine ⟨fun hm hx => ?_, fun hm hx => ?_, fun hm => congrArg _ (sourceFaultAsserted_level hm),
    congrArg _ (sourceFaultClears_eq x s), fun hm => ?_, fun hm => congrArg _ (if_neg hm), ?_⟩
  · rw [sourceFaultAsserted_eq hm, if_neg hx]
    rfl
  · rw [sourceFaultAsserted_eq hm, if_pos hx]
    rfl
  · refine congrArg Host.Outcome.next ((if_pos hm).trans ?_)
    rw [abandonSpan_eq]
  · rfl

end Sys2Proof.Proofs
end

section

/-!
## The flush and the fault actions

What a raise, a flush (R12) and a hard cause (R96) make of the part, field by field.
-/

namespace Sys2Proof.Machine

/-! ### A raise reads the event set, the link and the web counter only (R180) -/

theorem txChoose_congr {s t : State} (he : t.events = s.events) (hl : t.link = s.link) :
    txChoose t = { t with events := (txChoose s).events, link := (txChoose s).link } := by
  unfold txChoose
  rw [he, hl]
  cases s.link.tx with
  | some f => simp [← he, ← hl]
  | none =>
    cases s.link.slot with
    | some f => simp [← he]
    | none =>
      cases s.events.due with
      | nil => simp [← he, ← hl]
      | cons k ks => rfl

theorem raiseEvent_congr (k : EventKind) (unit detail : Nat) {s t : State} (he : t.events = s.events)
    (hl : t.link = s.link) (hw : t.web = s.web) :
    raiseEvent k unit detail t =
      { t with events := (raiseEvent k unit detail s).events, link := (raiseEvent k unit detail s).link } := by
  simp only [raiseEvent_eq, he, hw]
  split
  · rw [hl]
  · split
    · let raised : EventSet := { s.events with
        records := s.events.records.set k.index { unit, detail, web := s.web }
        flags := s.events.flags ||| k.bit, due := s.events.due ++ [k] }
      exact txChoose_congr (s := { s with events := raised }) (t := { t with events := raised }) rfl hl
    · rw [hl]

/-! ### The flush (R12) -/

theorem Lane.halt_eq (u : Lane) (web : Pos) :
    u.halt web = if u.state = .active ∨ u.state = .parked then
        { u with pendingFeeds := [], lastFeed := none, state := .parked
                 drive := u.drive ++ [{ kind := .stopAll, start := web, length := 0, follow := .jump }] }
      else u := by
  cases h : u.state <;> simp [Lane.halt, Lane.stopAll, Lane.send, fullStop, h]

theorem Lane.flush_eq (u : Lane) (web : Pos) :
    u.flush web = if u.state = .active ∨ u.state = .parked then
        { u with pendingFeeds := [], lastFeed := none, state := .parked
                 drive := u.drive ++ [{ kind := .stopAll, start := web, length := 0, follow := .jump }] }
      else { u with pendingFeeds := [] } := by
  rw [Lane.flush, Lane.halt_eq]
  split <;> rfl

/-- The part that a flush leaves, before its raises. -/
def State.flushed (s : State) : State :=
  { s with
    queue := []
    m0 := s.m0.leave
    stations := s.stations.map Station.flush
    lanes := s.lanes.map fun u => u.flush s.web
    tracker := if s.job.state = .armed then s.tracker.enterSearch else s.tracker.enterOff
    job := { s.job with
      activeLive := 0, draining := none, drainingLive := 0,
      state := if s.job.state = .draining then .ended else s.job.state,
      endReason := if s.job.state = .draining then some .flush else s.job.endReason }
    ref := { s.ref with hw := s.web }
    wake := s.wake.map fun _ => posShift s.web s.entry.wakeTravel }

/-- A change of lanes that reads the web counter reads the same one at each lane. -/
theorem overLanes_web (f : Pos → Lane → Lane) (ls : List LaneId) (s : State) :
    overLanes ls (fun l s => s.modLane l (f s.web)) s = overLanes ls (fun l t => t.modLane l (f s.web)) s := by
  suffices h : ∀ t : State, t.web = s.web →
      ls.foldl (fun s l => s.modLane l (f s.web)) t = ls.foldl (fun t l => t.modLane l (f s.web)) t from h s rfl
  induction ls with
  | nil => exact fun _ _ => rfl
  | cons l ls ih =>
    intro t ht
    rw [List.foldl_cons, List.foldl_cons, ht]
    exact ih _ ht

theorem PerLane.ext_get {α : Type} {p q : PerLane α} (h : ∀ l, p.get l = q.get l) : p = q := by
  cases p
  cases q
  simp only [PerLane.mk.injEq]
  exact ⟨h .l0, h .l1, h .l2, h .l3, h .l4, h .l5⟩

/-- The same change at all six lanes. -/
theorem overLanes_modLane_all (f : Lane → Lane) (s : State) :
    overLanes allLanes (fun l s => s.modLane l f) s = { s with lanes := s.lanes.map f } := by
  obtain ⟨lanes, hframe⟩ := overLanes_modLane_frame (fun _ => f) allLanes s
  have hlanes : lanes = s.lanes.map f := PerLane.ext_get fun l => by
    have hl := overLanes_modLane_lane f (by decide : allLanes.Nodup) s l
    rw [hframe, if_pos (mem_allLanes l)] at hl
    rw [PerLane.get_map]
    exact hl
  rw [hframe, hlanes]

/-- A flush before its raises and HW. -/
def State.emptied (s : State) : State :=
  { s with
    queue := []
    m0 := s.m0.leave
    stations := s.stations.map Station.flush
    lanes := s.lanes.map fun u => u.flush s.web
    tracker := if s.job.state = .armed then s.tracker.enterSearch else s.tracker.enterOff
    job := { s.job with activeLive := 0, draining := none, drainingLive := 0 } }

theorem flush_emptied (s : State) :
    flush s =
      let t := flushJob s.emptied
      raiseEvent .queueFlushed 0 s.queue.length { t with
        ref := { t.ref with hw := t.web }, wake := t.wake.map fun _ => posShift t.web t.entry.wakeTravel } := by
  have hlanes (t : State) : overLanes allLanes (fun l s => s.modLane l fun u => u.flush s.web) t =
      { t with lanes := t.lanes.map fun u => u.flush t.web } :=
    (overLanes_web (fun web u => u.flush web) allLanes t).trans (overLanes_modLane_all _ t)
  unfold flush
  dsimp only
  rw [overStations_modStation, hlanes]
  have hstate : (emptyQueue (voidVisits s)).job.state = s.job.state := rfl
  unfold State.emptied
  rw [hstate]
  by_cases h : s.job.state = .armed
  · simp only [if_pos h]
    rfl
  · simp only [if_neg h]
    rfl

theorem flushJob_eq (s : State) :
    flushJob s = if s.job.state = .draining then
        raiseEvent .jobEnded 0 (3 * 256 + placeId s.job.active)
          { s with job := { s.job with state := .ended, endReason := some .flush } }
      else s := by
  unfold flushJob placeId
  rfl

theorem flush_eq (s : State) :
    flush s = raiseEvent .queueFlushed 0 s.queue.length
      (if s.job.state = .draining then
        { s.flushed with
          events := (raiseEvent .jobEnded 0 (3 * 256 + placeId s.job.active) s).events
          link := (raiseEvent .jobEnded 0 (3 * 256 + placeId s.job.active) s).link }
      else s.flushed) := by
  rw [flush_emptied, flushJob_eq]
  have hdraining : s.emptied.job.state = s.job.state := rfl
  rw [hdraining]
  by_cases h : s.job.state = .draining
  · have hraise : raiseEvent .jobEnded 0 (3 * 256 + placeId s.emptied.job.active)
          { s.emptied with job := { s.emptied.job with state := .ended, endReason := some .flush } } =
        { s.emptied with
          job := { s.emptied.job with state := .ended, endReason := some .flush }
          events := (raiseEvent .jobEnded 0 (3 * 256 + placeId s.job.active) s).events
          link := (raiseEvent .jobEnded 0 (3 * 256 + placeId s.job.active) s).link } :=
      raiseEvent_congr .jobEnded 0 _ (s := s) rfl rfl rfl
    rw [if_pos h, if_pos h, hraise]
    unfold State.flushed
    simp only [if_pos h]
    rfl
  · rw [if_neg h, if_neg h]
    unfold State.flushed
    simp only [if_neg h]
    rfl

/-! ### Feeds withdrawn from a lane (R57, R129) -/

theorem stopOne_absent {u : Lane} {seq : BitVec 16} (h : (u.pendingFeeds.find? fun f => f.seq == seq) = none) :
    u.stopOne seq = u := by
  rw [Lane.stopOne, h]

/-- A feed that is not pending is not withdrawn. -/
theorem withdrawn_cons_absent {u : Lane} {seq : BitVec 16} (h : (u.pendingFeeds.find? fun f => f.seq == seq) = none)
    (seqs : List (BitVec 16)) : withdrawn u (seq :: seqs) = withdrawn u seqs := by
  have hfilter : (u.pendingFeeds.filter fun f => !(seq :: seqs).contains f.seq) =
      u.pendingFeeds.filter fun f => !seqs.contains f.seq := by
    refine List.filter_congr fun f hf => ?_
    have hne : ¬ f.seq = seq := fun he => by simpa [he] using List.find?_eq_none.mp h f hf
    simp [hne]
  unfold withdrawn
  rw [List.filterMap_cons, h, hfilter]

theorem stopOne_found {u : Lane} {seq : BitVec 16} {f : PendingFeed}
    (h : (u.pendingFeeds.find? fun f => f.seq == seq) = some f) :
    u.stopOne seq = { u with
      drive := u.drive ++ [{ kind := .stopOne, start := f.start, length := f.length, follow := .jump }]
      pendingFeeds := u.pendingFeeds.filter fun f => f.seq != seq
      lastFeed := if u.lastFeed.any fun g => g.seq == seq then none else u.lastFeed
      state := if u.lastFeed.any fun g => g.seq == seq then .parked else u.state } := by
  unfold Lane.stopOne
  rw [h]
  dsimp only [Lane.send]
  cases hl : u.lastFeed with
  | none => simp
  | some g => by_cases hg : g.seq = seq <;> simp [hg]

/-- A second STOP for the same feed finds nothing. -/
theorem stopOne_stopOne (u : Lane) (seq : BitVec 16) : (u.stopOne seq).stopOne seq = u.stopOne seq := by
  cases h : u.pendingFeeds.find? fun f => f.seq == seq with
  | none => rw [stopOne_absent h, stopOne_absent h]
  | some f =>
    refine stopOne_absent ?_
    rw [stopOne_found h]
    exact List.find?_eq_none.mpr fun g hg => by simpa using (List.mem_filter.mp hg).2

theorem withdrawn_nil (u : Lane) : withdrawn u [] = u := by
  have hparks : (u.lastFeed.any fun _ => false) = false := by cases u.lastFeed <;> rfl
  have hall : (u.pendingFeeds.filter fun f => !([] : List (BitVec 16)).contains f.seq) = u.pendingFeeds :=
    List.filter_eq_self.mpr fun _ _ => rfl
  unfold withdrawn
  simp only [List.filterMap_nil, List.any_nil, hparks, hall, List.map_nil, List.append_nil, Bool.false_eq_true, if_false]

/-- STOPs for different feeds, sent one after the other, withdraw them all. -/
theorem withdrawn_cons {u : Lane} {seq : BitVec 16} {seqs : List (BitVec 16)} (hseq : seq ∉ seqs) :
    withdrawn (u.stopOne seq) seqs = withdrawn u (seq :: seqs) := by
  cases h : u.pendingFeeds.find? fun f => f.seq == seq with
  | none => rw [stopOne_absent h, withdrawn_cons_absent h]
  | some f =>
    have hf : f.seq = seq := by simpa using List.find?_some h
    have hfind : ∀ q ∈ seqs, ((u.pendingFeeds.filter fun f => f.seq != seq).find? fun f => f.seq == q) =
        u.pendingFeeds.find? fun f => f.seq == q := by
      intro q hq
      rw [List.find?_filter]
      congr 1
      funext x
      by_cases hx : x.seq = q
      · have hne : q ≠ seq := fun he => hseq (he ▸ hq)
        simp [hx, hne]
      · simp [hx]
    have hstopped : (seqs.filterMap fun q => (u.pendingFeeds.filter fun f => f.seq != seq).find? fun f => f.seq == q) =
        seqs.filterMap fun q => u.pendingFeeds.find? fun f => f.seq == q := List.filterMap_congr hfind
    have hpending : ((u.pendingFeeds.filter fun f => f.seq != seq).filter fun f => !seqs.contains f.seq) =
        u.pendingFeeds.filter fun f => !(seq :: seqs).contains f.seq := by
      rw [List.filter_filter]
      refine List.filter_congr fun x _ => ?_
      by_cases hx : x.seq = seq <;> simp [hx]
    rw [stopOne_found h]
    unfold withdrawn
    dsimp only
    rw [hstopped, hpending, List.filterMap_cons, h, List.map_cons, List.append_assoc]
    cases hl : u.lastFeed with
    | none => simp
    | some g => by_cases hg : g.seq = seq <;> simp [hg, hf, eq_comm (a := seq)]

theorem foldl_stopOne {seqs : List (BitVec 16)} (hnd : seqs.Nodup) (u : Lane) :
    seqs.foldl (fun u seq => u.stopOne seq) u = withdrawn u seqs := by
  induction seqs generalizing u with
  | nil => exact (withdrawn_nil u).symm
  | cons seq seqs ih =>
    obtain ⟨hseq, hrest⟩ := List.nodup_cons.mp hnd
    rw [List.foldl_cons, ih hrest, withdrawn_cons hseq]

/-! ### Conversions of a station's visits (R55 to R57) -/

/-- A feed record names the lane. -/
def namesLane (feeds : List FeedRecord) (l : LaneId) : Bool := feeds.any fun f => f.lane == l

theorem skipDecided_lane (seq : BitVec 16) (st : StationId) (s : State) (l : LaneId) :
    (skipDecided seq st s).lane l = s.lane l := by
  unfold skipDecided
  split <;> rfl

theorem skipDecided_queue (seq : BitVec 16) (st : StationId) (s : State) : (skipDecided seq st s).queue = s.queue := by
  unfold skipDecided
  split <;> rfl

/-- The STOPs of one record's feed reach the lanes named, once or more often. -/
theorem stopLanes_lane (seq : BitVec 16) (ls : List LaneId) (s : State) (l : LaneId) :
    (overLanes ls (fun l s => s.modLane l fun u => u.stopOne seq) s).lane l =
      if l ∈ ls then (s.lane l).stopOne seq else s.lane l := by
  unfold overLanes
  induction ls generalizing s with
  | nil => simp
  | cons x xs ih =>
    rw [List.foldl_cons, ih]
    by_cases hx : l = x
    · subst hx
      simp [stopOne_stopOne]
    · simp [hx, State.modLane_lane_of_ne s hx fun u => u.stopOne seq]

theorem convertVisit_lane (seq : BitVec 16) (st : StationId) (reason : SkipReason) (feeds : List FeedRecord)
    (s : State) (l : LaneId) :
    (convertVisit seq st reason feeds s).lane l =
      if namesLane feeds l then (s.lane l).stopOne seq else s.lane l := by
  have hmem : namesLane feeds l = true ↔ l ∈ feeds.map FeedRecord.lane := by
    simp [namesLane]
  rw [convertVisit, skipDecided_lane, stopLanes_lane]
  simp only [hmem]
  rfl

theorem convertVisit_queue (seq : BitVec 16) (st : StationId) (reason : SkipReason) (feeds : List FeedRecord)
    (s : State) :
    (convertVisit seq st reason feeds s).queue =
      visitsChanged s.queue seq st fun v => { v with decision := some (.skip reason) } := by
  obtain ⟨lanes, hlanes⟩ := overLanes_modLane_frame (fun _ u => u.stopOne seq) (feeds.map FeedRecord.lane)
    (modVisit seq st (fun v => { v with decision := some (.skip reason) }) s)
  rw [convertVisit, skipDecided_queue, hlanes]
  rfl

section

variable (st : StationId) (reason : SkipReason)

/-- The conversions of visits in a row. -/
theorem convertList_lane (xs : List (BitVec 16 × List FeedRecord)) (s : State) (l : LaneId) :
    (xs.foldl (fun s x => convertVisit x.1 st reason x.2 s) s).lane l =
      ((xs.filter fun x => namesLane x.2 l).map Prod.fst).foldl (fun u seq => u.stopOne seq) (s.lane l) := by
  induction xs generalizing s with
  | nil => rfl
  | cons x xs ih =>
    rw [List.foldl_cons, ih, convertVisit_lane]
    by_cases hx : namesLane x.2 l = true
    · rw [if_pos hx, List.filter_cons_of_pos (by exact hx), List.map_cons, List.foldl_cons]
    · rw [if_neg hx, List.filter_cons_of_neg (by exact hx)]

/-- A record whose visit at a station is converted. -/
def LabelRecord.converted (r : LabelRecord) : LabelRecord :=
  r.modVisit st fun v => { v with decision := some (.skip reason) }

theorem converted_converted (r : LabelRecord) :
    LabelRecord.converted st reason (LabelRecord.converted st reason r) = LabelRecord.converted st reason r := by
  have hvisit : (LabelRecord.converted st reason r).visit st =
      (r.visit st).map fun v => { v with decision := some (.skip reason) } := PerStation.get_put_self ..
  have htwice : ((r.visit st).map fun v : Visit => { v with decision := some (.skip reason) }).map
      (fun v : Visit => { v with decision := some (.skip reason) }) =
        (r.visit st).map fun v => { v with decision := some (.skip reason) } := by
    cases r.visit st <;> rfl
  rw [LabelRecord.converted, LabelRecord.modVisit, hvisit, htwice]
  simp only [LabelRecord.converted, LabelRecord.modVisit, PerStation.put_put]

theorem convertList_queue (xs : List (BitVec 16 × List FeedRecord)) (s : State) :
    (xs.foldl (fun s x => convertVisit x.1 st reason x.2 s) s).queue =
      s.queue.map fun r => if r.seq ∈ xs.map Prod.fst then r.converted st reason else r := by
  induction xs generalizing s with
  | nil => simp
  | cons x xs ih =>
    have hfirst : visitsChanged s.queue x.1 st (fun v => { v with decision := some (.skip reason) }) =
        s.queue.map fun r => if r.seq = x.1 then r.converted st reason else r := rfl
    rw [List.foldl_cons, ih, convertVisit_queue, hfirst, List.map_map]
    refine List.map_congr_left fun r _ => ?_
    have hseq : (r.converted st reason).seq = r.seq := rfl
    have htwice := converted_converted st reason r
    simp only [Function.comp_apply, List.map_cons, List.mem_cons]
    by_cases hx : r.seq = x.1
    · simp only [hx, true_or, if_true, hseq, htwice, ite_self]
    · simp only [hx, false_or, if_false]

/-- The seqs of the conversions at one station that reach a lane. -/
theorem withdrawing_station (q : List LabelRecord) (l : LaneId) :
    withdrawing q [st] l = ((undeliveredOf st q).filter fun x => namesLane x.2 l).map Prod.fst := by
  unfold withdrawing undeliveredOf
  induction q with
  | nil => rfl
  | cons r q ih =>
    rw [List.filterMap_cons, List.filter_cons]
    cases hv : r.visit st with
    | none => simpa [undeliveredAt, hv] using ih
    | some v =>
      have hat : undeliveredAt r st = v.undelivered := by
        simp [undeliveredAt, hv, Visit.undelivered, Visit.strikes, Visit.open]
      cases hu : v.undelivered with
      | false => simpa [hat, hu] using ih
      | true =>
        have hnames : ((some v).any fun v : Visit => v.feeds.any fun f => f.lane == l) = namesLane v.feeds l := rfl
        simp only [List.any_cons, List.any_nil, Bool.or_false, hat, hu, hv, Bool.true_and, if_true, hnames] at ih ⊢
        rw [List.filter_cons]
        cases hl : namesLane v.feeds l with
        | false => exact ih
        | true => exact congrArg (r.seq :: ·) ih

theorem mem_undeliveredOf {s : State} (hn : s.Numbered) (hlen : s.queue.length ≤ Config.queueCapacity)
    {r : LabelRecord} (hr : r ∈ s.queue) :
    r.seq ∈ (undeliveredOf st s.queue).map Prod.fst ↔ undeliveredAt r st = true := by
  have hone (x : LabelRecord) (y : BitVec 16 × List FeedRecord) :
      (match x.visit st with
        | some v => if v.undelivered then some (x.seq, v.feeds) else none
        | none => none) = some y ↔ ∃ v, x.visit st = some v ∧ v.undelivered = true ∧ (x.seq, v.feeds) = y := by
    cases x.visit st <;> simp
  have hat : undeliveredAt r st = true ↔ ∃ v, r.visit st = some v ∧ v.undelivered = true := by
    cases hv : r.visit st <;> simp [undeliveredAt, hv, Visit.undelivered, Visit.strikes, Visit.open]
  rw [hat, undeliveredOf, List.mem_map]
  constructor
  · rintro ⟨y, hy, hseq⟩
    obtain ⟨x, hx, hxy⟩ := List.mem_filterMap.mp hy
    obtain ⟨v, hv, hu, rfl⟩ := (hone x y).mp hxy
    rw [← hn.seq_unique hlen hx hr hseq]
    exact ⟨v, hv, hu⟩
  · rintro ⟨v, hv, hu⟩
    exact ⟨(r.seq, v.feeds), List.mem_filterMap.mpr ⟨r, hr, (hone r _).mpr ⟨v, hv, hu, rfl⟩⟩, rfl⟩

/-- A withdrawal list has each record at most once. -/
theorem withdrawing_nodup {q : List LabelRecord} (hnd : (q.map LabelRecord.seq).Nodup) (sts : List StationId)
    (l : LaneId) : (withdrawing q sts l).Nodup :=
  hnd.sublist (List.filter_sublist.map _)

end

/-! ### The fault actions (R96) -/

section

variable {s : State} {st : StationId}

theorem convertAll_lane (hnd : (s.queue.map LabelRecord.seq).Nodup) (l : LaneId) :
    (convertAll st s).lane l = withdrawn (s.lane l) (withdrawing s.queue [st] l) := by
  rw [convertAll, convertList_lane, ← withdrawing_station, foldl_stopOne (withdrawing_nodup hnd _ _)]

/-- A visit after the conversion of the undelivered STRIKEs. -/
def Visit.held (v : Visit) : Visit :=
  if v.decision = some .strike ∧ v.state ≠ .final then { v with decision := some (.skip .hold) } else v

theorem convertAll_queue (hn : s.Numbered) (hlen : s.queue.length ≤ Config.queueCapacity) :
    (convertAll st s).queue =
      s.queue.map fun r => { r with visits := r.visits.put st ((r.visits.get st).map Visit.held) } := by
  rw [convertAll, convertList_queue]
  refine List.map_congr_left fun r hr => ?_
  simp only [mem_undeliveredOf st hn hlen hr]
  have hkeep (o : Option Visit) (ho : r.visits.get st = o) : r = { r with visits := r.visits.put st o } := by
    rw [← ho, PerStation.put_get]
  cases hv : r.visits.get st with
  | none =>
    have hat : ¬ undeliveredAt r st = true := by simp [undeliveredAt, LabelRecord.visit, hv]
    rw [if_neg hat]
    exact hkeep none hv
  | some v =>
    have hat : undeliveredAt r st = true ↔ v.decision = some .strike ∧ v.state ≠ .final := by
      simp [undeliveredAt, LabelRecord.visit, hv]
    by_cases hheld : v.decision = some .strike ∧ v.state ≠ .final
    · rw [if_pos (hat.mpr hheld), Option.map_some, Visit.held, if_pos hheld, LabelRecord.converted,
        LabelRecord.modVisit, LabelRecord.visit, hv, Option.map_some]
    · rw [if_neg (mt hat.mp hheld), Option.map_some, Visit.held, if_neg hheld]
      exact hkeep (some v) hv

theorem Station.lift_hold (u : Station) (h : HoldSet) : ({ u with hold := h } : Station).lift = { u.lift with hold := h } := by
  rw [Station.lift_eq, Station.lift_eq]
  split
  · split <;> rfl
  · rfl

theorem haltLanes_queue (st : StationId) (s : State) : (haltLanes st s).queue = s.queue := by
  obtain ⟨lanes, hlanes⟩ := overLanes_modLane_frame (fun s u => u.halt s.web) (s.lanesOf st) s
  rw [haltLanes, hlanes]

theorem haltLanes_lane (l : LaneId) :
    (haltLanes st s).lane l = if (s.lane l).station = some st then (s.lane l).halt s.web else s.lane l := by
  have hweb := overLanes_web (fun web u => u.halt web) (s.lanesOf st) s
  rw [haltLanes, hweb, overLanes_modLane_lane _ (lanesOf_nodup s st)]
  simp only [mem_lanesOf]

end

end Sys2Proof.Machine

namespace Sys2Proof.Proofs

open Sys2Proof.Machine

/-- Settles O44, by what each act of the flush leaves, and that a raise reads none of it. -/
theorem flushEmptiesTheQueue : Obligations.FlushEmptiesTheQueue := by
  intro s ended lane t
  have hflushed : s.flushed = t := by
    have hlane : (fun u : Lane => u.flush s.web) = lane := funext fun u => u.flush_eq s.web
    have hshift : posShift s.web s.entry.wakeTravel = s.web + BitVec.ofNat 32 s.entry.wakeTravel := by
      rw [posShift, BitVec.ofInt_natCast]
    unfold State.flushed
    rw [hlane, hshift]
    rfl
  rw [flush_eq, hflushed]
  by_cases h : ended
  · rw [if_pos h, if_pos h]
    obtain ⟨events, link, hframe⟩ := raiseEvent_frame .jobEnded 0 (3 * 256 + placeId s.job.active) s
    rw [hframe]
  · rw [if_neg h, if_neg h]

/-- Settles O45, by what the conversions and the halt make of each visit and each lane. -/
theorem hardCauseTakesTheFaultActions : Obligations.HardCauseTakesTheFaultActions := by
  intro s c st hhard hn hcap
  refine ⟨fun h => if_neg fun hb => ?_, fun he hh => ?_⟩
  · simp only [Bool.and_eq_true, Bool.not_eq_true'] at hb
    rcases h with h | h
    · exact Bool.false_ne_true (h.symm.trans hb.1)
    · exact Bool.false_ne_true (hb.2.symm.trans h)
  · intro t converted
    let held : State := s.modStation st fun u => ({ u with hold := u.hold.put c true } : Station).cancelAndLift
    have hsoft : addSoft c st s = s.modStation st fun u => { u with hold := u.hold.put c true } := if_pos he
    have ht : t = haltLanes st (convertAll st held) := by
      refine (if_pos (by rw [he, hh]; rfl)).trans ?_
      rw [hsoft, faultActions, State.modStation_modStation]
    have hnumbered : held.Numbered := hn
    have hlen : held.queue.length ≤ Config.queueCapacity := hcap.queue
    refine ⟨?_, fun st' hne => ?_, ?_, fun l => ?_, ?_⟩
    · rw [addHard_station, if_pos ⟨rfl, he, hh⟩]
      exact Station.lift_hold { s.station st with idleLift := none } _
    · rw [addHard_station, if_neg fun h => hne h.1]
    · rw [ht, haltLanes_queue]
      exact convertAll_queue hnumbered hlen
    · intro w
      have hw : (convertAll st held).lane l = w := convertAll_lane (hnumbered.seqs_nodup hlen) l
      have hstation : w.station = (s.lane l).station := rfl
      have hweb : (convertAll st held).web = s.web := by
        obtain ⟨_, _, _, hframe⟩ := convertAll_frame st held
        rw [hframe]
        rfl
      rw [ht, haltLanes_lane, hw, hweb, hstation, Lane.halt_eq]
      by_cases hst : (s.lane l).station = some st
      · rw [if_pos hst]
        exact if_congr (and_iff_right hst).symm rfl rfl
      · rw [if_neg hst, if_neg fun h => hst h.1]
    · obtain ⟨_, _, _, hframe⟩ := addHard_frame c st s
      have ht' : t = _ := hframe
      rw [ht']

end Sys2Proof.Proofs
end

section

/-!
## Counts of a source

A count of a source moves the web or the tally (R3 to R5, R8, R11, R15); the levels of a source's pair stand apart from what the
flush and the fault actions do.
-/

namespace Sys2Proof.Machine

/-! ### The reference unit stands apart from the fault actions -/

/-- The state with another reference unit. -/
def State.withRef (s : State) (r : Reference) : State := { s with ref := r }

/-- What an operation does, and the reference unit, do not touch each other. -/
def RefApart (f : State → State) : Prop := ∀ (r : Reference) (s : State), f (s.withRef r) = (f s).withRef r

section

variable {f g : State → State}

theorem RefApart.comp (hg : RefApart g) (hf : RefApart f) : RefApart fun s => g (f s) := fun r s =>
  (congrArg g (hf r s)).trans (hg r (f s))

theorem RefApart.ite {c : State → Prop} [∀ s, Decidable (c s)] (hc : ∀ r s, c (s.withRef r) = c s) (hf : RefApart f)
    (hg : RefApart g) : RefApart fun s => if c s then f s else g s := by
  intro r s
  simp only [hc]
  split
  · exact hf r s
  · exact hg r s

theorem RefApart.foldl {α : Type} {h : State → α → State} (hh : ∀ a, RefApart fun s => h s a) (as : List α) :
    RefApart fun s => as.foldl h s := by
  intro r s
  induction as generalizing s with
  | nil => rfl
  | cons a as ih => exact (congrArg (List.foldl h · as) (hh a r s)).trans (ih (h s a))

theorem refApart_addSoft (c : Cause) (st : StationId) : RefApart (addSoft c st) :=
  .ite (fun _ _ => rfl) (fun _ _ => rfl) fun _ _ => rfl

theorem refApart_skipDecided (seq : BitVec 16) (st : StationId) : RefApart (skipDecided seq st) :=
  .ite (c := fun s => (visitsOf st (recordsBefore seq s.queue)).any Visit.undelivered = true) (fun _ _ => rfl)
    (fun _ _ => rfl) fun _ _ => rfl

theorem refApart_convertVisit (seq : BitVec 16) (st : StationId) (reason : SkipReason) (feeds : List FeedRecord) :
    RefApart (convertVisit seq st reason feeds) :=
  (refApart_skipDecided seq st).comp ((RefApart.foldl (h := fun s l => s.modLane l fun u => u.stopOne seq)
    (fun _ _ _ => rfl) _).comp fun _ _ => rfl)

theorem refApart_convertAll (st : StationId) : RefApart (convertAll st) := fun r s =>
  RefApart.foldl (α := BitVec 16 × List FeedRecord) (h := fun s x => convertVisit x.1 st .hold x.2 s)
    (fun x => refApart_convertVisit x.1 st .hold x.2) (undeliveredOf st s.queue) r s

end

section

variable {r : Reference} {s : State}

/-- The halt of a station's lanes reads the web counter alone. -/
theorem haltLanes_withRef (hw : r.web = s.web) (st : StationId) :
    haltLanes st (s.withRef r) = (haltLanes st s).withRef r := by
  have hr := overLanes_web (fun web u => u.halt web) (s.lanesOf st) (s.withRef r)
  have hs := overLanes_web (fun web u => u.halt web) (s.lanesOf st) s
  have hweb : (s.withRef r).web = s.web := hw
  rw [hweb] at hr
  exact hr.trans ((RefApart.foldl (h := fun t l => t.modLane l fun u => u.halt s.web) (fun _ _ _ => rfl)
    (s.lanesOf st) r s).trans (congrArg (State.withRef · r) hs.symm))

theorem addHard_withRef (hw : r.web = s.web) (c : Cause) (st : StationId) :
    addHard c st (s.withRef r) = (addHard c st s).withRef r := by
  unfold addHard
  have hcond : ((s.withRef r).enabled st && !((s.withRef r).station st).hold.has c) =
      (s.enabled st && !(s.station st).hold.has c) := rfl
  rw [hcond]
  split
  · obtain ⟨stations, lanes, queue, hframe⟩ := convertAll_frame st ((addSoft c st s).modStation st Station.cancelAndLift)
    have hsoft : (addSoft c st s).ref = s.ref := by
      unfold addSoft
      split <;> rfl
    have hweb : (convertAll st ((addSoft c st s).modStation st Station.cancelAndLift)).web = s.web := by
      rw [hframe]
      exact congrArg Reference.web hsoft
    unfold faultActions
    rw [refApart_addSoft]
    exact (congrArg (haltLanes st) (refApart_convertAll st r _)).trans (haltLanes_withRef (hw.trans hweb.symm) st)
  · rfl

theorem addHard_web (c : Cause) (st : StationId) (s : State) : (addHard c st s).web = s.web := by
  obtain ⟨_, _, _, hframe⟩ := addHard_frame c st s
  rw [hframe]
  rfl

theorem addReference_withRef (hw : r.web = s.web) : addReference (s.withRef r) = (addReference s).withRef r := by
  unfold addReference overStations
  induction allStations generalizing s with
  | nil => rfl
  | cons st sts ih =>
    rw [List.foldl_cons, List.foldl_cons, addHard_withRef hw]
    exact ih (hw.trans (addHard_web ..).symm)

theorem raiseEvent_withRef (hw : r.web = s.web) (k : EventKind) (unit detail : Nat) :
    raiseEvent k unit detail (s.withRef r) = (raiseEvent k unit detail s).withRef r :=
  (raiseEvent_congr k unit detail (s := s) (t := s.withRef r) rfl rfl hw).trans
    (congrArg (State.withRef · r) (raiseEvent_congr k unit detail (s := s) (t := s) rfl rfl rfl).symm)

/-- A flush of a part whose reference unit differs, but for its web counter. -/
theorem flush_withRef (hw : r.web = s.web) : flush (s.withRef r) = (flush s).withRef { r with hw := r.web } := by
  have hweb : (s.withRef r).web = s.web := hw
  have hflushed : (s.withRef r).flushed = s.flushed.withRef { r with hw := r.web } := by
    unfold State.flushed
    rw [hweb, ← hw]
    rfl
  have hstate : (s.withRef r).job = s.job := rfl
  have hqueue : (s.withRef r).queue = s.queue := rfl
  rw [flush_eq, flush_eq, hflushed, raiseEvent_withRef hw, hstate, hqueue]
  split
  · exact raiseEvent_withRef (s := { s.flushed with
      events := (raiseEvent .jobEnded 0 (3 * 256 + placeId s.job.active) s).events
      link := (raiseEvent .jobEnded 0 (3 * 256 + placeId s.job.active) s).link }) (r := { r with hw := r.web }) hw ..
  · exact raiseEvent_withRef (s := s.flushed) (r := { r with hw := r.web }) hw ..

theorem flush_ref (s : State) : (flush s).ref = { s.ref with hw := s.web } := by
  rw [flush_eq, raiseEvent_ref]
  split <;> rfl

theorem addReference_ref (s : State) : (addReference s).ref = s.ref := by
  obtain ⟨_, _, _, hframe⟩ := addReference_frame s
  rw [hframe]

end

/-! ### Counts (R3 to R5, R8, R11, R15) -/

/-- The levels of a source's pair, replaced. -/
def Reference.withPair (r : Reference) (x : Source) (a b : Bool) : Reference :=
  r.withSource x { r.source x with pairA := a, pairB := b }

theorem withPair_web (r : Reference) (x : Source) (a b : Bool) : (r.withPair x a b).web = r.web := by
  cases x <;> rfl

theorem decodePair_eq_none_iff (a b a' b' : Bool) :
    decodePair a b a' b' = none ↔ ¬ forwardStep a b a' b' ∧ ¬ forwardStep a' b' a b := by
  cases a <;> cases b <;> cases a' <;> cases b' <;> simp [decodePair, forwardStep]

theorem decodePair_eq_some_iff (a b a' b' fwd : Bool) :
    decodePair a b a' b' = some fwd ↔ if fwd then forwardStep a b a' b' else forwardStep a' b' a b := by
  cases fwd <;> cases a <;> cases b <;> cases a' <;> cases b' <;> simp [decodePair, forwardStep]

/-! ### The levels of a pair stand apart from the count (R3) -/

/-- The state with new levels at a source's pair. -/
def State.withPair (s : State) (x : Source) (a b : Bool) : State := s.withRef (s.ref.withPair x a b)

section

variable {s : State} {x : Source} {a b : Bool}

theorem addReference_withPair : addReference (s.withPair x a b) = (addReference s).withPair x a b :=
  (addReference_withRef (withPair_web ..)).trans
    (congrArg (fun r : Reference => (addReference s).withRef (r.withPair x a b)) (addReference_ref s).symm)

theorem raiseEvent_withPair (k : EventKind) (unit detail : Nat) :
    raiseEvent k unit detail (s.withPair x a b) = (raiseEvent k unit detail s).withPair x a b :=
  (raiseEvent_withRef (withPair_web ..) k unit detail).trans
    (congrArg (fun r : Reference => (raiseEvent k unit detail s).withRef (r.withPair x a b))
      (raiseEvent_ref k unit detail s).symm)

theorem flush_withPair : flush (s.withPair x a b) = (flush s).withPair x a b := by
  have hhw : ({ s.ref.withPair x a b with hw := (s.ref.withPair x a b).web } : Reference) =
      ({ s.ref with hw := s.web } : Reference).withPair x a b := by
    cases x <;> rfl
  exact (flush_withRef (withPair_web ..)).trans ((congrArg ((flush s).withRef ·) hhw).trans
    (congrArg (fun r : Reference => (flush s).withRef (r.withPair x a b)) (flush_ref s).symm))

theorem reverseTest_withPair : reverseTest (s.withPair x a b) = (reverseTest s).withPair x a b := by
  have hlimit : (s.withPair x a b).ref.reverseLimit = s.ref.reverseLimit := by
    cases x <;> rfl
  have hlag : (s.withPair x a b).ref.lag = s.ref.lag := by
    cases x <;> rfl
  unfold reverseTest
  rw [hlimit, hlag]
  split
  · unfold reversePastLimit
    rw [hlag, addReference_withPair, raiseEvent_withPair, flush_withPair]
  · rfl

/-- A count moves the web counter and HW alone of the reference unit. -/
theorem addCount_advance_eq (r : Reference) (fwd : Bool) (k : Nat) :
    (r.addCount fwd k).advance = movedWeb r fwd k := by
  let moved := r.addCount fwd k
  by_cases h : 0 < sdiff moved.web r.hw
  · exact (if_pos h).trans (congrArg (fun hw => { moved with hw := hw }) (if_pos h).symm)
  · exact (if_neg h).trans (congrArg (fun hw => { moved with hw := hw }) (if_neg h).symm)

theorem movedWeb_withPair (r : Reference) (fwd : Bool) (k : Nat) :
    movedWeb (r.withPair x a b) fwd k = (movedWeb r fwd k).withPair x a b := by
  cases x <;> rfl

theorem moveWeb_withPair (fwd : Bool) (k : Nat) :
    moveWeb fwd k (s.withPair x a b) = (moveWeb fwd k s).withPair x a b := by
  have hmoved : ({ s.withPair x a b with ref := ((s.withPair x a b).ref.addCount fwd k).advance } : State) =
      ({ s with ref := (s.ref.addCount fwd k).advance } : State).withPair x a b := by
    refine congrArg s.withRef ?_
    show ((s.ref.withPair x a b).addCount fwd k).advance = (s.ref.addCount fwd k).advance.withPair x a b
    rw [addCount_advance_eq, addCount_advance_eq, movedWeb_withPair]
  unfold moveWeb
  dsimp only
  rw [hmoved]
  split
  · rfl
  · exact reverseTest_withPair

/-- What the flush leaves of the reference unit: all but HW. -/
theorem reverseTest_spanOrigin (s : State) : (reverseTest s).ref.spanOrigin = s.ref.spanOrigin := by
  unfold reverseTest reversePastLimit
  split
  · rw [flush_ref, raiseEvent_ref, addReference_ref]
  · rfl

theorem moveWeb_spanOrigin (fwd : Bool) (k : Nat) (s : State) :
    (moveWeb fwd k s).ref.spanOrigin = s.ref.spanOrigin := by
  have hmoved : ((s.ref.addCount fwd k).advance).spanOrigin = s.ref.spanOrigin := by
    rw [addCount_advance_eq]
    rfl
  unfold moveWeb
  dsimp only
  split
  · exact hmoved
  · exact (reverseTest_spanOrigin _).trans hmoved

theorem closeSpan_of_none (h : s.ref.spanOrigin = none) : closeSpan s = s := by
  unfold closeSpan
  rw [h]

theorem sat16_eq (n : Nat) : sat16 n = min 65535 n := Nat.min_comm ..

/-- A new span, opened where the closed one ends. -/
def State.reopened (s : State) : State := { s with ref := { s.ref with spanOrigin := some s.web, tally := 0 } }

theorem spanTested_eq (o : Pos) (s : State) :
    spanTested o s =
      if sdiff s.web o < 100000 then s
      else if s.ref.tolerance * 100000 < s.ref.deviation then
        raiseEvent .sourceDisagree 0 (sat16 (s.ref.deviation / 100000)) s.reopened
      else s.reopened := by
  rw [sat16_eq]
  rfl

theorem closeSpan_of_some {o : Pos} (h : s.ref.spanOrigin = some o) : closeSpan s = spanTested o s := by
  unfold closeSpan
  rw [h, spanTested_eq]
  dsimp only
  by_cases hfar : (100000 : Int) ≤ sdiff s.web o
  · rw [if_neg (c := sdiff s.web o < 100000) (Int.not_lt.mpr hfar)]
    exact if_pos (c := (Config.spanTicks : Int) ≤ sdiff s.web o) hfar
  · rw [if_pos (c := sdiff s.web o < 100000) (Int.not_le.mp hfar)]
    exact if_neg (c := (Config.spanTicks : Int) ≤ sdiff s.web o) hfar

theorem spanTested_withPair (o : Pos) : spanTested o (s.withPair x a b) = (spanTested o s).withPair x a b := by
  have hweb : (s.withPair x a b).web = s.web := withPair_web ..
  have hdeviation : (s.withPair x a b).ref.deviation = s.ref.deviation := by
    cases x <;> rfl
  have htolerance : (s.withPair x a b).ref.tolerance = s.ref.tolerance := by
    cases x <;> rfl
  have hreopened : (s.withPair x a b).reopened = s.reopened.withPair x a b := by
    cases x <;> rfl
  rw [spanTested_eq, spanTested_eq, hweb, hdeviation, htolerance, hreopened]
  split
  · rfl
  · split
    · exact raiseEvent_withPair ..
    · rfl

theorem openSpan_eq (r : Reference) : r.openSpan = spanOpened r := by
  unfold Reference.openSpan spanOpened Reference.bothMoving
  cases r.spanOrigin with
  | none => simp
  | some o => simp

/-- The act that ends a count: its source is MOVING, at its new levels, and a span may open (R3, R15). -/
theorem counted_withPair (t : State) :
    ({ t.withPair x a b with ref := ((t.withPair x a b).ref.withSource x
      ((t.withPair x a b).ref.source x).counted).openSpan } : State) =
      { t with ref := spanOpened (sourceMoves t.ref x a b) } := by
  rw [openSpan_eq]
  cases x <;> rfl

end

section

variable {s : State} {x : Source} {a b : Bool}

theorem moveTally_eq (fwd : Bool) (k : Nat) (r : Reference) :
    moveTally fwd k r = { r with tally :=
      if r.spanOrigin = none then r.tally
      else if fwd then r.tally + BitVec.ofNat 48 k else r.tally - BitVec.ofNat 48 k } := by
  obtain ⟨_, _, _, _, _, _, _, _, _, _, origin, _, _⟩ := r
  cases origin <;> rfl

/-- A source that takes no counts, or no count in the change, moves its levels alone (R3, R4). -/
theorem pairChanges_of_no_count
    (h : ¬ ((s.ref.source x).state = .still ∨ (s.ref.source x).state = .moving) ∨
      decodePair (s.ref.source x).pairA (s.ref.source x).pairB a b = none) :
    pairChanges x a b s = s.withPair x a b := by
  unfold pairChanges
  dsimp only
  split
  next fwd hst hpair => exact (h.elim (· (.inl hst)) fun hnone => nomatch hnone.symm.trans hpair).elim
  next fwd hst hpair => exact (h.elim (· (.inr hst)) fun hnone => nomatch hnone.symm.trans hpair).elim
  next => rfl

theorem pairChanges_of_count {fwd : Bool}
    (hcounts : (s.ref.source x).state = .still ∨ (s.ref.source x).state = .moving)
    (hpair : decodePair (s.ref.source x).pairA (s.ref.source x).pairB a b = some fwd) :
    pairChanges x a b s = countTaken x fwd (s.withPair x a b) := by
  unfold pairChanges
  dsimp only
  split
  next fwd' hst hpair' => exact congrArg (countTaken x · _) (Option.some.inj (hpair'.symm.trans hpair))
  next fwd' hst hpair' => exact congrArg (countTaken x · _) (Option.some.inj (hpair'.symm.trans hpair))
  next hstill hmoving => exact hcounts.elim (fun h => (hstill _ h hpair).elim) fun h => (hmoving _ h hpair).elim

theorem withPair_selected : (s.withPair x a b).ref.selected = s.ref.selected := withSource_selected ..

theorem withPair_k : ((s.withPair x a b).ref.source x).k = (s.ref.source x).k := by
  cases x <;> rfl

/-- A count of the selected source (R5, R8, R11, R15). -/
theorem countTaken_selected (fwd : Bool) (hsel : s.ref.selected = x) :
    countTaken x fwd (s.withPair x a b) =
      { closeSpan (moveWeb fwd (s.ref.source x).k s) with
        ref := spanOpened (sourceMoves (closeSpan (moveWeb fwd (s.ref.source x).k s)).ref x a b) } := by
  have hclose (t : State) : closeSpan (t.withPair x a b) = (closeSpan t).withPair x a b := by
    have horigin : (t.withPair x a b).ref.spanOrigin = t.ref.spanOrigin := by
      cases x <;> rfl
    cases h : t.ref.spanOrigin with
    | none => rw [closeSpan_of_none h, closeSpan_of_none (horigin.trans h)]
    | some o => rw [closeSpan_of_some h, closeSpan_of_some (horigin.trans h), spanTested_withPair]
  unfold countTaken
  dsimp only
  rw [withPair_k, if_pos (withPair_selected.trans hsel), moveWeb_withPair, hclose]
  exact counted_withPair _

/-- A count of the unselected source (R4, R15). -/
theorem countTaken_unselected (fwd : Bool) (hsel : s.ref.selected ≠ x) :
    countTaken x fwd (s.withPair x a b) =
      { s with ref := spanOpened (sourceMoves (moveTally fwd (s.ref.source x).k s.ref) x a b) } := by
  have htally (r : Reference) (k : Nat) : moveTally fwd k (r.withPair x a b) = (moveTally fwd k r).withPair x a b := by
    rw [moveTally_eq, moveTally_eq]
    cases x <;> rfl
  have hmoved : ({ s.withPair x a b with ref := moveTally fwd (s.ref.source x).k (s.withPair x a b).ref } : State) =
      ({ s with ref := moveTally fwd (s.ref.source x).k s.ref } : State).withPair x a b :=
    congrArg s.withRef (htally ..)
  unfold countTaken
  dsimp only
  rw [withPair_k, if_neg fun h => hsel (withPair_selected.symm.trans h), hmoved]
  exact counted_withPair _

end

/-- The test of R11: past the limit, REFERENCE, REVERSE_LIMIT and the flush. -/
theorem reverseTest_eq (s : State) :
    reverseTest s =
      if s.ref.reverseLimit < sdiff s.ref.hw s.web then
        flush (raiseEvent .reverseLimit 0 (min 65535 (sdiff s.ref.hw s.web).toNat) (addReference s))
      else s := by
  unfold reverseTest reversePastLimit
  rw [sat16_eq]
  rfl

/-- What a count of scale `k` of the selected source makes of the part, before a span closes (R5, R8, R11). -/
theorem moveWeb_eq (fwd : Bool) (k : Nat) (s : State) :
    moveWeb fwd k s = if fwd then { s with ref := movedWeb s.ref fwd k }
      else reverseTest { s with ref := movedWeb s.ref fwd k } := by
  unfold moveWeb
  dsimp only
  rw [addCount_advance_eq]


end Sys2Proof.Machine
namespace Sys2Proof.Proofs

open Sys2Proof.Machine

/-- Settles O42, by the change of levels the pair makes and the branch of the count the selection chooses. -/
theorem sourceCountMovesTheWeb : Obligations.SourceCountMovesTheWeb := by
  intro s x a b u forward reverse counts
  refine ⟨fun h => ?_, fun fwd hcounts hway => ?_⟩
  · exact congrArg Host.Outcome.next (pairChanges_of_no_count (h.imp_right (decodePair_eq_none_iff ..).mpr))
  intro r after
  refine ⟨fun hsel => ?_, fun hsel => ?_⟩
  · intro moved t
    have hmoved : moveWeb fwd u.k s = moved := by
      rw [moveWeb_eq]
      cases fwd with
      | true => exact (if_neg fun h => nomatch h.1).symm
      | false =>
        refine (reverseTest_eq { s with ref := r }).trans ?_
        by_cases h : (r.reverseLimit : Int) < sdiff r.hw r.web
        · exact (if_pos (c := (r.reverseLimit : Int) < sdiff r.hw r.web) h).trans (if_pos ⟨rfl, h⟩).symm
        · exact (if_neg (c := (r.reverseLimit : Int) < sdiff r.hw r.web) h).trans (if_neg fun hand => h hand.2).symm
    have horigin : moved.ref.spanOrigin = s.ref.spanOrigin := hmoved ▸ moveWeb_spanOrigin fwd u.k s
    have hclosed : closeSpan (moveWeb fwd u.k s) = t := by
      rw [hmoved]
      show _ = match s.ref.spanOrigin with
        | some o => spanTested o moved
        | none => moved
      cases h : s.ref.spanOrigin with
      | none => exact closeSpan_of_none (horigin.trans h)
      | some o => exact closeSpan_of_some (horigin.trans h)
    exact congrArg Host.Outcome.next ((pairChanges_of_count hcounts ((decodePair_eq_some_iff ..).mpr hway)).trans
      ((countTaken_selected fwd hsel).trans (congrArg (fun t : State => ({ t with ref := after t.ref } : State)) hclosed)))
  · intro tally
    exact congrArg Host.Outcome.next ((pairChanges_of_count hcounts ((decodePair_eq_some_iff ..).mpr hway)).trans
      ((countTaken_unselected fwd hsel).trans
        (congrArg (fun r => ({ s with ref := after r } : State)) (moveTally_eq fwd u.k s.ref))))

end Sys2Proof.Proofs
end

section

/-!
## SET SOURCE

The four refusals of R17 in order, and the values and the action of R18.
-/

namespace Sys2Proof.Machine

section

variable {s : State} {x : Source}

theorem sourceOctets_eq (u : SourceUnit) :
    sourceOctets u = [if u.state = .off then 0x00 else 0x01] ++ octets 1 u.state.code ++ octets 4 u.k := by
  unfold sourceOctets flagOctet
  cases u.state <;> rfl

/-! ### No act of SET SOURCE asks for a reset -/

theorem flush_resetPending (s : State) : (flush s).link.resetPending = s.link.resetPending := by
  rw [flush_eq, raiseEvent_resetPending]
  split
  · exact raiseEvent_resetPending ..
  · rfl

theorem addReference_resetPending (s : State) : (addReference s).link.resetPending = s.link.resetPending :=
  (acts_addReference (.refl s)).resetPending

theorem sourceFaults_resetPending (x : Source) (s : State) :
    (sourceFaults x s).link.resetPending = s.link.resetPending := by
  rw [sourceFaults_eq, raiseEvent_resetPending]
  split
  · rw [flush_resetPending, addReference_resetPending]
  · rfl

theorem sourceAction_resetPending (action : Nat) (x : Source) (s : State) :
    (sourceAction action x s).link.resetPending = s.link.resetPending := by
  unfold sourceAction
  split
  · unfold enableSource
    dsimp only
    split
    · split
      · exact sourceFaults_resetPending x s
      · rfl
    · rfl
  · unfold disableSource
    dsimp only
    split <;> rfl
  · unfold selectSource
    split <;> rfl
  · rfl

theorem reverseTest_resetPending (s : State) : (reverseTest s).link.resetPending = s.link.resetPending := by
  rw [reverseTest_eq]
  split
  · rw [flush_resetPending, raiseEvent_resetPending, addReference_resetPending]
  · rfl

theorem applySource_resetPending (x : Source) (action scale limit tolerance : Nat) (s : State) :
    (applySource x action scale limit tolerance s).link.resetPending = s.link.resetPending := by
  unfold applySource
  dsimp only
  split
  · exact sourceAction_resetPending ..
  · exact (reverseTest_resetPending _).trans (sourceAction_resetPending ..)

/-! ### The action and the values (R18) -/

theorem enableSource_eq (x : Source) (s : State) : enableSource x s = sourceActed 1 x s := by
  by_cases hoff : (s.ref.source x).state = .off
  · cases hin : (s.ref.source x).faultIn with
    | false => simp [enableSource, sourceActed, hoff, hin]
    | true => simp [enableSource, sourceActed, hoff, hin, sourceFaults_eq]
  · simp [enableSource, sourceActed, hoff]

theorem disableSource_eq (x : Source) (s : State) : disableSource x s = sourceActed 2 x s := by
  by_cases hoff : (s.ref.source x).state = .off
  · simp [disableSource, sourceActed, hoff]
  · simp [disableSource, sourceActed, hoff, abandonSpan_eq]

theorem selectSource_eq (x : Source) (s : State) : selectSource x s = sourceActed 3 x s := by
  by_cases hsel : s.ref.selected = x
  · simp [selectSource, sourceActed, hsel]
  · simp [selectSource, sourceActed, hsel, abandonSpan_eq, openSpan_eq]

theorem sourceAction_eq {action : Nat} (h : action ≤ 3) (x : Source) (s : State) :
    sourceAction action x s = sourceActed action x s := by
  match action, h with
  | 0, _ => rfl
  | 1, _ => exact enableSource_eq x s
  | 2, _ => exact disableSource_eq x s
  | 3, _ => exact selectSource_eq x s

/-- An action that finds what it asks for already so does nothing (R18). -/
theorem sourceActed_self {action : Nat}
    (h : action = 0 ∨ (action = 1 ∧ (s.ref.source x).state ≠ .off) ∨
      (action = 2 ∧ s.ref.selected ≠ x ∧ (s.ref.source x).state = .off) ∨ (action = 3 ∧ s.ref.selected = x)) :
    sourceActed action x s = s := by
  rcases h with rfl | ⟨rfl, hon⟩ | ⟨rfl, -, hoff⟩ | ⟨rfl, hsel⟩
  · rfl
  · simp [sourceActed, hon]
  · simp [sourceActed, hoff]
  · simp [sourceActed, hsel]

theorem limitTaken_eq (limit : Nat) (s : State) :
    reverseTest { s with ref := { s.ref with reverseLimit := limit } } = limitTaken limit s := reverseTest_eq _

/-- What the values of an accepted SET SOURCE make of the part. -/
def sourceTaken (x : Source) (action scale limit tolerance : Nat) (s : State) : State :=
  let u := s.ref.source x
  let acted := sourceActed action x { s with ref := s.ref.withSource x { u with k := if scale = 0 then u.k else scale } }
  let t := if limit = 0 then acted else limitTaken (max 100 (min 50000 limit)) acted
  if tolerance = 0 then t else { t with ref := { t.ref with tolerance := max 1 (min 100 tolerance) } }

theorem applySource_eq {action : Nat} (h : action ≤ 3) (x : Source) (scale limit tolerance : Nat) (s : State) :
    applySource x action scale limit tolerance s = sourceTaken x action scale limit tolerance s := by
  unfold applySource sourceTaken
  dsimp only
  rw [sourceAction_eq h]
  generalize sourceActed action x _ = acted
  have hlimit : (if limit = 0 then acted
      else reverseTest { acted with ref := { acted.ref with reverseLimit := clampNat 100 50000 limit } }) =
      if limit = 0 then acted else limitTaken (max 100 (min 50000 limit)) acted := by
    rw [limitTaken_eq]
    rfl
  rw [hlimit]
  generalize (if limit = 0 then acted else limitTaken (max 100 (min 50000 limit)) acted) = t
  unfold givenOr
  by_cases htol : tolerance = 0
  · rw [if_pos htol, if_pos htol]
  · rw [if_neg htol, if_neg htol]
    rfl

/-! ### The request (R17, R18) -/

theorem sourceOf_eq_none_iff (n : Nat) : sourceOf n = none ↔ n ≠ 1 ∧ n ≠ 2 := by
  match n with
  | 0 => decide
  | 1 => decide
  | 2 => decide
  | n + 3 => exact ⟨fun _ => ⟨by omega, by omega⟩, fun _ => rfl⟩

/-- A value given is taken as it is when it lies in its range. -/
theorem not_clamped_iff (lo hi n : Nat) :
    (n != 0 && n != clampNat lo hi n) = false ↔ n = 0 ∨ max lo (min hi n) = n := by
  unfold clampNat
  simp only [Bool.and_eq_false_iff, bne_eq_false_iff_eq]
  exact or_congr_right eq_comm

variable {p : List Octet}

theorem reqSetSource_noSource (h : sourceOf (u8 p 0) = none) : reqSetSource p s = refuse .badValue s := by
  unfold reqSetSource
  dsimp only
  rw [h]

theorem reqSetSource_source (h : sourceOf (u8 p 0) = some x) :
    reqSetSource p s =
      if 3 < u8 p 1 ∨ 1048575 < u32 p 2 then refuse .badValue s
      else if (u32 p 2 ≠ 0 ∨ u16 p 6 ≠ 0 ∨ u8 p 8 ≠ 0) ∧ s.job.state ≠ .none then refuse .busy s
      else if u8 p 1 = 2 ∧ x = s.ref.selected then refuse .inUse s
      else if u8 p 1 = 3 ∧ x ≠ s.ref.selected ∧ s.ref.bothMoving = false then refuse .notReady s
      else accept (okOr ((u16 p 6 != 0 && u16 p 6 != clampNat 100 50000 (u16 p 6)) ||
          (u8 p 8 != 0 && u8 p 8 != clampNat 1 100 (u8 p 8))))
        (sourceReply (applySource x (u8 p 1) (u32 p 2) (u16 p 6) (u8 p 8) s))
        (applySource x (u8 p 1) (u32 p 2) (u16 p 6) (u8 p 8) s) := by
  unfold reqSetSource
  dsimp only
  rw [h]

theorem bothMoving_eq_false_iff (r : Reference) :
    r.bothMoving = false ↔ ¬ (r.line.state = .moving ∧ r.wheel.state = .moving) := by
  unfold Reference.bothMoving
  rw [← Bool.not_eq_true, Bool.and_eq_true, beq_iff_eq, beq_iff_eq]

/-- The status of an accepted request: CLAMPED when a value given was changed (R18). -/
theorem statusCode_setSource (limit tolerance : Nat) :
    statusCode (okOr ((limit != 0 && limit != clampNat 100 50000 limit) ||
      (tolerance != 0 && tolerance != clampNat 1 100 tolerance))) =
      if (limit = 0 ∨ max 100 (min 50000 limit) = limit) ∧ (tolerance = 0 ∨ max 1 (min 100 tolerance) = tolerance)
      then (0x00 : Octet) else 0x01 := by
  by_cases h : (limit = 0 ∨ max 100 (min 50000 limit) = limit) ∧ (tolerance = 0 ∨ max 1 (min 100 tolerance) = tolerance)
  · rw [if_pos h, (not_clamped_iff ..).mpr h.1, (not_clamped_iff ..).mpr h.2]
    rfl
  · rw [if_neg h]
    have hclamped : ((limit != 0 && limit != clampNat 100 50000 limit) ||
        (tolerance != 0 && tolerance != clampNat 1 100 tolerance)) = true := by
      rw [← Bool.not_eq_false, Bool.or_eq_false_iff, not_clamped_iff, not_clamped_iff]
      exact h
    rw [hclamped]
    rfl

end

end Sys2Proof.Machine

namespace Sys2Proof.Proofs

open Sys2Proof.Machine

/-- Settles O39, by the refusals in their order and what the accepted values make of the part. -/
theorem setSourceActs : Obligations.SetSourceActs := by
  intro s tag p h hp action scale limit tolerance out given both source answers
  have hfits : lengthFits .setSource p = true := by
    unfold lengthFits
    rw [hp]
    rfl
  have hrefused {st : Status} (hreq : reqSetSource p s = refuse st s) :
      out = .next (s.replied .setSource tag [statusCode st]) := request_refused (st := st) h hfits hreq
  refine ⟨fun hnone => hrefused (reqSetSource_noSource ((sourceOf_eq_none_iff _).mpr hnone)), fun x hx => ?_⟩
  intro u
  have hreq := reqSetSource_source (s := s) hx
  have haccepted (ha : action ≤ 3) (hs : scale ≤ 1048575) (hbusy : given → s.job.state = .none)
      (huse : action = 2 → s.ref.selected ≠ x) (hready : action = 3 → s.ref.selected ≠ x → both) :
      out = .next (answers (if (limit = 0 ∨ max 100 (min 50000 limit) = limit) ∧
          (tolerance = 0 ∨ max 1 (min 100 tolerance) = tolerance) then 0x00 else 0x01)
        (sourceTaken x action scale limit tolerance s)) := by
    rw [if_neg (not_or.mpr ⟨Nat.not_lt.mpr ha, Nat.not_lt.mpr hs⟩), if_neg fun hb => hb.2 (hbusy hb.1),
      if_neg fun hu => huse hu.1 hu.2.symm,
      if_neg fun hr => (bothMoving_eq_false_iff _).mp hr.2.2 (hready hr.1 fun e => hr.2.1 e.symm)] at hreq
    have hout := request_answered (tag := tag) h hfits hreq (applySource_resetPending ..)
    rw [statusCode_setSource, applySource_eq ha] at hout
    refine hout.trans ?_
    show Host.Outcome.next (State.replied _ _ _ (_ :: sourceReply _)) = _
    unfold sourceReply
    rw [sourceOctets_eq, sourceOctets_eq]
  refine ⟨fun hbad => ?_, fun ha hs hg hj => ?_, fun ha hs hbusy hsel => ?_, fun ha hs hbusy hsel hboth => ?_,
    fun hg hself => ?_, haccepted⟩
  · rw [if_pos hbad] at hreq
    exact hrefused hreq
  · rw [if_neg (not_or.mpr ⟨Nat.not_lt.mpr ha, Nat.not_lt.mpr hs⟩), if_pos ⟨hg, hj⟩] at hreq
    exact hrefused hreq
  · have ha' : ¬ (3 < u8 p 1 ∨ 1048575 < u32 p 2) := not_or.mpr ⟨by omega, Nat.not_lt.mpr hs⟩
    rw [if_neg ha', if_neg fun hb => hb.2 (hbusy hb.1), if_pos ⟨ha, hsel.symm⟩] at hreq
    exact hrefused hreq
  · have ha' : ¬ (3 < u8 p 1 ∨ 1048575 < u32 p 2) := not_or.mpr ⟨by omega, Nat.not_lt.mpr hs⟩
    rw [if_neg ha', if_neg fun hb => hb.2 (hbusy hb.1), if_neg (fun hu => by omega),
      if_pos ⟨ha, fun e => hsel e.symm, (bothMoving_eq_false_iff _).mpr hboth⟩] at hreq
    exact hrefused hreq
  · obtain ⟨hscale, hlimit, htolerance⟩ : scale = 0 ∧ limit = 0 ∧ tolerance = 0 := by
      refine ⟨by_contra fun hne => hg (.inl hne), by_contra fun hne => hg (.inr (.inl hne)),
        by_contra fun hne => hg (.inr (.inr hne))⟩
    have hout := haccepted (by omega) (by omega) (fun hgiven => absurd hgiven hg)
      (fun h2 => hself.elim (by omega) fun h => h.elim (by omega) fun h => h.elim (fun h => h.2.1) (by omega))
      (fun h3 hne => hself.elim (by omega) fun h => h.elim (by omega) fun h => h.elim (by omega) fun h => absurd h.2 hne)
    have htaken : sourceTaken x action scale limit tolerance s = s := by
      have hscaled : ({ s with ref := s.ref.withSource x { u with k := u.k } } : State) = s := by
        cases x <;> rfl
      unfold sourceTaken
      dsimp only
      rw [hscale, hlimit, htolerance, if_pos rfl, if_pos rfl, if_pos rfl]
      exact (congrArg (sourceActed action x) hscaled).trans (sourceActed_self hself)
    rw [htaken, if_pos ⟨.inl hlimit, .inl htolerance⟩] at hout
    exact hout

end Sys2Proof.Proofs
end

section

/-!
## The press mode

SET MODE by the mode before and the mode asked for, and the wake threshold (R147 to R150).
-/

namespace Sys2Proof.Machine

section

variable {s : State}

theorem exec_wakeThreshold (s : State) : exec .wakeThreshold s = .next (wakeThreshold s) := rfl

/-! ### The stations of a change of mode -/

theorem reheatZone_eq (st : StationId) (s : State) : reheatZone st s = s.modStation st reheated := by
  unfold reheatZone
  dsimp only
  by_cases h : (s.station st).zone.enabled = true ∧ (s.station st).zone.state ≠ .fault
  · have hreheated : reheated (s.station st) = (s.station st).zoned (s.station st).zone.reheat := by
      have hholds : (s.station st).zone.reheat.holds = true :=
        (HeatZone.holds_iff _).mpr ⟨h.1, nofun, nofun⟩
      rw [Station.zoned_of_holds hholds]
      exact if_pos h
    rw [if_pos (by simpa using h), setZone_eq_zoned, State.modStation, hreheated]
  · have hreheated : reheated (s.station st) = s.station st := if_neg h
    rw [if_neg (by simpa using h), State.modStation, hreheated]
    exact (State.modStation_id s st).symm

theorem reheatAll_eq (s : State) :
    overStations allStations reheatZone s = { s with stations := s.stations.map reheated } := by
  have hreheat : reheatZone = fun st (s : State) => s.modStation st reheated :=
    funext fun st => funext fun s => reheatZone_eq st s
  rw [hreheat, overStations_modStation]

/-! ### The changes of mode (R147, R148, R150) -/

theorem changeMode_self (s : State) : changeMode s.mode s = s := by
  unfold changeMode
  cases s.mode <;> rfl

theorem changeMode_toIdle (h : s.mode = .run) : changeMode .idle s = addIdle { s with mode := .idle } := by
  unfold changeMode
  rw [h]

theorem changeMode_toRun (h : s.mode = .idle) : changeMode .run s = dropIdle { s with mode := .run } := by
  unfold changeMode
  rw [h]

theorem changeMode_toStandby (h : s.mode ≠ .standby) : changeMode .standby s = enterStandby s := by
  unfold changeMode
  cases hm : s.mode with
  | run => rfl
  | idle => rfl
  | standby => exact absurd hm h

theorem changeMode_fromStandby {mode : PressMode} (h : s.mode = .standby) (hm : mode ≠ .standby) :
    changeMode mode s = leaveStandby mode 1 s := by
  unfold changeMode
  rw [h]
  cases mode with
  | run => rfl
  | idle => rfl
  | standby => exact absurd rfl hm

/-- The state a press entering STANDBY is flushed in: every station lifted, and IDLE added out of RUN (R148). -/
def State.standingBy (s : State) : State :=
  { s with
    mode := .standby
    stations := s.stations.map fun u => ({ u with
      hold := { u.hold with idle := u.hold.idle || (s.mode == .run && u.setup.enabled) } } : Station).lift }

theorem standingBy_eq (s : State) :
    overStations allStations (fun st s => s.modStation st Station.lift)
      (if s.mode == .run then addIdle { s with mode := .standby } else { s with mode := .standby }) = s.standingBy := by
  have hidle (u : Station) : (if u.setup.enabled then { u with hold := u.hold.put .idle true } else u : Station) =
      { u with hold := { u.hold with idle := u.hold.idle || u.setup.enabled } } := by
    cases he : u.setup.enabled with
    | false =>
      rw [Bool.or_false]
      rfl
    | true =>
      rw [Bool.or_true]
      rfl
  rw [overStations_modStation, addIdle_eq]
  unfold State.standingBy
  cases s.mode == .run with
  | true =>
    refine congrArg (fun stations => ({ s with mode := .standby, stations := stations } : State)) ?_
    show (s.stations.map _).map Station.lift = _
    rw [funext hidle]
    rfl
  | false =>
    refine congrArg (fun stations => ({ s with mode := .standby, stations := stations } : State)) ?_
    have hsame : (fun u : Station => ({ u with
        hold := { u.hold with idle := u.hold.idle || (false && u.setup.enabled) } } : Station).lift) = Station.lift :=
      funext fun u => by rw [Bool.false_and, Bool.or_false]
    rw [hsame]
    rfl

theorem enterStandby_eq (s : State) :
    enterStandby s = { flush s.standingBy with
      tracker := { (flush s.standingBy).tracker with state := .off, window := none }
      stations := (flush s.standingBy).stations.map reheated
      wake := some (s.web + BitVec.ofNat 32 s.entry.wakeTravel) } := by
  have hhw : (flush s.standingBy).ref.hw = s.web := congrArg Reference.hw (flush_ref s.standingBy)
  have hentry : (flush s.standingBy).entry = s.entry := by
    rw [flush_eq, raiseEvent_entry]
    split <;> rfl
  unfold enterStandby
  dsimp only
  rw [standingBy_eq, reheatAll_eq]
  dsimp only [enterOff]
  rw [hhw, hentry, posShift, BitVec.ofInt_natCast]
  rfl

theorem leaveStandby_eq {mode : PressMode} (cause : Nat) (s : State) :
    leaveStandby mode cause s = leftStandby mode cause s := by
  have hstations (t : State) : (if mode = .run then dropIdle t else t) = { t with
      stations := t.stations.map fun u => { u with hold := { u.hold with
        idle := if mode = .run then false else u.hold.idle } } } := by
    split
    · exact dropIdle_eq t
    · rfl
  unfold leaveStandby leftStandby
  dsimp only
  rw [hstations, reheatAll_eq]
  refine congrArg (raiseEvent .woke 0 cause) ?_
  by_cases hsearch : s.job.state = .armed ∨ s.planReady = true
  · rw [if_pos hsearch]
    exact if_pos hsearch
  · rw [if_neg hsearch]
    exact if_neg hsearch

/-! ### The wake threshold and the request (R147, R149) -/

theorem wakeThreshold_reached {p : Pos} (hm : s.mode = .standby) (hw : s.wake = some p) (hr : 0 ≤ sdiff s.ref.hw p) :
    wakeThreshold s = leaveStandby .idle 2 s := by
  unfold wakeThreshold
  rw [hw]
  exact if_pos ⟨hm, (reached_iff _ _).mpr hr⟩

theorem wakeThreshold_not
    (h : s.mode ≠ .standby ∨ s.wake = none ∨ ∃ p, s.wake = some p ∧ sdiff s.ref.hw p < 0) : wakeThreshold s = s := by
  unfold wakeThreshold
  cases hw : s.wake with
  | none => rfl
  | some p =>
    refine if_neg fun hand => ?_
    rcases h with hmode | hnone | ⟨q, hq, hlt⟩
    · exact hmode hand.1
    · exact nomatch hnone.symm.trans hw
    · rw [Option.some.inj (hw.symm.trans hq), reached_iff] at hand
      exact Int.not_lt.mpr hand.2 hlt

theorem changeMode_mode (mode : PressMode) (s : State) : (changeMode mode s).mode = mode := by
  have hflush (t : State) : (flush t).mode = t.mode := by
    rw [flush_eq, raiseEvent_mode]
    split <;> rfl
  have hleave (m : PressMode) : (leaveStandby m 1 s).mode = m := by
    rw [leaveStandby_eq]
    exact raiseEvent_mode ..
  have henter : (enterStandby s).mode = .standby := by
    rw [enterStandby_eq]
    exact hflush s.standingBy
  cases hs : s.mode <;> cases mode <;> simp only [changeMode, hs]
  case run.idle => rw [addIdle_eq]
  case run.standby => exact henter
  case idle.run => rfl
  case idle.standby => exact henter
  case standby.run => exact hleave .run
  case standby.idle => exact hleave .idle

theorem changeMode_resetPending (mode : PressMode) (s : State) :
    (changeMode mode s).link.resetPending = s.link.resetPending := by
  have hleave (m : PressMode) : (leaveStandby m 1 s).link.resetPending = s.link.resetPending := by
    rw [leaveStandby_eq]
    exact raiseEvent_resetPending ..
  have henter : (enterStandby s).link.resetPending = s.link.resetPending := by
    rw [enterStandby_eq]
    exact flush_resetPending s.standingBy
  unfold changeMode
  split
  · rw [addIdle_eq]
  · rfl
  · exact henter
  · exact henter
  · exact hleave .run
  · exact hleave .idle
  · rfl

theorem modeOf_eq_some_iff (n : Nat) (mode : PressMode) : modeOf n = some mode ↔ n = mode.code := by
  match n with
  | 0 => cases mode <;> decide
  | 1 => cases mode <;> decide
  | 2 => cases mode <;> decide
  | n + 3 => cases mode <;> simp [modeOf, PressMode.code]

theorem modeOf_eq_none {n : Nat} (h : 2 < n) : modeOf n = none := by
  match n, h with
  | n + 3, _ => rfl

/-- SET MODE to a mode is answered with it (R147). -/
theorem setMode_answered {mode : PressMode} {tag m : Octet} (h : s.atRest = true) (hm : m.toNat = mode.code) :
    exec (.setMode tag [m]) s = .next ((changeMode mode s).replied .setMode tag [0x00, m]) := by
  have hof : modeOf (u8 [m] 0) = some mode := (modeOf_eq_some_iff _ _).mpr hm
  have hreply : octets 1 mode.code = [m] := by
    rw [← hm]
    exact congrArg (fun o => [o]) (BitVec.eq_of_toNat_eq (by simp))
  have hcarry : reqSetMode [m] s = ([0x00, m], changeMode mode s) := by
    unfold reqSetMode
    rw [hof]
    dsimp only
    rw [changeMode_mode, hreply]
    rfl
  exact request_answered h rfl hcarry (changeMode_resetPending mode s)

end

end Sys2Proof.Machine

namespace Sys2Proof.Proofs

open Sys2Proof.Machine

/-- Settles O38, by the mode in force and the mode asked for. -/
theorem pressModes : Obligations.PressModes := by
  intro s tag m h
  refine ⟨fun hm => ?_, fun hm => ?_, fun hm hs => ?_, fun hm hs => ?_, fun hm hs => ?_, fun hm hs => ?_,
    fun hm hs => ?_, fun p hs hw hr => ?_, fun hnot => ?_⟩
  · refine request_refused (st := .badValue) h rfl (p := [m]) (k := .setMode) ?_
    show reqSetMode [m] s = _
    unfold reqSetMode
    rw [modeOf_eq_none (n := u8 [m] 0) hm]
  · exact (setMode_answered h hm).trans (by rw [changeMode_self])
  · rw [setMode_answered (mode := .idle) h (by rw [hm]; rfl), changeMode_toIdle hs, addIdle_eq]
    rfl
  · rw [setMode_answered (mode := .run) h (by rw [hm]; rfl), changeMode_toRun hs, dropIdle_eq]
    rfl
  · intro f
    rw [setMode_answered (mode := .standby) h (by rw [hm]; rfl), changeMode_toStandby hs, enterStandby_eq]
    rfl
  · have hleft := changeMode_fromStandby (mode := .run) hs (by decide)
    rw [setMode_answered (mode := .run) h (by rw [hm]; rfl), hleft, leaveStandby_eq]
  · have hleft := changeMode_fromStandby (mode := .idle) hs (by decide)
    rw [setMode_answered (mode := .idle) h (by rw [hm]; rfl), hleft, leaveStandby_eq]
  · rw [exec_wakeThreshold, wakeThreshold_reached hs hw hr, leaveStandby_eq]
  · rw [exec_wakeThreshold, wakeThreshold_not hnot]

end Sys2Proof.Proofs
end

section

/-!
## The resets of the part

RESET and what holds the dispatcher after it, and the reset values with LINE's fault input in either level (R189, R172,
R19).
-/

namespace Sys2Proof.Machine

/-! ### An accepted RESET holds the dispatcher (R177, R189) -/

theorem pump_resetPending {s : State} (h : s.link.resetPending = true) (n : Nat) : pump n s = s := by
  cases n with
  | zero => rfl
  | succ n =>
    unfold pump
    rw [h]
    cases s.link.slot <;> rfl

theorem settle_resetPending {s : State} (hr : s.link.resetPending = true) (ht : s.link.tx.isSome = true) :
    settle s = s := by
  unfold settle
  dsimp only
  rw [txChoose_busy ht, pump_resetPending hr]

theorem exec_reset {s : State} {tag : Octet} (h : s.atRest = true) :
    exec (.reset tag []) s = .next (txChoose { s with link := { s.link with
      resetPending := true, slot := some { kind := 0x82, tag := tag, payload := [0x00], resets := true } } }) := by
  rw [exec_deliver (f := { kind := 0x02, tag, payload := [] }) rfl, deliver_atRest h]
  rfl

/-! ### The reset values -/

theorem exec_hardwareReset (strap1 strap0 : Bool) (s : State) :
    exec (.hardwareReset strap1 strap0) s = .next (partReset 1 (strapRate strap1 strap0) s) := rfl

theorem exec_powerOnReset (strap1 strap0 : Bool) (s : State) :
    exec (.powerOnReset strap1 strap0) s = .next (partReset 1 (strapRate strap1 strap0) s) := rfl

theorem strapRate_eq (strap1 strap0 : Bool) :
    strapRate strap1 strap0 = BitVec.ofNat 2 (2 * strap1.toNat + strap0.toNat) := by
  cases strap1 <;> cases strap0 <;> rfl

theorem exec_frameSent_resets {s : State} {f : OutFrame} (htx : s.link.tx = some f) (hf : f.resets = true) :
    exec .frameSent s = .next (partReset 2 s.link.rate s) := by
  have hsent : frameSent s = partReset 2 s.link.rate s := by
    unfold frameSent
    dsimp only
    rw [txChoose_busy (by rw [htx]; rfl), htx]
    exact if_pos hf
  exact congrArg Host.Outcome.next hsent

theorem restart_blocks (s : State) (cause : Nat) (rate : BitVec 2) : resetBlocks s (s.restart cause rate) := by
  refine ⟨rfl, rfl, rfl, rfl, rfl, rfl, rfl, rfl, rfl, rfl, fun st => ?_, fun l => ?_⟩
  · cases st <;> rfl
  · cases l <;> rfl

/-- Without LINE's fault input a reset is the reset values (R189). -/
theorem partReset_of_no_fault {s : State} {cause : Nat} {rate : BitVec 2} (h : s.ref.line.faultIn = false) :
    partReset cause rate s = s.restart cause rate := by
  have hline : (s.restart cause rate).ref.line.faultIn = false := h
  unfold partReset
  dsimp only
  rw [hline]
  rfl

/-! ### LINE's fault at a reset (R19, log 6) -/

/-- The part right after a reset with LINE in FAULT, before what its fault raises. -/
def State.restartFaulted (s : State) (cause : Nat) (rate : BitVec 2) : State :=
  { s.restart cause rate with ref := resetReference s.ref .fault }

/-- A part without enabled stations takes no cause. -/
theorem addReference_of_disabled {s : State} (h : ∀ st, s.enabled st = false) : addReference s = s := by
  have hadd (st : StationId) : addHard .reference st s = s := by
    unfold addHard
    rw [h st]
    rfl
  unfold addReference overStations
  induction allStations with
  | nil => rfl
  | cons st sts ih => rw [List.foldl_cons, hadd, ih]

theorem restartFaulted_flushed (s : State) (cause : Nat) (rate : BitVec 2) :
    (s.restartFaulted cause rate).flushed = s.restartFaulted cause rate := by
  have hstation : Station.flush ∘ Station.restart = Station.restart := funext fun _ => rfl
  have hlane (web : Pos) : Lane.flush web ∘ Lane.restart = Lane.restart := funext fun _ => rfl
  have hstations : (s.stations.map Station.restart).map Station.flush = s.stations.map Station.restart :=
    congrArg s.stations.map hstation
  have hlanes : (s.lanes.map Lane.restart).map (fun u => u.flush 0) = s.lanes.map Lane.restart :=
    congrArg s.lanes.map (hlane 0)
  unfold State.flushed
  have hweb : (s.restartFaulted cause rate).web = 0 := (by decide : Reference.reset.web = 0)
  rw [hweb, show (s.restartFaulted cause rate).stations.map Station.flush = s.stations.map Station.restart from hstations,
    show ((s.restartFaulted cause rate).lanes.map fun u => u.flush 0) =
      s.lanes.map Lane.restart from hlanes]
  rfl

/-- The raises of LINE's fault at a reset: of the flush and of the fault (R12, R7). -/
def State.faultRaised (s : State) : State := raiseEvent .sourceFault 0 1 (raiseEvent .queueFlushed 0 0 s)

theorem partReset_of_fault {s : State} {cause : Nat} {rate : BitVec 2} (h : s.ref.line.faultIn = true) :
    partReset cause rate s = (s.restartFaulted cause rate).faultRaised := by
  have hline : (s.restart cause rate).ref.line.faultIn = true := h
  have hdisabled (st : StationId) : (s.restartFaulted cause rate).enabled st = false := by
    cases st <;> rfl
  have hflush : flush (addReference (s.restartFaulted cause rate)) =
      raiseEvent .queueFlushed 0 0 (s.restartFaulted cause rate) := by
    rw [addReference_of_disabled hdisabled, flush_eq, restartFaulted_flushed]
    rfl
  unfold partReset
  dsimp only
  rw [hline, if_pos rfl, sourceFaults_eq]
  exact congrArg (raiseEvent .sourceFault 0 1) hflush

/-- The event set after the flush's raise at a reset: the notice of RESTART has left the list. -/
def EventSet.resetFlushed (cause : Nat) : EventSet :=
  { EventSet.resetFor cause with
    records := (EventSet.resetFor cause).records.set EventKind.queueFlushed.index
      { unit := 0, detail := 0, web := Reference.reset.web }
    flags := 1#24 ||| EventKind.queueFlushed.bit
    due := [.queueFlushed] }

theorem noticeFrame_restart {cause : Nat} (hcause : cause = 1 ∨ cause = 2) :
    noticeFrame (EventSet.resetFlushed cause) .restart =
      OutFrame.mk 0xFF 0x00 [0, 0, 0, 0, 0, 0, BitVec.ofNat 8 cause, 0] false := by
  rcases hcause with rfl | rfl <;> decide

/-- At a reset, RESTART being due, its notice is started by the flush's raise (log 6). -/
theorem raiseEvent_restartFaulted (cause : Nat) (rate : BitVec 2) (s : State) :
    raiseEvent .queueFlushed 0 0 (s.restartFaulted cause rate) = { s.restartFaulted cause rate with
      events := EventSet.resetFlushed cause
      link := { Link.resetAt rate with tx := some (noticeFrame (EventSet.resetFlushed cause) .restart) } } := by
  have hout : ¬ EventKind.queueFlushed.isIn 1#24 = true := by decide
  have hin : EventKind.queueFlushed.isIn (BitVec.allOnes 24) = true := by decide
  rw [raiseEvent_eq]
  refine (if_neg hout).trans ((if_pos hin).trans ?_)
  rfl

/-- The raise of the fault finds the transmitter busy, and stays due. -/
theorem faultRaised_eq (cause : Nat) (rate : BitVec 2) (s : State) :
    (s.restartFaulted cause rate).faultRaised = { s.restartFaulted cause rate with
      events := { EventSet.resetFlushed cause with
        records := (EventSet.resetFlushed cause).records.set EventKind.sourceFault.index
          { unit := 0, detail := 1, web := Reference.reset.web }
        flags := 1#24 ||| EventKind.queueFlushed.bit ||| EventKind.sourceFault.bit
        due := [.queueFlushed, .sourceFault] }
      link := { Link.resetAt rate with tx := some (noticeFrame (EventSet.resetFlushed cause) .restart) } } := by
  have hout : ¬ EventKind.sourceFault.isIn (1#24 ||| EventKind.queueFlushed.bit) = true := by decide
  have hin : EventKind.sourceFault.isIn (BitVec.allOnes 24) = true := by decide
  unfold State.faultRaised
  rw [raiseEvent_restartFaulted, raiseEvent_eq]
  refine (if_neg hout).trans ((if_pos hin).trans (txChoose_busy ?_))
  rfl

theorem faultRaised_outcome {cause : Nat} (hcause : cause = 1 ∨ cause = 2) (rate : BitVec 2) (s : State) :
    let t := (s.restartFaulted cause rate).faultRaised
    resetBlocks s t ∧ t.ref = resetReference s.ref .fault ∧
      t.link = { Link.resetAt rate with
        tx := some (OutFrame.mk 0xFF 0x00 [0, 0, 0, 0, 0, 0, BitVec.ofNat 8 cause, 0] false) } ∧
      t.events.due = [.queueFlushed, .sourceFault] ∧ t.events.flags = 0b10011#24 := by
  intro t
  have ht : t = _ := faultRaised_eq cause rate s
  rw [ht, noticeFrame_restart hcause]
  exact ⟨restart_blocks s cause rate, rfl, rfl, rfl, (by decide : 1#24 ||| EventKind.queueFlushed.bit |||
    EventKind.sourceFault.bit = 0b10011#24)⟩

end Sys2Proof.Machine

namespace Sys2Proof.Proofs

open Sys2Proof.Machine

/-- Settles O40, by the dispatcher held and by what the reset values, with LINE's fault input in either level, are. -/
theorem resetsOfThePart : Obligations.ResetsOfThePart := by
  intro s tag f strap1 strap0 rate
  have hrate : strapRate strap1 strap0 = rate := strapRate_eq strap1 strap0
  have hhard := exec_hardwareReset strap1 strap0 s
  have hpower := exec_powerOnReset strap1 strap0 s
  rw [hrate] at hhard hpower
  refine ⟨exec_reset, fun i g hi hr ht hroom => ?_, fun hin => ?_, fun hin => ?_, fun hin htx hf => ?_⟩
  · rw [exec_deliver hi, deliver, takeGood_room hroom]
    exact congrArg Host.Outcome.next (settle_resetPending hr ht)
  · rw [partReset_of_no_fault hin] at hhard hpower
    refine ⟨fun htx hf => ?_, ⟨_, hhard, restart_blocks .., rfl, rfl, rfl⟩, ⟨_, hpower, restart_blocks .., rfl, rfl, rfl⟩⟩
    have hsent := exec_frameSent_resets htx hf
    rw [partReset_of_no_fault hin] at hsent
    exact ⟨_, hsent, restart_blocks .., rfl, rfl, rfl⟩
  · rw [partReset_of_fault hin] at hhard hpower
    exact ⟨_, hhard, hpower, faultRaised_outcome (.inl rfl) rate s⟩
  · have hsent := exec_frameSent_resets htx hf
    rw [partReset_of_fault hin] at hsent
    exact ⟨_, hsent, faultRaised_outcome (.inr rfl) s.link.rate s⟩

end Sys2Proof.Proofs
end

section

/-!
## Mark channels

The edges of a channel and the over-width threshold, and where a qualified mark ends (R20 to R23, R46).
-/

namespace Sys2Proof.Machine

section

variable {s : State} {ch : Channel}

theorem exec_markLeadingEdge (ch : Channel) (s : State) :
    exec (.markLeadingEdge ch) s = .next (markLeadingEdge ch s) := rfl

theorem exec_markTrailingEdge (ch : Channel) (s : State) :
    exec (.markTrailingEdge ch) s = .next (markTrailingEdge ch s) := rfl

theorem exec_overwidthThreshold (ch : Channel) (s : State) :
    exec (.overwidthThreshold ch) s = .next (overwidthThreshold ch s) := rfl

/-! ### The channel in the state -/

theorem setChannel_setChannel (s : State) (ch : Channel) (c d : MarkChannel) :
    (s.setChannel ch c).setChannel ch d = s.setChannel ch d := by
  cases ch with
  | m0 => rfl
  | station st => exact State.modStation_modStation s st (fun u => { u with channel := c }) fun u => { u with channel := d }

theorem setChannel_channel (s : State) (ch : Channel) (c : MarkChannel) : (s.setChannel ch c).channel ch = c := by
  cases ch with
  | m0 => rfl
  | station st => exact congrArg Station.channel (State.modStation_station s st fun u => { u with channel := c })

theorem setChannel_enabled (s : State) (st : StationId) (c : MarkChannel) :
    (s.setChannel (.station st) c).enabled st = s.enabled st := by
  have h := congrArg (fun u : Station => u.setup.enabled)
    (State.modStation_station s st fun u => { u with channel := c })
  exact h

/-! ### The over-width threshold (R22) -/

theorem overwidthThreshold_reached {lead p : Pos} (hst : (s.channel ch).state = .inMark lead p)
    (hr : 0 ≤ sdiff s.ref.hw p) :
    overwidthThreshold ch s = s.setChannel ch { (s.channel ch).reject with state := .overwide } := by
  unfold overwidthThreshold
  dsimp only
  rw [hst]
  exact if_pos ((reached_iff _ _).mpr hr)

theorem overwidthThreshold_not
    (h : ∀ lead p, (s.channel ch).state = .inMark lead p → sdiff s.ref.hw p < 0) : overwidthThreshold ch s = s := by
  unfold overwidthThreshold
  dsimp only
  cases hst : (s.channel ch).state with
  | out => rfl
  | overwide => rfl
  | inMark lead p => exact if_neg fun hr => Int.not_lt.mpr ((reached_iff _ _).mp hr) (h lead p hst)

/-! ### The edges (R20, R21) -/

theorem markLeadingEdge_ahead (h : s.behind = false) (ch : Channel) :
    markLeadingEdge ch s = s.setChannel ch ((s.channel ch).leading s.entry.cmax s.web) := by
  unfold markLeadingEdge
  rw [h]
  rfl

theorem markTrailingEdge_out (h : s.behind = false) (hst : (s.channel ch).state = .out) : markTrailingEdge ch s = s := by
  unfold markTrailingEdge
  dsimp only
  rw [h, hst]
  rfl

theorem markTrailingEdge_overwide (h : s.behind = false) (hst : (s.channel ch).state = .overwide) :
    markTrailingEdge ch s = s.setChannel ch (s.channel ch).leave := by
  unfold markTrailingEdge
  dsimp only
  rw [h, hst]
  rfl

theorem classify_eq_none_iff (e : EntrySettings) (w : Int) :
    e.classify w = none ↔ ¬ ((e.nmin : Int) ≤ w ∧ w ≤ e.nmax) ∧ ¬ ((e.cmin : Int) ≤ w ∧ w ≤ e.cmax) := by
  unfold EntrySettings.classify
  by_cases hn : (e.nmin : Int) ≤ w ∧ w ≤ e.nmax
  · simp [hn]
  · by_cases hc : (e.cmin : Int) ≤ w ∧ w ≤ e.cmax
    · simp [hn, hc]
    · simp [hn, hc]

theorem markTrailingEdge_rejected {lead p : Pos} (h : s.behind = false) (hst : (s.channel ch).state = .inMark lead p)
    (hc : s.entry.classify (sdiff s.web lead) = none) :
    markTrailingEdge ch s = s.setChannel ch (s.channel ch).leave.reject := by
  unfold markTrailingEdge
  dsimp only
  rw [h, hst]
  dsimp only
  rw [hc]
  rfl

theorem markTrailingEdge_qualified {lead p : Pos} {k : MarkClass} (h : s.behind = false)
    (hst : (s.channel ch).state = .inMark lead p) (hc : s.entry.classify (sdiff s.web lead) = some k) :
    markTrailingEdge ch s = qualified ch lead k (s.setChannel ch (s.channel ch).leave) := by
  unfold markTrailingEdge
  dsimp only
  rw [h, hst]
  dsimp only
  rw [hc]
  rfl

/-! ### Where a qualified mark ends (R23, R36, R46) -/

theorem qualified_m0_off (h : s.tracker.state = .off) (p : Pos) (k : MarkClass) : qualified .m0 p k s = s := by
  unfold qualified entryMark
  dsimp only
  rw [h]

theorem qualified_disabled {st : StationId} (h : s.enabled st = false) (p : Pos) (k : MarkClass) :
    qualified (.station st) p k s = s := by
  unfold qualified
  dsimp only
  rw [h]
  rfl

theorem qualified_stray {st : StationId} {p : Pos} (he : s.enabled st = true)
    (h : ∀ r v, s.oldestWaiting st = some (r, v) → v.swin < (sdiff p v.expected).natAbs) (k : MarkClass) :
    qualified (.station st) p k s = s.setChannel (.station st)
      { s.channel (.station st) with stray := bump16 (s.channel (.station st)).stray } := by
  unfold qualified stationMark
  dsimp only
  rw [he, if_pos rfl]
  cases how : s.oldestWaiting st with
  | none => rfl
  | some rv =>
    obtain ⟨r, v⟩ := rv
    exact if_neg fun hc => Nat.not_lt.mpr (of_decide_eq_true hc) (h r v how)

end

end Sys2Proof.Machine

namespace Sys2Proof.Proofs

open Sys2Proof.Machine

/-- Settles O47, by the edge, the channel's state and the class of the mark. -/
theorem markChannelMoves : Obligations.MarkChannelMoves := by
  intro s ch hahead c rejected width normal cycle
  have h : s.behind = false := decide_eq_false (Int.not_lt.mpr hahead)
  rw [exec_markLeadingEdge, exec_overwidthThreshold, exec_markTrailingEdge]
  refine ⟨?_, fun lead p hst hr => ?_, fun hnot => ?_, fun hst => ?_, fun hst => ?_, fun lead p hst hn hc => ?_,
    fun lead p hst hband => ?_⟩
  · rw [markLeadingEdge_ahead h]
    refine congrArg (fun c => Host.Outcome.next (s.setChannel ch c)) ?_
    have hposition : posShift s.web (s.entry.cmax + 1) = s.web + BitVec.ofNat 32 (s.entry.cmax + 1) :=
      congrArg (s.web + ·) (BitVec.ofInt_natCast ..)
    show MarkChannel.leading c _ _ = _
    unfold MarkChannel.leading
    dsimp only
    rw [hposition]
    cases hst : c.state with
    | out => rfl
    | overwide => rfl
    | inMark lead p => exact congrArg (fun n => ({ c with
        state := .inMark s.web (s.web + BitVec.ofNat 32 (s.entry.cmax + 1)), rejected := n } : MarkChannel)) (bump16_eq _)
  · rw [overwidthThreshold_reached hst hr, MarkChannel.reject, bump16_eq]
  · rw [overwidthThreshold_not hnot]
  · rw [markTrailingEdge_out h hst]
  · rw [markTrailingEdge_overwide h hst]
    rfl
  · rw [markTrailingEdge_rejected h hst ((classify_eq_none_iff ..).mpr ⟨hn, hc⟩), MarkChannel.reject, bump16_eq]
    rfl
  · obtain ⟨k, hk⟩ : ∃ k, s.entry.classify (width lead) = some k :=
      Option.ne_none_iff_exists'.mp fun hnone => by
        have hbad := (classify_eq_none_iff ..).mp hnone
        exact hband.elim hbad.1 hbad.2
    rw [markTrailingEdge_qualified h hst hk]
    refine ⟨?_, fun st hch he => ?_, fun st hch he how => ?_⟩
    · rintro rfl hoff
      exact congrArg Host.Outcome.next (qualified_m0_off (s := s.setChannel .m0 c.leave) hoff lead k)
    · subst hch
      exact congrArg Host.Outcome.next (qualified_disabled ((setChannel_enabled ..).trans he) lead k)
    · subst hch
      rw [qualified_stray ((setChannel_enabled ..).trans he) how, setChannel_setChannel, setChannel_channel, bump16_eq]
      rfl

end Sys2Proof.Proofs
end

section

/-!
## Splice zones

What a leading splice edge makes of each record, lane and station, the records hit taken in queue order (R24 to R26,
R56, R57), and the zone that leaves the list (R25).
-/

namespace Sys2Proof.Machine

/-! ### One record flagged (R26, R56) -/

/-- The feeds of the record's visit at a station. -/
def LabelRecord.feedsAt (r : LabelRecord) (st : StationId) : List FeedRecord := ((r.visit st).map Visit.feeds).getD []

/-- The conversion of the record's visit at a station, if it is an undelivered STRIKE (R56). -/
def spliceAt (r : LabelRecord) (st : StationId) (s : State) : State :=
  if undeliveredAt r st then convertVisit r.seq st .splice (r.feedsAt st) s else s

/-- The record at which the visits of `r`'s undelivered STRIKEs at the stations given are converted. -/
def LabelRecord.splicedAt (r : LabelRecord) (sts : List StationId) (x : LabelRecord) : LabelRecord :=
  sts.foldl (fun x st => if undeliveredAt r st then x.converted st .splice else x) x

/-- A record hit by a splice zone: flagged, its undelivered STRIKE visits converted (R26, R56). -/
def LabelRecord.spliced (r : LabelRecord) : LabelRecord := r.splicedAt allStations { r with splice := true }

/-- An undelivered STRIKE of the record at one of the stations names the lane. -/
def LabelRecord.reaches (r : LabelRecord) (sts : List StationId) (l : LaneId) : Bool :=
  sts.any fun st => undeliveredAt r st && (r.visit st).any fun v => v.feeds.any fun f => f.lane == l

/-- A visit of the station, of a record before that of the number given, holds an undelivered STRIKE. -/
def strikesBefore (seq : BitVec 16) (st : StationId) (q : List LabelRecord) : Bool :=
  (visitsOf st (recordsBefore seq q)).any Visit.undelivered

theorem flagSplice_eq (r : LabelRecord) (s : State) :
    flagSplice r s = overStations allStations (spliceAt r)
      { s with queue := modRecord r.seq (fun r => { r with splice := true }) s.queue } := by
  unfold flagSplice
  dsimp only
  congr 1
  funext st s
  unfold spliceAt undeliveredAt LabelRecord.feedsAt
  cases r.visit st with
  | none => rfl
  | some v => rfl

section

variable (r : LabelRecord)

theorem splicedAt_seq (sts : List StationId) (x : LabelRecord) : (r.splicedAt sts x).seq = x.seq := by
  unfold LabelRecord.splicedAt
  induction sts generalizing x with
  | nil => rfl
  | cons st sts ih =>
    rw [List.foldl_cons, ih]
    split <;> rfl

theorem splicedAt_frame (sts : List StationId) (x : LabelRecord) :
    { r.splicedAt sts x with visits := x.visits } = x := by
  unfold LabelRecord.splicedAt
  induction sts generalizing x with
  | nil => rfl
  | cons st sts ih =>
    rw [List.foldl_cons]
    have hx := congrArg (fun y : LabelRecord => ({ y with visits := x.visits } : LabelRecord))
      (ih (if undeliveredAt r st then x.converted st .splice else x))
    refine hx.trans ?_
    split <;> rfl

theorem converted_visit (x : LabelRecord) (st st' : StationId) (reason : SkipReason) :
    (x.converted st reason).visit st' =
      if st' = st then (x.visit st).map fun v => { v with decision := some (.skip reason) } else x.visit st' := by
  by_cases h : st' = st
  · subst h
    rw [if_pos rfl]
    exact PerStation.get_put_self ..
  · rw [if_neg h]
    exact PerStation.get_put_of_ne _ h _

theorem splicedAt_visit {sts : List StationId} (hnd : sts.Nodup) (x : LabelRecord) (st : StationId) :
    (r.splicedAt sts x).visit st =
      if st ∈ sts ∧ undeliveredAt r st = true then (x.visit st).map fun v => { v with decision := some (.skip .splice) }
      else x.visit st := by
  unfold LabelRecord.splicedAt
  induction sts generalizing x with
  | nil => simp
  | cons st' sts ih =>
    obtain ⟨hst', hrest⟩ := List.nodup_cons.mp hnd
    rw [List.foldl_cons, ih hrest]
    by_cases heq : st = st'
    · subst heq
      rw [if_neg fun h => hst' h.1]
      by_cases hu : undeliveredAt r st = true
      · rw [if_pos hu, if_pos ⟨List.mem_cons_self, hu⟩, converted_visit, if_pos rfl]
      · rw [if_neg hu, if_neg fun h => hu h.2]
    · have hsame : (if undeliveredAt r st' then x.converted st' .splice else x).visit st = x.visit st := by
        split
        · rw [converted_visit, if_neg heq]
        · rfl
      simp only [List.mem_cons, heq, false_or, hsame]

end

/-! ### What the conversions of one record make of the part (R57, R106) -/

section

variable (r : LabelRecord)

theorem namesLane_feedsAt (st : StationId) (l : LaneId) :
    namesLane (r.feedsAt st) l = (r.visit st).any fun v => v.feeds.any fun f => f.lane == l := by
  unfold LabelRecord.feedsAt namesLane
  cases r.visit st <;> rfl

theorem spliceAll_lane (sts : List StationId) (s : State) (l : LaneId) :
    (overStations sts (spliceAt r) s).lane l =
      if r.reaches sts l then (s.lane l).stopOne r.seq else s.lane l := by
  unfold overStations
  induction sts generalizing s with
  | nil => rfl
  | cons st sts ih =>
    have hcons : r.reaches (st :: sts) l = ((undeliveredAt r st && namesLane (r.feedsAt st) l) || r.reaches sts l) := by
      rw [namesLane_feedsAt]
      rfl
    have hone : (spliceAt r st s).lane l =
        if undeliveredAt r st && namesLane (r.feedsAt st) l then (s.lane l).stopOne r.seq else s.lane l := by
      unfold spliceAt
      cases undeliveredAt r st with
      | false => rfl
      | true => exact convertVisit_lane ..
    rw [List.foldl_cons, ih, hone, hcons]
    cases undeliveredAt r st && namesLane (r.feedsAt st) l with
    | false => rfl
    | true =>
      simp only [if_true, Bool.true_or, stopOne_stopOne, ite_self]

theorem spliceAll_queue (sts : List StationId) (s : State) :
    (overStations sts (spliceAt r) s).queue =
      s.queue.map fun x => if x.seq = r.seq then r.splicedAt sts x else x := by
  unfold overStations
  induction sts generalizing s with
  | nil => simp [LabelRecord.splicedAt]
  | cons st sts ih =>
    have hone : (spliceAt r st s).queue = s.queue.map fun x =>
        if x.seq = r.seq then (if undeliveredAt r st then x.converted st .splice else x) else x := by
      unfold spliceAt
      cases undeliveredAt r st with
      | false => simp
      | true => exact convertVisit_queue ..
    rw [List.foldl_cons, ih, hone, List.map_map]
    refine List.map_congr_left fun x _ => ?_
    have hseq : (if undeliveredAt r st then x.converted st .splice else x).seq = x.seq := by
      split <;> rfl
    by_cases hx : x.seq = r.seq
    · simp only [Function.comp_apply, hx, if_true, hseq]
      rfl
    · simp only [Function.comp_apply, hx, if_false]

theorem skipDecided_lifts (seq : BitVec 16) (st : StationId) (s : State) (st' : StationId) :
    (skipDecided seq st s).station st' =
      if st' = st ∧ strikesBefore seq st s.queue = false then (s.station st').cancelAndLift else s.station st' := by
  unfold skipDecided strikesBefore
  cases (visitsOf st (recordsBefore seq s.queue)).any Visit.undelivered with
  | true => exact (if_neg fun h => nomatch h.2).symm
  | false =>
    by_cases he : st' = st
    · subst he
      exact (State.modStation_station s st' _).trans (if_pos ⟨rfl, rfl⟩).symm
    · exact (State.modStation_station_of_ne s he _).trans (if_neg fun h => he h.1).symm

/-- Which station a conversion lifts (R106). -/
theorem convertVisit_lifts (seq : BitVec 16) (st : StationId) (reason : SkipReason) (feeds : List FeedRecord)
    (s : State) (st' : StationId) :
    (convertVisit seq st reason feeds s).station st' =
      if st' = st ∧ strikesBefore seq st (visitsChanged s.queue seq st fun v => { v with decision := some (.skip reason) }) =
        false then (s.station st').cancelAndLift else s.station st' := by
  obtain ⟨lanes, hlanes⟩ := overLanes_modLane_frame (fun _ u => u.stopOne seq) (feeds.map FeedRecord.lane)
    (modVisit seq st (fun v => { v with decision := some (.skip reason) }) s)
  rw [convertVisit, skipDecided_lifts, hlanes]
  rfl

/-- The records before one of a number do not change with it. -/
theorem recordsBefore_map {seq : BitVec 16} {f : LabelRecord → LabelRecord} (hf : ∀ x, (f x).seq = x.seq)
    (hkeep : ∀ x : LabelRecord, x.seq ≠ seq → f x = x) (q : List LabelRecord) :
    recordsBefore seq (q.map f) = recordsBefore seq q := by
  unfold recordsBefore
  induction q with
  | nil => rfl
  | cons x q ih =>
    by_cases hx : x.seq = seq
    · simp [hf, hx]
    · simp [hkeep x hx, hx, ih]

theorem strikesBefore_map {seq : BitVec 16} {f : LabelRecord → LabelRecord} (hf : ∀ x, (f x).seq = x.seq)
    (hkeep : ∀ x : LabelRecord, x.seq ≠ seq → f x = x) (q : List LabelRecord) (st : StationId) :
    strikesBefore seq st (q.map f) = strikesBefore seq st q :=
  congrArg (fun q => (visitsOf st q).any Visit.undelivered) (recordsBefore_map hf hkeep q)

theorem spliceAll_station {sts : List StationId} (hnd : sts.Nodup) (s : State) (st : StationId) :
    (overStations sts (spliceAt r) s).station st =
      if st ∈ sts ∧ undeliveredAt r st = true ∧ strikesBefore r.seq st s.queue = false
      then (s.station st).cancelAndLift else s.station st := by
  unfold overStations
  induction sts generalizing s with
  | nil => simp
  | cons st' sts ih =>
    obtain ⟨hst', hrest⟩ := List.nodup_cons.mp hnd
    have hchanged (q : List LabelRecord) (k : StationId) : strikesBefore r.seq k
        (visitsChanged q r.seq st' fun v => { v with decision := some (.skip .splice) }) = strikesBefore r.seq k q := by
      refine strikesBefore_map (fun x => ?_) (fun x hx => if_neg hx) q k
      split <;> rfl
    have hbefore (k : StationId) : strikesBefore r.seq k (spliceAt r st' s).queue = strikesBefore r.seq k s.queue := by
      unfold spliceAt
      split
      · rw [convertVisit_queue, hchanged]
      · rfl
    have hone : (spliceAt r st' s).station st =
        if st = st' ∧ undeliveredAt r st = true ∧ strikesBefore r.seq st s.queue = false
        then (s.station st).cancelAndLift else s.station st := by
      unfold spliceAt
      by_cases hu : undeliveredAt r st' = true
      · rw [if_pos hu, convertVisit_lifts, hchanged]
        refine if_congr ⟨fun h => ?_, fun h => ?_⟩ rfl rfl
        · obtain ⟨rfl, hb⟩ := h
          exact ⟨rfl, hu, hb⟩
        · obtain ⟨rfl, -, hb⟩ := h
          exact ⟨rfl, hb⟩
      · rw [if_neg hu, if_neg]
        rintro ⟨rfl, hu', -⟩
        exact hu hu'
    rw [List.foldl_cons, ih hrest, hbefore, hone]
    by_cases heq : st = st'
    · subst heq
      rw [if_neg fun h => hst' h.1]
      simp only [List.mem_cons, true_or, true_and]
    · simp only [heq, false_and, if_false, List.mem_cons, false_or]

end

/-! ### The records hit, one after the other (R26, log 24) -/

/-- What flagging one record does to the queue. -/
theorem flagSplice_queue (r : LabelRecord) (s : State) :
    (flagSplice r s).queue = s.queue.map fun x =>
      if x.seq = r.seq then r.splicedAt allStations { x with splice := true } else x := by
  rw [flagSplice_eq, spliceAll_queue]
  refine (List.map_map ..).trans (List.map_congr_left fun x _ => ?_)
  by_cases hx : x.seq = r.seq
  · simp only [Function.comp_apply, hx, if_true]
  · simp only [Function.comp_apply, hx, if_false]

theorem flagSplice_lane (r : LabelRecord) (s : State) (l : LaneId) :
    (flagSplice r s).lane l = if r.reaches allStations l then (s.lane l).stopOne r.seq else s.lane l := by
  rw [flagSplice_eq, spliceAll_lane]
  rfl

theorem flagSplice_station (r : LabelRecord) (s : State) (st : StationId) :
    (flagSplice r s).station st =
      if undeliveredAt r st = true ∧ strikesBefore r.seq st s.queue = false then (s.station st).cancelAndLift
      else s.station st := by
  have hbefore : strikesBefore r.seq st (modRecord r.seq (fun r => { r with splice := true }) s.queue) =
      strikesBefore r.seq st s.queue := by
    refine strikesBefore_map (fun x => ?_) (fun x hx => if_neg hx) s.queue st
    split <;> rfl
  rw [flagSplice_eq, spliceAll_station r (by decide), hbefore]
  exact if_congr (and_iff_right (mem_allStations st)) rfl rfl

theorem flagSplice_frame (r : LabelRecord) (s : State) :
    { flagSplice r s with queue := s.queue, stations := s.stations, lanes := s.lanes } = s := by
  rw [flagSplice_eq]
  refine overStations_keeps (P := fun t => { t with queue := s.queue, stations := s.stations, lanes := s.lanes } = s)
    (fun st t ht => ?_) allStations rfl
  unfold spliceAt
  split
  · obtain ⟨stations, lanes, queue, hframe⟩ := convertVisit_frame r.seq st .splice (r.feedsAt st) t
    rw [hframe]
    exact ht
  · exact ht

theorem flagAll_lane (rs : List LabelRecord) (s : State) (l : LaneId) :
    (rs.foldl (fun s r => flagSplice r s) s).lane l =
      (withdrawing rs allStations l).foldl (fun u seq => u.stopOne seq) (s.lane l) := by
  induction rs generalizing s with
  | nil => rfl
  | cons r rs ih =>
    have hcons : withdrawing (r :: rs) allStations l =
        if r.reaches allStations l then r.seq :: withdrawing rs allStations l else withdrawing rs allStations l := by
      unfold withdrawing
      rw [List.filter_cons]
      exact apply_ite (List.map LabelRecord.seq) ..
    rw [List.foldl_cons, ih, flagSplice_lane, hcons]
    split <;> rfl

theorem flagAll_frame (rs : List LabelRecord) (s : State) :
    { rs.foldl (fun s r => flagSplice r s) s with queue := s.queue, stations := s.stations, lanes := s.lanes } = s := by
  induction rs generalizing s with
  | nil => rfl
  | cons r rs ih =>
    have h := congrArg (fun t : State => ({ t with queue := s.queue, stations := s.stations, lanes := s.lanes } : State))
      (ih (flagSplice r s))
    exact h.trans (flagSplice_frame r s)

theorem anyUndelivered_eq (st : StationId) (q : List LabelRecord) :
    (visitsOf st q).any Visit.undelivered = q.any fun r => undeliveredAt r st := by
  unfold visitsOf
  induction q with
  | nil => rfl
  | cons r q ih =>
    rw [List.filterMap_cons, List.any_cons, ← ih]
    unfold undeliveredAt
    cases r.visit st <;> rfl

/-- The records before the first of a number. -/
theorem recordsBefore_append {seq : BitVec 16} {pre : List LabelRecord} (hpre : ∀ x ∈ pre, x.seq ≠ seq)
    {r : LabelRecord} (hr : r.seq = seq) (suf : List LabelRecord) : recordsBefore seq (pre ++ r :: suf) = pre := by
  unfold recordsBefore
  rw [List.takeWhile_append_of_pos fun x hx => by simpa using hpre x hx, List.takeWhile_cons_of_neg (by simp [hr]),
    List.append_nil]

/-- The visits of a record hit: each undelivered STRIKE is a SKIP with reason SPLICE (R26). -/
theorem spliced_visit (r : LabelRecord) (st : StationId) :
    r.spliced.visit st = (r.visit st).map fun v =>
      if v.decision = some .strike ∧ v.state ≠ .final then { v with decision := some (.skip .splice) } else v := by
  have hvisit : r.spliced.visit st = _ := splicedAt_visit r (by decide) { r with splice := true } st
  have hsame : ({ r with splice := true } : LabelRecord).visit st = r.visit st := rfl
  rw [hvisit, hsame]
  cases hv : r.visit st with
  | none => exact ite_self _
  | some v =>
    have hat : undeliveredAt r st = true ↔ v.decision = some .strike ∧ v.state ≠ .final := by
      simp [undeliveredAt, hv]
    by_cases hu : v.decision = some .strike ∧ v.state ≠ .final
    · rw [if_pos ⟨mem_allStations st, hat.mpr hu⟩, Option.map_some, Option.map_some, if_pos hu]
    · rw [if_neg fun h => hu (hat.mp h.2), Option.map_some, if_neg hu]

theorem spliced_undeliveredAt (r : LabelRecord) (st : StationId) : undeliveredAt r.spliced st = false := by
  unfold undeliveredAt
  rw [spliced_visit]
  cases r.visit st with
  | none => rfl
  | some v =>
    by_cases hu : v.decision = some .strike ∧ v.state ≠ .final
    · simp [hu]
    · simp only [Option.map_some, if_neg hu]
      simpa using hu

/-- A record after a splice edge, by whether the zone hits it. -/
def LabelRecord.flagged (hit : LabelRecord → Bool) (r : LabelRecord) : LabelRecord := if hit r then r.spliced else r

theorem flagged_seq (hit : LabelRecord → Bool) (r : LabelRecord) : (r.flagged hit).seq = r.seq := by
  unfold LabelRecord.flagged
  split
  · exact splicedAt_seq ..
  · rfl

section

variable {hit : LabelRecord → Bool} {pre suf : List LabelRecord} {r : LabelRecord}

theorem flagged_seq_ne (hpre : ∀ x ∈ pre, x.seq ≠ r.seq) : ∀ y ∈ pre.map (LabelRecord.flagged hit), y.seq ≠ r.seq := by
  intro y hy
  obtain ⟨x, hx, rfl⟩ := List.mem_map.mp hy
  exact flagged_seq hit x ▸ hpre x hx

/-- The next record hit, once those before it are flagged. -/
theorem flagSplice_next (hpre : ∀ x ∈ pre, x.seq ≠ r.seq) (hsuf : ∀ x ∈ suf, x.seq ≠ r.seq) :
    (pre.map (LabelRecord.flagged hit) ++ r :: suf).map (fun x =>
      if x.seq = r.seq then r.splicedAt allStations { x with splice := true } else x) =
      pre.map (LabelRecord.flagged hit) ++ r.spliced :: suf := by
  rw [List.map_append, List.map_cons, if_pos rfl]
  refine congrArg₂ (· ++ ·) ?_ (congrArg (r.spliced :: ·) ?_)
  · exact (List.map_congr_left fun y hy => if_neg (flagged_seq_ne hpre y hy)).trans (List.map_id' _)
  · exact (List.map_congr_left fun x hx => if_neg (hsuf x hx)).trans (List.map_id' _)

/-- Of the records before the next one, those that are not hit hold the outstanding STRIKEs. -/
theorem strikesBefore_flagged (hpre : ∀ x ∈ pre, x.seq ≠ r.seq) (st : StationId) :
    strikesBefore r.seq st (pre.map (LabelRecord.flagged hit) ++ r :: suf) =
      pre.any fun x => !hit x && undeliveredAt x st := by
  unfold strikesBefore
  rw [recordsBefore_append (flagged_seq_ne hpre) rfl, anyUndelivered_eq, List.any_map]
  congr 1
  funext x
  unfold LabelRecord.flagged
  cases hx : hit x with
  | false => simp [hx]
  | true => simp [hx, spliced_undeliveredAt]

/-- The first record with an undelivered STRIKE decides whether the next one lifts its station. -/
theorem lift_next (hr : hit r = true) (st : StationId) (u : Station) :
    (if undeliveredAt r st = true ∧ (pre.any fun x => !hit x && undeliveredAt x st) = false
      then (if (pre.find? fun r => undeliveredAt r st).any hit then u.cancelAndLift else u).cancelAndLift
      else if (pre.find? fun r => undeliveredAt r st).any hit then u.cancelAndLift else u) =
      if ((pre ++ [r]).find? fun r => undeliveredAt r st).any hit then u.cancelAndLift else u := by
  rw [List.find?_append]
  cases hf : pre.find? fun r => undeliveredAt r st with
  | none =>
    have hnone : (pre.any fun x => !hit x && undeliveredAt x st) = false := by
      rw [List.any_eq_false]
      exact fun x hx h => List.find?_eq_none.mp hf x hx (Bool.and_eq_true_iff.mp h).2
    cases hu : undeliveredAt r st <;> simp [hu, hr, hnone]
  | some x =>
    cases hx : hit x with
    | true => simp [hx, Station.cancelAndLift_twice]
    | false =>
      have hsome : (pre.any fun x => !hit x && undeliveredAt x st) = true := by
        rw [List.any_eq_true]
        exact ⟨x, List.mem_of_find?_eq_some hf, by simp [hx, List.find?_some hf]⟩
      simp [hx, hsome]

/-- The records of a leading part of the queue that are hit, flagged one after the other. -/
theorem flagPrefix {s : State} (hnd : (s.queue.map LabelRecord.seq).Nodup) (hq : s.queue = pre ++ suf) :
    let t := (pre.filter hit).foldl (fun s r => flagSplice r s) s
    t.queue = pre.map (LabelRecord.flagged hit) ++ suf ∧
      ∀ st, t.station st = if (pre.find? fun r => undeliveredAt r st).any hit then (s.station st).cancelAndLift
        else s.station st := by
  induction pre using List.reverseRecOn generalizing suf with
  | nil => exact ⟨hq, fun st => rfl⟩
  | append_singleton pre r ih =>
    rw [List.append_assoc, List.singleton_append] at hq
    obtain ⟨hqueue, hstation⟩ := ih hq
    rw [hq, List.map_append, List.map_cons, List.nodup_append, List.nodup_cons] at hnd
    obtain ⟨-, ⟨hsuf, -⟩, hpre⟩ := hnd
    have hpre' (x : LabelRecord) (hx : x ∈ pre) : x.seq ≠ r.seq :=
      hpre x.seq (List.mem_map_of_mem hx) r.seq List.mem_cons_self
    have hsuf' (x : LabelRecord) (hx : x ∈ suf) : x.seq ≠ r.seq := fun he =>
      hsuf (he ▸ List.mem_map_of_mem hx)
    have hone : pre.map (LabelRecord.flagged hit) ++ r.flagged hit :: suf =
        (pre ++ [r]).map (LabelRecord.flagged hit) ++ suf := by simp
    rw [List.filter_append, List.foldl_append, ← hone]
    unfold LabelRecord.flagged at hqueue hone ⊢
    cases hr : hit r with
    | false =>
      rw [List.filter_cons_of_neg (by simp [hr])]
      refine ⟨hqueue, fun st => (hstation st).trans ?_⟩
      rw [List.find?_append]
      cases hf : pre.find? fun r => undeliveredAt r st with
      | some x => rfl
      | none => cases hu : undeliveredAt r st <;> simp [hu, hr]
    | true =>
      rw [List.filter_cons_of_pos hr, List.filter_nil, List.foldl_cons, List.foldl_nil]
      refine ⟨?_, fun st => ?_⟩
      · rw [flagSplice_queue, hqueue]
        exact flagSplice_next hpre' hsuf'
      · rw [flagSplice_station, hqueue, hstation]
        exact (if_congr (and_congr_right' (iff_of_eq (congrArg (· = false) (strikesBefore_flagged hpre' st)))) rfl rfl).trans
          (lift_next hr st _)

end

/-! ### Zones (R24, R25) -/

section

variable {s : State}

theorem exec_spliceEdge (leading : Bool) (s : State) : exec (.spliceEdge leading) s = .next (spliceEdge leading s) := rfl

theorem exec_spliceZoneRemoval (s : State) : exec .spliceZoneRemoval s = .next (spliceZoneRemoval s) := rfl

theorem spliceEdge_trailing (h : s.behind = false) : spliceEdge false s = s := by
  unfold spliceEdge
  rw [h]
  rfl

/-- The records a zone hits (R26). -/
def SpliceZone.hits (z : SpliceZone) (r : LabelRecord) : Bool := !r.splice && z.overlaps r.entryPos r.pitch

theorem spliceEdge_leading (h : s.behind = false) :
    spliceEdge true s = (s.queue.filter (s.entry.zoneAt s.web).hits).foldl (fun s r => flagSplice r s)
      { s with zones := joinZones s.zones (s.entry.zoneAt s.web) } := by
  unfold spliceEdge
  rw [h]
  rfl

theorem spliceZoneRemoval_none (h : ∀ z ∈ s.zones, sdiff s.ref.hw z.removal < 0) : spliceZoneRemoval s = s := by
  have hnone : (s.zones.filter fun z => reached s.ref.hw z.removal) = [] :=
    List.filter_eq_nil_iff.mpr fun z hz hr => Int.not_lt.mpr ((reached_iff _ _).mp hr) (h z hz)
  unfold spliceZoneRemoval
  rw [hnone]
  rfl

theorem spliceZoneRemoval_one {before after : List SpliceZone} {z : SpliceZone} (hz : s.zones = before ++ z :: after)
    (hr : 0 ≤ sdiff s.ref.hw z.removal) (h : ∀ z' ∈ before ++ after, sdiff s.ref.hw z'.removal < 0) :
    spliceZoneRemoval s = { s with zones := before ++ after } := by
  have hout (z' : SpliceZone) (hz' : z' ∈ before ++ after) : ¬ reached s.ref.hw z'.removal = true := fun hr' =>
    Int.not_lt.mpr ((reached_iff _ _).mp hr') (h z' hz')
  have hin : reached s.ref.hw z.removal = true := (reached_iff _ _).mpr hr
  have hone : (s.zones.filter fun z => reached s.ref.hw z.removal) = [z] := by
    rw [hz, List.filter_append, List.filter_cons_of_pos (by exact hin),
      List.filter_eq_nil_iff.mpr fun x hx => hout x (List.mem_append_left _ hx),
      List.filter_eq_nil_iff.mpr fun x hx => hout x (List.mem_append_right _ hx), List.nil_append]
  have hbefore : z ∉ before := fun hmem => hout z (List.mem_append_left _ hmem) hin
  unfold spliceZoneRemoval
  rw [hone]
  show { s with zones := s.zones.erase z } = _
  rw [hz, List.erase_append_right _ hbefore, List.erase_cons_head]

end

end Sys2Proof.Machine

namespace Sys2Proof.Proofs

open Sys2Proof.Machine

/-- Settles O49, by the records hit, flagged one after the other along the queue, and by the zones reached. -/
theorem spliceZonesComeAndGo : Obligations.SpliceZonesComeAndGo := by
  intro s hn hcap hahead z zones hit removal
  have h : s.behind = false := decide_eq_false (Int.not_lt.mpr hahead)
  have hit_eq : (s.entry.zoneAt s.web).hits = hit := funext fun r => (Bool.and_assoc ..).symm
  have hnd : (s.queue.map LabelRecord.seq).Nodup := hn.seqs_nodup hcap.queue
  have hedge := exec_spliceEdge true s
  rw [spliceEdge_leading h, hit_eq] at hedge
  refine ⟨?_, fun hnone => ?_, ?_, fun hnot => ?_, fun before z' after hz hr hothers => ?_⟩
  · rw [exec_spliceEdge, spliceEdge_trailing h]
  · have hfilter : s.queue.filter hit = [] :=
      List.filter_eq_nil_iff.mpr fun r hr hh => Bool.false_ne_true ((hnone r hr).symm.trans hh)
    rw [hfilter] at hedge
    exact hedge
  · let joined : State := { s with zones := joinZones s.zones (s.entry.zoneAt s.web) }
    have hframe := flagAll_frame (s.queue.filter hit) joined
    obtain ⟨hqueue, hstation⟩ := flagPrefix (s := joined) (hit := hit) hnd (List.append_nil s.queue).symm
    rw [List.append_nil] at hqueue
    refine ⟨_, hedge, congrArg State.zones hframe, ?_, fun j r hr => ?_, ?_, fun l => ?_, fun st => ?_⟩
    · exact congrArg (fun t : State => ({ t with zones := s.zones } : State)) hframe
    · refine ⟨r.flagged hit, ?_, fun hno => ?_, fun hyes => ?_⟩
      · rw [hqueue, List.getElem?_map, hr]
        rfl
      · exact if_neg (by rw [hno]; exact Bool.false_ne_true)
      · have hflagged : r.flagged hit = r.spliced := if_pos hyes
        have hrecord := splicedAt_frame r allStations { r with splice := true }
        rw [hflagged]
        refine ⟨?_, congrArg LabelRecord.splice hrecord, fun st => ?_⟩
        · exact congrArg (fun x : LabelRecord => ({ x with splice := r.splice } : LabelRecord)) hrecord
        · exact spliced_visit r st
    · rw [hqueue, List.length_map]
    · rw [flagAll_lane, foldl_stopOne (withdrawing_nodup (hnd.sublist (List.filter_sublist.map _)) ..)]
      rfl
    · exact hstation st
  · rw [exec_spliceZoneRemoval, spliceZoneRemoval_none hnot]
  · rw [exec_spliceZoneRemoval, spliceZoneRemoval_one hz hr hothers]

end Sys2Proof.Proofs
end

section

/-!
## SETUP STATION

The refusals of R91, the setup taken and the station disabled (R92, R69), and the hold set of a station being enabled,
filled by the conditions of R97 while the hard causes that enter take their fault actions.
-/

namespace Sys2Proof.Machine

/-! ### What stops leave of a lane (R129) -/

/-- From `u` to `v` a lane was sent STOPs: its station stands, and its FAULT and its EMPTY, if its state agreed. -/
structure Lane.Stopped (u v : Lane) : Prop where
  station : v.station = u.station
  agrees : u.Agrees → v.Agrees
  fault : u.Agrees → (v.state = .fault ↔ u.state = .fault)
  empty : u.Agrees → (v.state = .empty ↔ u.state = .empty)

theorem Lane.Stopped.refl (u : Lane) : u.Stopped u := ⟨rfl, id, fun _ => .rfl, fun _ => .rfl⟩

theorem Lane.Stopped.trans {u v w : Lane} (h : u.Stopped v) (h' : v.Stopped w) : u.Stopped w where
  station := h'.station.trans h.station
  agrees := h'.agrees ∘ h.agrees
  fault hu := (h'.fault (h.agrees hu)).trans (h.fault hu)
  empty hu := (h'.empty (h.agrees hu)).trans (h.empty hu)

theorem Lane.stopped_stopOne (seq : BitVec 16) (u : Lane) : u.Stopped (u.stopOne seq) := by
  cases hf : u.pendingFeeds.find? fun f => f.seq == seq with
  | none =>
    rw [stopOne_absent hf]
    exact .refl u
  | some f =>
    rw [stopOne_found hf]
    by_cases hlast : u.lastFeed.any (fun g => g.seq == seq) = true
    · have hsome : u.lastFeed.isSome = true := by
        cases h : u.lastFeed <;> simp [h] at hlast ⊢
      simp only [hlast, if_true]
      refine ⟨rfl, fun hu => ⟨?_, ?_⟩, fun hu => ?_, fun hu => ?_⟩
      · have hactive := hu.lastFeed.mp hsome
        exact iff_of_false (fun hn => nomatch (hu.assigned.mp hn).symm.trans hactive) nofun
      · exact iff_of_false nofun nofun
      · exact iff_of_false nofun (by rw [hu.lastFeed.mp hsome]; decide)
      · exact iff_of_false nofun (by rw [hu.lastFeed.mp hsome]; decide)
    · rw [if_neg hlast, if_neg hlast]
      exact ⟨rfl, fun hu => ⟨hu.assigned, hu.lastFeed⟩, fun _ => .rfl, fun _ => .rfl⟩

theorem Lane.stopped_halt (web : Pos) (u : Lane) : u.Stopped (u.halt web) := by
  rw [Lane.halt_eq]
  split
  · next h =>
    have hne {x : LaneState} (hx : x ≠ .active) (hx' : x ≠ .parked) : u.state ≠ x := by
      rintro rfl
      exact h.elim hx hx'
    refine ⟨rfl, fun hu => ⟨?_, iff_of_false nofun nofun⟩, fun _ => ?_, fun _ => ?_⟩
    · exact iff_of_false (fun hn => hne (by decide) (by decide) (hu.assigned.mp hn)) nofun
    · exact iff_of_false nofun (hne (by decide) (by decide))
    · exact iff_of_false nofun (hne (by decide) (by decide))
  · exact .refl u

theorem Lane.stopped_foldl (seqs : List (BitVec 16)) (u : Lane) : u.Stopped (seqs.foldl (fun u seq => u.stopOne seq) u) := by
  induction seqs generalizing u with
  | nil => exact .refl u
  | cons seq seqs ih => exact (u.stopped_stopOne seq).trans (ih _)

/-! ### A hard cause at a station (R96) -/

section

variable {s : State} {st : StationId}

theorem addHard_none {c : Cause} (h : s.enabled st = false ∨ (s.station st).hold.has c = true) :
    addHard c st s = s := by
  refine if_neg fun hb => ?_
  rw [Bool.and_eq_true, Bool.not_eq_true'] at hb
  exact h.elim (fun h => Bool.false_ne_true (h.symm.trans hb.1)) fun h => Bool.false_ne_true (hb.2.symm.trans h)

theorem addHard_enters {c : Cause} (he : s.enabled st = true) (hh : (s.station st).hold.has c = false) :
    addHard c st s = haltLanes st (convertAll st (s.modStation st fun u => u.struckBy c)) := by
  have hsoft : addSoft c st s = s.modStation st fun u => { u with hold := u.hold.put c true } := if_pos he
  refine (if_pos (by rw [he, hh]; rfl)).trans ?_
  rw [hsoft, faultActions, State.modStation_modStation]
  rfl

/-- Each lane is sent STOPs at most. -/
theorem addHard_stopped (c : Cause) (l : LaneId) : (s.lane l).Stopped ((addHard c st s).lane l) := by
  by_cases h : s.enabled st = true ∧ (s.station st).hold.has c = false
  · rw [addHard_enters h.1 h.2, haltLanes_lane, convertAll, convertList_lane]
    have hone : (s.lane l).Stopped _ := Lane.stopped_foldl (((undeliveredOf st
      (s.modStation st fun u => u.struckBy c).queue).filter fun x => namesLane x.2 l).map Prod.fst) (s.lane l)
    split
    · exact hone.trans (Lane.stopped_halt _ _)
    · exact hone
  · rw [addHard_none]
    · exact .refl _
    · by_cases he : s.enabled st = true
      · exact .inr (Bool.not_eq_false _ ▸ fun hh => h ⟨he, hh⟩)
      · exact .inl (Bool.not_eq_true _ ▸ he)

theorem any_lanesOf_congr {s t : State} {p q : LaneId → Bool} (hs : ∀ l, (t.lane l).station = (s.lane l).station)
    (hp : ∀ l, p l = q l) (st : StationId) : (t.lanesOf st).any p = (s.lanesOf st).any q := by
  have hlanes : t.lanesOf st = s.lanesOf st := List.filter_congr fun l _ => by rw [hs l]
  rw [hlanes, funext hp]

/-- No condition of R97 changes with the fault actions of a cause. -/
theorem addHard_conditionHolds (hag : ∀ l, (s.lane l).Agrees) (c x : Cause) :
    (addHard c st s).conditionHolds st x = s.conditionHolds st x := by
  have hstopped (l : LaneId) := addHard_stopped (s := s) (st := st) c l
  have hstate {a : LaneState} (h : ∀ l, ((addHard c st s).lane l).state = a ↔ (s.lane l).state = a) :
      ((addHard c st s).lanesOf st).any (fun l => ((addHard c st s).lane l).state == a) =
        (s.lanesOf st).any fun l => (s.lane l).state == a :=
    any_lanesOf_congr (fun l => (hstopped l).station) (fun l => by rw [Bool.eq_iff_iff, beq_iff_eq, beq_iff_eq, h l]) st
  obtain ⟨stations, lanes, queue, hframe⟩ := addHard_frame c st s
  have hstation : ∃ valve actuator stroke idleLift hold, (addHard c st s).station st = { s.station st with
      valve := valve, actuator := actuator, stroke := stroke, idleLift := idleLift, hold := hold } ∧
      (actuator = .jammed ↔ (s.station st).actuator = .jammed) := by
    rw [addHard_station]
    split
    · rw [Station.struckBy, Station.cancelAndLift, Station.lift_eq]
      split
      · next h =>
        have hne : ¬ (s.station st).actuator = .jammed := fun hj => by
          rcases h with h | h <;> exact nomatch h.symm.trans hj
        split
        · exact ⟨_, _, _, _, _, rfl, iff_of_false nofun hne⟩
        · exact ⟨_, _, _, _, _, rfl, iff_of_false nofun hne⟩
      · exact ⟨_, _, _, _, _, rfl, .rfl⟩
    · exact ⟨_, _, _, _, _, rfl, .rfl⟩
  obtain ⟨valve, actuator, stroke, idleLift, hold, hunit, hjammed⟩ := hstation
  cases x with
  | reference =>
    unfold State.conditionHolds
    rw [hframe]
  | actuator =>
    show (((addHard c st s).station st).actuator == .jammed) = _
    rw [hunit]
    exact Bool.eq_iff_iff.mpr (by simp [State.conditionHolds, hjammed])
  | heatFault =>
    show (((addHard c st s).station st).zone.state == .fault) = _
    rw [hunit]
    rfl
  | foilDrive => exact hstate fun l => (hstopped l).fault (hag l)
  | thermal =>
    show ((addHard c st s).station st).zone.holds = _
    rw [hunit]
    rfl
  | foilOut => exact hstate fun l => (hstopped l).empty (hag l)
  | idle =>
    unfold State.conditionHolds
    rw [hframe]
  | marksLost => rfl
  | pause => rfl

/-! ### The hard causes of an enabling (R97) -/

/-- The hard causes of a list that enter the hold set. -/
def State.entering (s : State) (st : StationId) (cs : List Cause) : List Cause :=
  cs.filter fun x => s.conditionHolds st x && !(s.station st).hold.has x

/-- The hard causes of a list whose conditions hold are added. -/
def addCauses (st : StationId) (cs : List Cause) (s : State) : State :=
  cs.foldl (fun s c => if s.conditionHolds st c then addHard c st s else s) s

/-- A lane after full STOPs in a row (R96, R129). -/
def Lane.halted (u : Lane) (web : Pos) (n : Nat) : Lane :=
  if (u.state = .active ∨ u.state = .parked) ∧ n ≠ 0 then
    { u with state := .parked, pendingFeeds := [], lastFeed := none
             drive := u.drive ++ List.replicate n { kind := .stopAll, start := web, length := 0, follow := .jump } }
  else u

theorem Lane.halted_succ (u : Lane) (web : Pos) (n : Nat) : (u.halt web).halted web n = u.halted web (n + 1) := by
  rw [Lane.halt_eq]
  unfold Lane.halted
  by_cases h : u.state = .active ∨ u.state = .parked
  · rw [if_pos h, if_pos (c := (u.state = .active ∨ u.state = .parked) ∧ n + 1 ≠ 0) ⟨h, Nat.succ_ne_zero n⟩]
    cases n with
    | zero => exact if_neg fun h => h.2 rfl
    | succ n =>
      refine (if_pos ⟨.inr rfl, Nat.succ_ne_zero n⟩).trans ?_
      rw [List.append_assoc]
      rfl
  · rw [if_neg h, if_neg fun hand => h hand.1, if_neg fun hand => h hand.1]

theorem Lane.halted_zero (u : Lane) (web : Pos) : u.halted web 0 = u := if_neg fun h => h.2 rfl

/-- A cause of the list: what its taking leaves to those after it. -/
theorem entering_cons {c : Cause} {cs : List Cause} (hag : ∀ l, (s.lane l).Agrees) (hc : c ∉ cs) :
    (if s.conditionHolds st c then addHard c st s else s).entering st cs = s.entering st cs := by
  split
  · unfold State.entering
    refine List.filter_congr fun x hx => ?_
    have hne : x ≠ c := fun he => hc (he ▸ hx)
    rw [addHard_conditionHolds hag, addHard_station]
    split
    · have hhold : ((s.station st).struckBy c).hold = (s.station st).hold.put c true := by
        rw [Station.struckBy, Station.cancelAndLift, Station.lift_eq]
        split
        · split <;> rfl
        · rfl
      rw [hhold, HoldSet.has_put_of_ne _ hne]
    · rfl
  · rfl

theorem addHard_enabled (c : Cause) : (addHard c st s).enabled st = s.enabled st := by
  unfold State.enabled
  rw [addHard_station]
  split
  · rw [Station.struckBy, Station.cancelAndLift, Station.lift_eq]
    split
    · split <;> rfl
    · rfl
  · rfl

/-- The station after the hard causes given, each with its fault actions. -/
def Station.struckByAll (u : Station) (cs : List Cause) : Station := cs.foldl Station.struckBy u

theorem struckBy_hold (u : Station) (c : Cause) : (u.struckBy c).hold = u.hold.put c true := by
  rw [Station.struckBy, Station.cancelAndLift, Station.lift_eq]
  split
  · split <;> rfl
  · rfl

theorem struckByAll_hold (u : Station) (cs : List Cause) (x : Cause) :
    (u.struckByAll cs).hold.has x = (u.hold.has x || cs.contains x) := by
  unfold Station.struckByAll
  induction cs generalizing u with
  | nil => simp
  | cons c cs ih =>
    rw [List.foldl_cons, ih, struckBy_hold]
    by_cases hx : x = c
    · subst hx
      simp [HoldSet.has_put_self]
    · rw [HoldSet.has_put_of_ne _ hx, List.contains_cons, beq_false_of_ne hx, Bool.false_or]

theorem struckBy_eq (u : Station) (c : Cause) :
    u.struckBy c = { u.cancelAndLift with hold := u.hold.put c true } :=
  Station.lift_hold { u with idleLift := none } (u.hold.put c true)

/-- Fault actions one after the other lift once. -/
theorem struckByAll_eq (u : Station) (cs : List Cause) :
    u.struckByAll cs = { (if cs = [] then u else u.cancelAndLift) with hold := (u.struckByAll cs).hold } := by
  have hlifted (cs : List Cause) (v : Station) : v.cancelAndLift = v →
      v.struckByAll cs = { v with hold := (v.struckByAll cs).hold } := by
    unfold Station.struckByAll
    induction cs generalizing v with
    | nil => exact fun _ => rfl
    | cons c cs ih =>
      intro hv
      have hstruck : v.struckBy c = { v with hold := v.hold.put c true } := by
        rw [struckBy_eq, hv]
      have hagain : (v.struckBy c).cancelAndLift = v.struckBy c := Station.cancelAndLift_twice _
      rw [List.foldl_cons]
      refine (ih (v.struckBy c) hagain).trans ?_
      rw [hstruck]
  cases cs with
  | nil => rfl
  | cons c cs =>
    have hagain : (u.struckBy c).cancelAndLift = u.struckBy c := Station.cancelAndLift_twice _
    have hrest := hlifted cs (u.struckBy c) hagain
    rw [if_neg (List.cons_ne_nil c cs)]
    have hfirst := congrArg (fun w : Station => ({ w with hold := (u.struckByAll (c :: cs)).hold } : Station))
      (struckBy_eq u c)
    exact hrest.trans hfirst

/-! ### A list of hard causes, one after the other -/

section

variable {cs : List Cause}

theorem addCauses_cons (c : Cause) : addCauses st (c :: cs) s =
    addCauses st cs (if s.conditionHolds st c then addHard c st s else s) := rfl

/-- A cause of the list enters, or nothing is done. -/
theorem addCause_cases (he : s.enabled st = true) (c : Cause) :
    ((s.conditionHolds st c && !(s.station st).hold.has c) = true ∧
      (if s.conditionHolds st c then addHard c st s else s) =
        haltLanes st (convertAll st (s.modStation st fun u => u.struckBy c))) ∨
    ((s.conditionHolds st c && !(s.station st).hold.has c) = false ∧
      (if s.conditionHolds st c then addHard c st s else s) = s) := by
  cases hc : s.conditionHolds st c with
  | false => exact .inr ⟨rfl, rfl⟩
  | true =>
    cases hh : (s.station st).hold.has c with
    | false => exact .inl ⟨rfl, addHard_enters he hh⟩
    | true => exact .inr ⟨rfl, addHard_none (.inr hh)⟩

theorem addCause_stopped (c : Cause) (l : LaneId) :
    (s.lane l).Stopped ((if s.conditionHolds st c then addHard c st s else s).lane l) := by
  split
  · exact addHard_stopped c l
  · exact .refl _

theorem addCause_enabled (c : Cause) :
    (if s.conditionHolds st c then addHard c st s else s).enabled st = s.enabled st := by
  split
  · exact addHard_enabled c
  · rfl

theorem addCause_station (he : s.enabled st = true) (c : Cause) (st' : StationId) :
    (if s.conditionHolds st c then addHard c st s else s).station st' =
      if st' = st ∧ (s.conditionHolds st c && !(s.station st).hold.has c) = true then (s.station st).struckBy c
      else s.station st' := by
  cases hc : s.conditionHolds st c with
  | false => exact (if_neg fun h => nomatch h.2).symm
  | true =>
    rw [if_pos rfl, addHard_station]
    simp only [he, true_and, Bool.true_and, Bool.not_eq_true']

theorem addCauses_station (hag : ∀ l, (s.lane l).Agrees) (he : s.enabled st = true) (hnd : cs.Nodup)
    (st' : StationId) :
    (addCauses st cs s).station st' =
      if st' = st then (s.station st).struckByAll (s.entering st cs) else s.station st' := by
  induction cs generalizing s with
  | nil =>
    split
    · next h => rw [h]; rfl
    · rfl
  | cons c cs ih =>
    obtain ⟨hc, hrest⟩ := List.nodup_cons.mp hnd
    have hag' (l : LaneId) := (addCause_stopped (s := s) (st := st) c l).agrees (hag l)
    rw [addCauses_cons, ih hag' ((addCause_enabled c).trans he) hrest, entering_cons hag hc, addCause_station he,
      addCause_station he]
    have hcons : s.entering st (c :: cs) = if (s.conditionHolds st c && !(s.station st).hold.has c) = true
        then c :: s.entering st cs else s.entering st cs := List.filter_cons ..
    rw [hcons]
    by_cases hst : st' = st
    · rw [if_pos hst, if_pos hst]
      by_cases hin : (s.conditionHolds st c && !(s.station st).hold.has c) = true
      · rw [if_pos ⟨rfl, hin⟩, if_pos hin]
        rfl
      · rw [if_neg fun h => hin h.2, if_neg hin]
    · rw [if_neg hst, if_neg hst, if_neg fun h => hst h.1]

theorem addCauses_frame (s : State) : { addCauses st cs s with
    stations := s.stations, lanes := s.lanes, queue := s.queue } = s := by
  induction cs generalizing s with
  | nil => rfl
  | cons c cs ih =>
    have hone : { (if s.conditionHolds st c then addHard c st s else s) with
        stations := s.stations, lanes := s.lanes, queue := s.queue } = s := by
      split
      · obtain ⟨_, _, _, hframe⟩ := addHard_frame c st s
        rw [hframe]
      · rfl
    have h := congrArg (fun t : State => ({ t with
      stations := s.stations, lanes := s.lanes, queue := s.queue } : State))
      (ih (if s.conditionHolds st c then addHard c st s else s))
    exact h.trans hone

theorem addCauses_conditionHolds (hag : ∀ l, (s.lane l).Agrees) (x : Cause) :
    (addCauses st cs s).conditionHolds st x = s.conditionHolds st x := by
  induction cs generalizing s with
  | nil => rfl
  | cons c cs ih =>
    have hone : (if s.conditionHolds st c then addHard c st s else s).conditionHolds st x = s.conditionHolds st x := by
      split
      · exact addHard_conditionHolds hag c x
      · rfl
    exact (ih fun l => (addCause_stopped (s := s) (st := st) c l).agrees (hag l)).trans hone

/-- Without a cause that enters nothing is done. -/
theorem addCauses_of_none (he : s.enabled st = true) (h : s.entering st cs = []) : addCauses st cs s = s := by
  induction cs with
  | nil => rfl
  | cons c cs ih =>
    have hall := List.filter_eq_nil_iff.mp h
    have hc := hall c List.mem_cons_self
    rw [addCauses_cons]
    rcases addCause_cases he c with ⟨hin, -⟩ | ⟨-, hsame⟩
    · exact absurd hin hc
    · rw [hsame]
      exact ih (List.filter_eq_nil_iff.mpr fun x hx => hall x (List.mem_cons_of_mem c hx))

/-- With no record live the fault actions are full STOPs, one for each cause that enters. -/
theorem addCauses_lane (hag : ∀ l, (s.lane l).Agrees) (he : s.enabled st = true) (hnd : cs.Nodup)
    (hq : s.queue = []) (l : LaneId) :
    (addCauses st cs s).queue = [] ∧ (addCauses st cs s).lane l =
      if (s.lane l).station = some st then (s.lane l).halted s.web (s.entering st cs).length else s.lane l := by
  induction cs generalizing s with
  | nil =>
    refine ⟨hq, ?_⟩
    split
    · exact (Lane.halted_zero ..).symm
    · rfl
  | cons c cs ih =>
    obtain ⟨hc, hrest⟩ := List.nodup_cons.mp hnd
    have hag' (l : LaneId) := (addCause_stopped (s := s) (st := st) c l).agrees (hag l)
    have hlater := entering_cons (s := s) (st := st) hag hc
    have hcons : s.entering st (c :: cs) = if (s.conditionHolds st c && !(s.station st).hold.has c) = true
        then c :: s.entering st cs else s.entering st cs := List.filter_cons ..
    have hen := (addCause_enabled (s := s) (st := st) c).trans he
    rw [addCauses_cons]
    rcases addCause_cases he c with ⟨hin, hstruck⟩ | ⟨hout, hsame⟩
    · have hconverted : convertAll st (s.modStation st fun u => u.struckBy c) = s.modStation st fun u => u.struckBy c := by
        unfold convertAll
        have hqueue : (s.modStation st fun u => u.struckBy c).queue = [] := hq
        rw [hqueue]
        rfl
      rw [hconverted] at hstruck
      rw [hstruck] at hag' hlater hen ⊢
      have hqueue : (haltLanes st (s.modStation st fun u => u.struckBy c)).queue = [] := (haltLanes_queue ..).trans hq
      obtain ⟨hempty, hlane⟩ := ih hag' hen hrest hqueue
      refine ⟨hempty, hlane.trans ?_⟩
      have hweb : (haltLanes st (s.modStation st fun u => u.struckBy c)).web = s.web := by
        obtain ⟨lanes, hlanes⟩ := overLanes_modLane_frame (fun s u => u.halt s.web)
          ((s.modStation st fun u => u.struckBy c).lanesOf st) (s.modStation st fun u => u.struckBy c)
        rw [haltLanes, hlanes]
        rfl
      rw [hlater, hweb, haltLanes_lane, hcons, if_pos hin]
      have hstation : ((s.lane l).halt s.web).station = (s.lane l).station := (Lane.stopped_halt ..).station
      by_cases hl : (s.lane l).station = some st
      · rw [if_pos hl, if_pos (c := ((s.modStation st fun u => u.struckBy c).lane l).station = some st) hl]
        exact (if_pos (hstation.trans hl)).trans (Lane.halted_succ ..)
      · rw [if_neg hl, if_neg (c := ((s.modStation st fun u => u.struckBy c).lane l).station = some st) hl]
        exact if_neg hl
    · rw [hsame] at hag' hlater hen ⊢
      have hsame : s.entering st (c :: cs) = s.entering st cs :=
        hcons.trans (if_neg fun h => Bool.false_ne_true (hout.symm.trans h))
      rw [hsame]
      exact ih hag hen hrest hq

end

end

/-! ### The setup taken (R92, R69) -/

section

variable {s : State} {st : StationId} {c : StationSetup}

/-- The register loop after SETUP STATION (R69). -/
def Station.loopUnder (u : Station) (c : StationSetup) : RegLoop :=
  let restarts : Prop := c.dieSlots ≠ u.setup.dieSlots ∨ (u.setup.enabled = false ∧ c.enabled = true)
  { u.loop with
    cursor := if restarts then 0 else u.loop.cursor
    synced := if c.dieSlots = 1 then true else if restarts then false else u.loop.synced }

/-- The station with a setup taken, before it is enabled or disabled (R92). -/
def Station.taking (u : Station) (c : StationSetup) : Station := { u with setup := c, loop := u.loopUnder c }

theorem taking_eq (u : Station) (c : StationSetup) :
    ({ u with setup := c, loop := u.loop.resync c.dieSlots ((!u.setup.enabled && c.enabled) ||
      c.dieSlots != u.setup.dieSlots) } : Station) = u.taking c := by
  have hiff : ((!u.setup.enabled && c.enabled) || c.dieSlots != u.setup.dieSlots) = true ↔
      (c.dieSlots ≠ u.setup.dieSlots ∨ (u.setup.enabled = false ∧ c.enabled = true)) := by
    simp [or_comm]
  unfold Station.taking Station.loopUnder RegLoop.resync
  simp only [hiff]

theorem applySetup_same (h : (s.station st).setup.enabled = c.enabled) :
    applySetup st c s = s.setStation st ((s.station st).taking c) := by
  rw [← taking_eq, h]
  unfold applySetup
  dsimp only
  rw [h]
  cases c.enabled <;> rfl

theorem Station.lift_loop (u : Station) (l : RegLoop) :
    ({ u with loop := l } : Station).lift = { u.lift with loop := l } := by
  rw [Station.lift_eq, Station.lift_eq]
  split
  · split <;> rfl
  · rfl

theorem disable_eq (u : Station) (c : StationSetup) :
    (u.taking c).disable = { ({ u with setup := c, hold := HoldSet.empty, idleLift := none } : Station).lift with
      loop := { u.loopUnder c with waiting := none, gate := none } } := by
  have h := congrArg (fun w : Station => ({ w with loop := w.loop.drop } : Station))
    (Station.lift_loop { u with setup := c, hold := HoldSet.empty, idleLift := none } (u.loopUnder c))
  exact h

theorem applySetup_disabling (h : (s.station st).setup.enabled = true) (hc : c.enabled = false) :
    applySetup st c s = s.setStation st ((s.station st).taking c).disable := by
  rw [← taking_eq]
  unfold applySetup
  dsimp only
  rw [h, hc, State.modStation_modStation]
  rfl

theorem applySetup_enabling (h : (s.station st).setup.enabled = false) (hc : c.enabled = true) :
    applySetup st c s = fillHold st (s.modStation st fun u => u.taking c) := by
  have htaking := taking_eq (s.station st) c
  unfold applySetup
  dsimp only
  rw [h, hc] at htaking ⊢
  exact congrArg (fun u => fillHold st (s.setStation st u)) htaking

/-- The hold set filled: the hard causes first, then the soft ones (R97). -/
theorem fillHold_taken (he : s.enabled st = true) (hag : ∀ l, (s.lane l).Agrees) :
    let entering := s.entering st hardCauses
    let t := fillHold st s
    (∀ x, (t.station st).hold.has x = ((s.station st).hold.has x || s.conditionHolds st x)) ∧
      t.station st = { (if entering = [] then s.station st else (s.station st).cancelAndLift) with
        hold := (t.station st).hold } ∧
      (∀ st', st' ≠ st → t.station st' = s.station st') ∧
      { t with stations := s.stations, lanes := s.lanes, queue := s.queue } = s ∧
      (s.queue = [] ∨ entering = [] → t.queue = s.queue ∧ ∀ l, t.lane l =
        if (s.lane l).station = some st then (s.lane l).halted s.web entering.length else s.lane l) := by
  intro entering t
  let h : State := addCauses st hardCauses s
  have hstation := addCauses_station (st := st) (cs := hardCauses) hag he (by decide)
  have hunit : h.station st = (s.station st).struckByAll entering := (hstation st).trans (if_pos rfl)
  have hen : h.enabled st = true := by
    unfold State.enabled
    rw [hunit, struckByAll_eq]
    split
    · exact he
    · rw [Station.cancelAndLift, Station.lift_eq]
      split
      · split <;> exact he
      · exact he
  have ht : t = _ := fillSoft_eq (st := st) (t := h) hen
  have hcond (x : Cause) : h.conditionHolds st x = s.conditionHolds st x := addCauses_conditionHolds hag x
  have htunit : t.station st = { h.station st with hold := { (h.station st).hold with
      thermal := (h.station st).hold.thermal || s.conditionHolds st .thermal
      foilOut := (h.station st).hold.foilOut || s.conditionHolds st .foilOut
      idle := (h.station st).hold.idle || s.conditionHolds st .idle } } := by
    rw [ht, State.modStation_station, ← hcond, ← hcond, ← hcond]
    rfl
  have hhard (x : Cause) : (h.station st).hold.has x = ((s.station st).hold.has x || entering.contains x) := by
    rw [hunit, struckByAll_hold]
  have hin (x : Cause) (hx : x ∈ hardCauses) :
      ((s.station st).hold.has x || entering.contains x) = ((s.station st).hold.has x || s.conditionHolds st x) := by
    have hmem : x ∈ entering ↔ s.conditionHolds st x = true ∧ (s.station st).hold.has x = false := by
      simp [entering, State.entering, hx]
    rw [Bool.eq_iff_iff, Bool.or_eq_true, Bool.or_eq_true, List.contains_iff_mem, hmem]
    cases (s.station st).hold.has x <;> simp
  have hout (x : Cause) (hx : x ∉ hardCauses) : entering.contains x = false :=
    Bool.not_eq_true _ ▸ fun hc => hx (List.mem_of_mem_filter (List.contains_iff_mem.mp hc))
  have hkept (x : Cause) (hx : x ∉ hardCauses) : (h.station st).hold.has x = (s.station st).hold.has x := by
    rw [hhard, hout x hx, Bool.or_false]
  refine ⟨fun x => ?_, ?_, fun st' hne => ?_, ?_, fun hnone => ?_⟩
  · rw [htunit]
    cases x with
    | reference => exact (hhard .reference).trans (hin .reference (by decide))
    | actuator => exact (hhard .actuator).trans (hin .actuator (by decide))
    | heatFault => exact (hhard .heatFault).trans (hin .heatFault (by decide))
    | foilDrive => exact (hhard .foilDrive).trans (hin .foilDrive (by decide))
    | thermal => exact congrArg (· || s.conditionHolds st .thermal) (hkept .thermal (by decide))
    | foilOut => exact congrArg (· || s.conditionHolds st .foilOut) (hkept .foilOut (by decide))
    | idle => exact congrArg (· || s.conditionHolds st .idle) (hkept .idle (by decide))
    | marksLost => exact (hkept .marksLost (by decide)).trans (Bool.or_false _).symm
    | pause => exact (hkept .pause (by decide)).trans (Bool.or_false _).symm
  · have hlifted := congrArg (fun w : Station => ({ w with hold := (t.station st).hold } : Station))
      (hunit.trans (struckByAll_eq (s.station st) entering))
    have hown : t.station st = { h.station st with hold := (t.station st).hold } := by
      rw [htunit]
    exact hown.trans hlifted
  · rw [ht, State.modStation_station_of_ne _ hne, hstation, if_neg hne]
  · have hframe := addCauses_frame (st := st) (cs := hardCauses) s
    rw [ht]
    exact hframe
  · rw [ht]
    rcases hnone with hq | hnone
    · refine ⟨((addCauses_lane hag he (by decide) hq .l0).1).trans hq.symm, fun l => ?_⟩
      exact (addCauses_lane hag he (by decide) hq l).2
    · have hsame : h = s := addCauses_of_none he hnone
      have hqueue : h.queue = s.queue := congrArg State.queue hsame
      have hlane (l : LaneId) : h.lane l = s.lane l := congrArg (State.lane · l) hsame
      refine ⟨hqueue, fun l => (hlane l).trans ?_⟩
      rw [hnone]
      split
      · exact (Lane.halted_zero ..).symm
      · rfl

/-! ### The request (R91) -/

/-- The setup a payload carries, its codes taken. -/
def setupOf (p : List Octet) : StationSetup :=
  { kind := if u8 p 1 = 0 then .emboss else .foil, enabled := u8 p 2 != 0, path := u32 p 3, lead := u32 p 7,
    swin := u16 p 11, missLimit := u8 p 13, strikeOnPredicted := u8 p 14 != 0, dieSlots := u8 p 15,
    engageMs := u16 p 16, actTimeout := u16 p 18,
    policy := if u8 p 20 = 0 then .off else if u8 p 20 = 1 then .exceptions else .all }

variable {p : List Octet}

theorem kindOf_eq (n : Nat) : kindOf n = if n ≤ 1 then some (if n = 0 then .emboss else .foil) else none := by
  match n with
  | 0 => rfl
  | 1 => rfl
  | n + 2 => exact (if_neg (by omega)).symm

theorem policyOf_eq (n : Nat) :
    policyOf n = if n ≤ 2 then some (if n = 0 then .off else if n = 1 then .exceptions else .all) else none := by
  match n with
  | 0 => rfl
  | 1 => rfl
  | 2 => rfl
  | n + 3 => exact (if_neg (by omega)).symm

theorem setupFields_eq (p : List Octet) :
    setupFields p = if u8 p 1 ≤ 1 ∧ u8 p 20 ≤ 2 then some (setupOf p) else none := by
  unfold setupFields
  by_cases hk : u8 p 1 ≤ 1
  · have hkind : kindOf (u8 p 1) = some (setupOf p).kind := (kindOf_eq _).trans (if_pos hk)
    by_cases hp : u8 p 20 ≤ 2
    · have hpolicy : policyOf (u8 p 20) = some (setupOf p).policy := (policyOf_eq _).trans (if_pos hp)
      rw [hkind, hpolicy, if_pos ⟨hk, hp⟩]
      rfl
    · have hpolicy : policyOf (u8 p 20) = none := (policyOf_eq _).trans (if_neg hp)
      rw [hkind, hpolicy, if_neg fun h => hp h.2]
  · have hkind : kindOf (u8 p 1) = none := (kindOf_eq _).trans (if_neg hk)
    rw [hkind, if_neg fun h => hk h.1]

theorem setup_valid_iff (c : StationSetup) :
    c.valid = true ↔ 10000 ≤ c.path ∧ c.path ≤ 2000000 ∧ 5000 ≤ c.lead ∧ c.lead ≤ 500000 ∧ 100 ≤ c.swin ∧
      c.swin ≤ 30000 ∧ 1 ≤ c.missLimit ∧ c.missLimit ≤ 31 ∧ 1 ≤ c.dieSlots ∧ c.dieSlots ≤ 8 := by
  unfold StationSetup.valid
  simp only [Bool.and_eq_true, decide_eq_true_eq, and_assoc]

theorem statusCode_setup (c : StationSetup) :
    statusCode (okOr (c.clamped != c)) =
      if c.clamped.engageMs = c.engageMs ∧ c.clamped.actTimeout = c.actTimeout then (0x00 : Octet) else 0x01 := by
  have hiff : c.clamped = c ↔ c.clamped.engageMs = c.engageMs ∧ c.clamped.actTimeout = c.actTimeout := by
    refine ⟨fun h => ⟨congrArg _ h, congrArg _ h⟩, fun ⟨he, ha⟩ => ?_⟩
    exact congr (congrArg (fun e a => ({ c with engageMs := e, actTimeout := a } : StationSetup)) he) ha
  by_cases h : c.clamped = c
  · rw [if_pos (hiff.mp h), h, bne_self_eq_false]
    rfl
  · rw [if_neg (mt hiff.mpr h), bne_iff_ne.mpr h]
    rfl

theorem reqSetupStation_noStation (h : StationId.ofNumber (u8 p 0) = none) :
    reqSetupStation p s = refuse .badValue s := by
  unfold reqSetupStation
  rw [h]

theorem reqSetupStation_busy (h : StationId.ofNumber (u8 p 0) = some st) (hj : s.job.state ≠ .none) :
    reqSetupStation p s = refuse .busy s := by
  unfold reqSetupStation
  rw [h]
  exact if_pos hj

theorem reqSetupStation_badValue (h : StationId.ofNumber (u8 p 0) = some st) (hj : s.job.state = .none)
    (hbad : ¬ ((u8 p 1 ≤ 1 ∧ u8 p 20 ≤ 2) ∧ (setupOf p).valid = true)) : reqSetupStation p s = refuse .badValue s := by
  unfold reqSetupStation
  rw [h, setupFields_eq]
  refine (if_neg (not_not.mpr hj)).trans ?_
  by_cases hc : u8 p 1 ≤ 1 ∧ u8 p 20 ≤ 2
  · rw [if_pos hc]
    exact if_pos (Bool.not_eq_true _ ▸ fun hv => hbad ⟨hc, hv⟩)
  · rw [if_neg hc]

theorem reqSetupStation_inUse (h : StationId.ofNumber (u8 p 0) = some st) (hj : s.job.state = .none)
    (hc : u8 p 1 ≤ 1 ∧ u8 p 20 ≤ 2) (hv : (setupOf p).valid = true) (hk : u8 p 1 = 0) (hl : s.lanesOf st ≠ []) :
    reqSetupStation p s = refuse .inUse s := by
  unfold reqSetupStation
  rw [h, setupFields_eq, if_pos hc]
  refine (if_neg (not_not.mpr hj)).trans ((if_neg fun hv' => Bool.false_ne_true (hv'.symm.trans hv)).trans ?_)
  exact if_pos ⟨if_pos hk, hl⟩

theorem reqSetupStation_accepted (h : StationId.ofNumber (u8 p 0) = some st) (hj : s.job.state = .none)
    (hc : u8 p 1 ≤ 1 ∧ u8 p 20 ≤ 2) (hv : (setupOf p).valid = true) (hl : u8 p 1 = 0 → s.lanesOf st = []) :
    reqSetupStation p s = accept (okOr ((setupOf p).clamped != setupOf p)) (setupOctets st (setupOf p).clamped)
      (applySetup st (setupOf p).clamped s) := by
  have hkind : ¬ ((setupOf p).kind = .emboss ∧ s.lanesOf st ≠ []) := by
    rintro ⟨hk, hne⟩
    refine hne (hl (by_contra fun h0 => ?_))
    exact nomatch (if_neg h0 : (setupOf p).kind = .foil).symm.trans hk
  unfold reqSetupStation
  rw [h, setupFields_eq, if_pos hc]
  refine (if_neg (not_not.mpr hj)).trans ((if_neg fun hv' => Bool.false_ne_true (hv'.symm.trans hv)).trans ?_)
  exact if_neg hkind

theorem applySetup_resetPending (st : StationId) (c : StationSetup) (s : State) :
    (applySetup st c s).link.resetPending = s.link.resetPending := by
  have hfill (t : State) : (fillHold st t).link = t.link := by
    obtain ⟨g, hg⟩ := fillSoft_modStation st (fillHard st t)
    rw [fillHold_eq, hg]
    have h := congrArg State.link (addCauses_frame (st := st) (cs := hardCauses) t)
    exact h
  unfold applySetup
  dsimp only
  split
  · rfl
  · split
    · exact congrArg Link.resetPending (hfill _)
    · rfl

end

end Sys2Proof.Machine

namespace Sys2Proof.Proofs

open Sys2Proof.Machine

/-- Settles O32, by the refusals in their order, the setup taken, and the hold set filled. -/
theorem setupStationAppliesTheSetup : Obligations.SetupStationAppliesTheSetup := by
  intro s tag p h hp coded ranged
  have hfits : lengthFits .setupStation p = true := by
    unfold lengthFits
    rw [hp]
    rfl
  have hrefused {status : Status} (hreq : reqSetupStation p s = refuse status s) :
      exec (.setupStation tag p) s = .next (s.replied .setupStation tag [statusCode status]) :=
    request_refused (st := status) h hfits hreq
  have hvalid : (setupOf p).valid = true ↔ ranged := setup_valid_iff (setupOf p)
  refine ⟨fun hst => hrefused (reqSetupStation_noStation hst), fun st hst => ⟨fun hj => ?_, fun hj hbad => ?_,
    fun hj hc hr hk hl => ?_, fun hj hc hr hl => ?_⟩⟩
  · exact hrefused (reqSetupStation_busy hst hj)
  · exact hrefused (reqSetupStation_badValue hst hj fun hgood => hbad ⟨hgood.1, hvalid.mp hgood.2⟩)
  · exact hrefused (reqSetupStation_inUse hst hj hc (hvalid.mpr hr) hk hl)
  intro engage timeout c u restarts loop reply
  have hout : exec (.setupStation tag p) s = .next ((applySetup st c s).replied .setupStation tag reply) := by
    have hreq := reqSetupStation_accepted hst hj hc (hvalid.mpr hr) hl
    refine (request_answered h hfits hreq (applySetup_resetPending ..)).trans ?_
    rw [statusCode_setup]
    rfl
  refine ⟨fun hsame => ?_, fun hen hdis => ?_, fun hdis hen hag => ?_⟩
  · rw [hout, applySetup_same hsame]
    rfl
  · rw [hout, applySetup_disabling hen hdis, disable_eq]
    rfl
  · intro holds entering v
    let taken : State := s.modStation st fun u => u.taking c
    have hunit : taken.station st = v := State.modStation_station ..
    have htaken : taken.enabled st = true := by
      unfold State.enabled
      rw [hunit]
      exact hen
    have hholds (x : Cause) : taken.conditionHolds st x = holds x := by
      unfold State.conditionHolds
      rw [hunit]
      cases x <;> rfl
    have hentering : taken.entering st hardCauses = entering := by
      unfold State.entering
      simp only [hunit, hholds]
      rfl
    obtain ⟨hhas, hstation, hothers, hframe, hlanes⟩ := fillHold_taken htaken hag
    rw [hunit] at hhas
    rw [hunit, hentering] at hstation
    rw [hentering] at hlanes
    refine ⟨fillHold st taken, ?_, fun x => ?_, hstation, fun st' hne => ?_, ?_, fun hnone => ?_⟩
    · rw [hout, applySetup_enabling hdis hen]
    · rw [hhas, hholds]
    · exact (hothers st' hne).trans (State.modStation_station_of_ne _ hne _)
    · exact congrArg (fun t : State => ({ t with stations := s.stations } : State)) hframe
    · obtain ⟨hqueue, hlane⟩ := hlanes hnone
      refine ⟨hqueue, fun l => ?_⟩
      intro x
      refine (hlane l).trans ?_
      by_cases hl : x.station = some st
      · refine (if_pos hl).trans (if_congr ?_ rfl rfl)
        rw [and_iff_right hl]
        exact and_congr_right' (not_congr List.length_eq_zero_iff)
      · exact (if_neg hl).trans (if_neg fun hand => hl hand.1).symm

end Sys2Proof.Proofs
end

section

/-!
## The entry tracker

An admission with no window of its record reached (R29, R40, R41, R43, R44), and the marks and the expiry that bring it
(R30 to R36).
-/

namespace Sys2Proof.Machine

/-! ### The batch stop (R36, R165) -/

theorem batchStops_iff (s : State) : s.batchStops = true ↔ batchReached s := by
  have hready : s.planReady = false ↔ ∀ p, s.job.buffer ≠ .ready p := by
    unfold State.planReady
    cases s.job.buffer <;> simp
  unfold State.batchStops JobStore.excess batchReached
  simp only [Bool.and_eq_true, Bool.not_eq_true', beq_iff_eq, bne_iff_ne, hready, and_assoc]

theorem batchStop_eq (s : State) : batchStop s = batchStopped s := by
  have hcode : 256 + placeId s.job.active = endReasonCode (some .batch) * 256 + placeId s.job.active :=
    congrArg (· + placeId s.job.active) (by decide : 256 = endReasonCode (some .batch) * 256)
  unfold batchStop batchStopped drainedTest
  rw [hcode]
  by_cases h : s.job.activeLive = 0
  · rw [if_pos h]
    exact if_pos ⟨rfl, h⟩
  · rw [if_neg h]
    exact if_neg fun hand => h hand.2

theorem batchTest_admits (t : State) : admitsTo (.next (batchTest t)) t := by
  unfold batchTest
  refine ⟨fun h => ?_, fun h => ?_⟩
  · rw [if_neg fun hs => h ((batchStops_iff t).mp hs)]
  · rw [if_pos ((batchStops_iff t).mpr h), batchStop_eq]

/-! ### The changeover (R34, R166) -/

/-- The job store after a changeover to a plan (R166). -/
def JobStore.changed (j : JobStore) (p : Plan) : JobStore :=
  { j with
    draining := if 0 < j.activeLive then j.active else j.draining
    drainingLive := if 0 < j.activeLive then j.activeLive else j.drainingLive
    active := some p, activeLive := 0, buffer := .empty, state := .armed, endReason := none, admitted := 0,
    target := p.target }

theorem changeover_changed (j : JobStore) (p : Plan) : j.changeover p = j.changed p := by
  unfold JobStore.changeover JobStore.changed
  by_cases h : 0 < j.activeLive
  · simp only [h, if_true]
  · simp only [h, if_false]

section

variable {s : State} {k : Nat}

theorem changedOver_ready {p : Plan} (h : s.job.buffer = .ready p) :
    changedOver s 0 = raiseEvent .planChanged 0 p.id { s with job := s.job.changed p } := by
  unfold changedOver
  rw [h]
  rfl

theorem changedOver_same (h : k ≠ 0 ∨ ∀ p, s.job.buffer ≠ .ready p) : changedOver s k = s := by
  unfold changedOver
  split
  next p hb => exact (h.elim (fun h => h rfl) fun h => h p hb).elim
  next => rfl

theorem changeover_ready {p : Plan} (h : s.job.buffer = .ready p) :
    changeover 0 s = raiseEvent .planChanged 0 p.id { s with job := s.job.changed p } := by
  unfold changeover
  rw [h, ← changeover_changed]
  rfl

theorem changeover_same (h : k ≠ 0 ∨ ∀ p, s.job.buffer ≠ .ready p) : changeover k s = s := by
  unfold changeover
  split
  next p hb => exact (h.elim (fun h => h rfl) fun h => h p hb).elim
  next => rfl

theorem changeover_cases (k : Nat) (s : State) :
    (∃ p, k = 0 ∧ s.job.buffer = .ready p) ∨ (k ≠ 0 ∨ ∀ p, s.job.buffer ≠ .ready p) := by
  by_cases hk : k = 0
  · by_cases h : ∃ p, s.job.buffer = .ready p
    · obtain ⟨p, hp⟩ := h
      exact .inl ⟨p, hk, hp⟩
    · exact .inr (.inr fun p hp => h ⟨p, hp⟩)
  · exact .inr (.inl hk)

theorem changeover_eq (k : Nat) (s : State) : changeover k s = changedOver s k := by
  rcases changeover_cases k s with ⟨p, rfl, hp⟩ | hno
  · rw [changeover_ready hp, changedOver_ready hp]
  · rw [changeover_same hno, changedOver_same hno]

/-- A changeover and the tracker do not touch each other. -/
theorem changedOver_tracker (t : Tracker) (k : Nat) (s : State) :
    changedOver { s with tracker := t } k = { changedOver s k with tracker := t } := by
  rcases changeover_cases k s with ⟨p, rfl, hp⟩ | hno
  · rw [changedOver_ready hp, changedOver_ready (s := { s with tracker := t }) hp]
    refine (raiseEvent_congr (s := { s with job := s.job.changed p })
      (t := { s with tracker := t, job := s.job.changed p }) .planChanged 0 p.id rfl rfl rfl).trans ?_
    have hsame := raiseEvent_congr (s := { s with job := s.job.changed p }) (t := { s with job := s.job.changed p })
      .planChanged 0 p.id rfl rfl rfl
    exact (congrArg (fun u : State => ({ u with tracker := t } : State)) hsame).symm
  · rw [changedOver_same hno]
    exact changedOver_same hno

theorem changedOver_frame (k : Nat) (s : State) : ∃ job link events,
    changedOver s k = { s with job := job, link := link, events := events } := by
  rcases changeover_cases k s with ⟨p, rfl, hp⟩ | hno
  · rw [changedOver_ready hp, raiseEvent_congr (s := { s with job := s.job.changed p })
      (t := { s with job := s.job.changed p }) .planChanged 0 p.id rfl rfl rfl]
    exact ⟨_, _, _, rfl⟩
  · rw [changedOver_same hno]
    exact ⟨_, _, _, rfl⟩

/-! ### The record that joins (R29, R35, R41, R43, R44) -/

theorem newRecord_eq (s : State) (plan : Plan) (k : Nat) (slot : PlanSlot) (e : Pos) (o : Origin) (cycleMark : Bool) :
    s.newRecord plan k slot e o cycleMark = recordOf s plan k slot e o cycleMark := by
  have hsplice : (fun z : SpliceZone => z.overlaps e slot.pitch) =
      fun z => decide (sdiff z.first (posShift e slot.pitch) < 0 ∧ 0 ≤ sdiff z.last e) := by
    funext z
    exact (Bool.decide_and ..).symm
  have hexcess : s.job.excess = decide (s.job.target ≠ 0 ∧ s.job.admitted = s.job.target) := by
    unfold JobStore.excess
    rw [Bool.eq_iff_iff]
    simp
  unfold State.newRecord recordOf
  rw [hsplice, hexcess]
  rfl

/-- Nothing of the record is reached, and no other record has its number. -/
theorem expireReached_none {seq : BitVec 16} {n : Nat} (h : ∀ r ∈ s.queue, r.seq = seq → ∀ st v, r.visit st = some v →
    v.state = .waiting → sdiff s.ref.hw v.expiry < 0) : expireReached seq n s = s := by
  cases n with
  | zero => rfl
  | succ n =>
    have hnone : ((queueThresholds (s.queue.filter fun r => r.seq == seq)).filter fun t => t.kind == .window).filter
        (fun t => reached s.ref.hw t.pos) = [] := by
      refine List.filter_eq_nil_iff.mpr fun t ht hr => ?_
      obtain ⟨hmem, hkind⟩ := List.mem_filter.mp ht
      obtain ⟨r, hr', hst⟩ := List.mem_flatMap.mp hmem
      obtain ⟨st, -, hv⟩ := List.mem_filterMap.mp hst
      obtain ⟨v, hvisit, hthreshold⟩ := Option.bind_eq_some_iff.mp hv
      obtain ⟨x, hx, rfl⟩ := Option.map_eq_some_iff.mp hthreshold
      obtain ⟨hqueue, hseq⟩ := List.mem_filter.mp hr'
      have hwaiting : v.state = .waiting ∧ x.1 = v.expiry := by
        unfold Visit.threshold at hx
        cases hstate : v.state with
        | waiting =>
          rw [hstate] at hx
          exact ⟨rfl, congrArg Prod.fst (Option.some.inj hx).symm⟩
        | final =>
          rw [hstate] at hx
          exact nomatch hx
        | seen =>
          rw [hstate] at hx
          obtain ⟨p, -, rfl⟩ := Option.map_eq_some_iff.mp hx
          exact nomatch hkind
        | predicted =>
          rw [hstate] at hx
          obtain ⟨p, -, rfl⟩ := Option.map_eq_some_iff.mp hx
          exact nomatch hkind
      have hlt := h r hqueue (beq_iff_eq.mp hseq) st v hvisit hwaiting.1
      rw [← hwaiting.2] at hlt
      exact Int.not_lt.mpr ((reached_iff _ _).mp hr) hlt
    unfold expireReached
    dsimp only
    unfold Machine.nextDue
    rw [hnone]
    rfl

/-- A queue whose head is open retires no record (R43). -/
theorem retire_openHead {r : LabelRecord} {rest : List LabelRecord} (hq : s.queue = r :: rest)
    (hr : r.allFinal = false) : retire s = s := by
  unfold retire
  rw [hq, List.length_cons]
  unfold retireHeads
  rw [hq]
  dsimp only
  rw [hr]
  rfl

/-- A lone record without open visits retires at once, and the job store is told (R43). -/
theorem retire_lone {r : LabelRecord} (hq : s.queue = [r]) (hr : r.allFinal = true) :
    retire s = planRetired r.plan { s with queue := [] } := by
  unfold retire
  rw [hq, List.length_singleton]
  unfold retireHeads
  rw [hq]
  dsimp only
  rw [hr]
  rfl

theorem planRetired_armed {p : Plan} (hp : s.job.active = some p) (hj : s.job.state = .armed) :
    planRetired p.id s = { s with job := { s.job with activeLive := s.job.activeLive - 1 } } := by
  have hplan : planIs s.job.active p.id = true := by
    rw [hp]
    exact beq_self_eq_true p.id
  unfold planRetired
  rw [if_pos hplan]
  exact if_neg fun h => nomatch h.1.symm.trans hj

section

variable {plan : Plan} {slot : PlanSlot} {e : Pos} {o : Origin} {cycleMark : Bool}

theorem recordOf_visit (st : StationId) :
    (recordOf s plan k slot e o cycleMark).visit st = newVisit (s.station st) e s.entry.cmax := by
  cases st <;> rfl

/-- The visits of a new record are open: it is FINAL throughout when no station is enabled (R41). -/
theorem recordOf_allFinal :
    (recordOf s plan k slot e o cycleMark).allFinal = !(allStations.any s.enabled) := by
  unfold LabelRecord.allFinal
  rw [List.not_any_eq_all_not]
  congr 1
  funext st
  rw [recordOf_visit]
  unfold newVisit State.enabled
  cases (s.station st).setup.enabled <;> rfl

/-- A live record does not carry the number to be given next (R40). -/
theorem State.Numbered.seq_ne (hn : s.Numbered) (hlen : s.queue.length < 256) {r : LabelRecord} (hr : r ∈ s.queue) :
    r.seq ≠ s.tracker.seqCounter := by
  obtain ⟨j, hj, rfl⟩ := List.mem_iff_getElem.mp hr
  rw [hn j _ (List.getElem?_eq_getElem hj)]
  intro h
  have hnat := congrArg BitVec.toNat h
  have hcounter := s.tracker.seqCounter.isLt
  rw [BitVec.toNat_sub, BitVec.toNat_ofNat] at hnat
  omega

/-- The part with a record joined and its windows and the retirement check passed (R29, R43). -/
def State.joined (s : State) (r : LabelRecord) : State :=
  let stays : Bool := allStations.any s.enabled || !s.queue.isEmpty
  { s with
    queue := if stays then s.queue ++ [r] else []
    job := { s.job with activeLive := if stays then s.job.activeLive + 1 else s.job.activeLive } }

/-- The record just joined expires no window: its own are ahead, and it alone has its number (R44). -/
theorem expireReached_joined (h : Admits s plan k slot e) {n : Nat} {t : State}
    (hq : t.queue = s.queue ++ [recordOf s plan k slot e o cycleMark]) (href : t.ref = s.ref) :
    expireReached (recordOf s plan k slot e o cycleMark).seq n t = t := by
  refine expireReached_none fun r hr hseq st v hv hw => ?_
  rw [hq] at hr
  rcases List.mem_append.mp hr with hold | hnew
  · exact absurd hseq (h.numbered.seq_ne h.room hold)
  · rw [List.mem_singleton.mp hnew, recordOf_visit] at hv
    rw [href]
    unfold newVisit at hv
    cases he : (s.station st).setup.enabled with
    | false =>
      rw [he] at hv
      exact nomatch hv
    | true =>
      rw [he] at hv
      cases hv
      exact h.windows st he

theorem joinQueue_eq (h : Admits s plan k slot e) (tr : Tracker) (n : Nat) :
    let t : State := { s with tracker := tr, job := { s.job with admitted := n } }
    joinQueue (recordOf s plan k slot e o cycleMark) t = t.joined (recordOf s plan k slot e o cycleMark) := by
  intro t
  let r := recordOf s plan k slot e o cycleMark
  let u : State := { t with queue := t.queue ++ [r], job := { t.job with activeLive := t.job.activeLive + 1 } }
  have hexpired : expireReached r.seq 4 u = u := expireReached_joined h rfl rfl
  have hjoin : joinQueue r t = retire u := congrArg retire hexpired
  refine hjoin.trans ?_
  cases hq : s.queue with
  | cons x rest =>
    have hhead : u.queue = x :: (rest ++ [r]) := congrArg (· ++ [r]) hq
    have hstays : (allStations.any t.enabled || !t.queue.isEmpty) = true := by
      have hqueue : t.queue = x :: rest := hq
      rw [hqueue]
      exact Bool.or_true _
    rw [retire_openHead hhead (h.openHead x (by rw [hq]; rfl))]
    unfold State.joined
    rw [hstays]
    rfl
  | nil =>
    have hlone : u.queue = [r] := congrArg (· ++ [r]) hq
    have hempty : t.queue.isEmpty = true := List.isEmpty_iff.mpr hq
    unfold State.joined
    rw [hempty]
    cases hen : allStations.any t.enabled with
    | true =>
      have hopen : r.allFinal = false := by
        rw [recordOf_allFinal]
        exact congrArg not hen
      rw [retire_openHead hlone hopen]
      rfl
    | false =>
      have hfinal : r.allFinal = true := by
        rw [recordOf_allFinal]
        exact congrArg not hen
      rw [retire_lone hlone hfinal]
      exact planRetired_armed (s := { u with queue := [] }) h.active h.armed

/-! ### Admissions (R29) -/

/-- An admission under the active plan, up to what its case does to the tracker. -/
theorem admitUnder_eq (h : Admits s plan k slot e) (c : AdmitCase) :
    admitUnder plan slot k e c cycleMark s =
      batchTest (afterTracking c plan.id { admitted s plan k slot e c.origin cycleMark s.tracker.missRun with
        tracker := { (admitted s plan k slot e c.origin cycleMark s.tracker.missRun).tracker with
          state := s.tracker.state } }) := by
  have hcounted : s.job.counted (recordOf s plan k slot e c.origin cycleMark).splice =
      if (recordOf s plan k slot e c.origin cycleMark).excess ∨ (recordOf s plan k slot e c.origin cycleMark).splice
      then s.job.admitted else min 4294967295 (s.job.admitted + 1) := by
    rw [← newRecord_eq, ← bump32_eq]
    exact if_congr (iff_of_eq (Bool.or_eq_true ..)) rfl rfl
  unfold admitUnder
  dsimp only
  rw [newRecord_eq, hcounted, joinQueue_eq h]
  rfl

theorem changedOver_queue (k : Nat) (s : State) : (changedOver s k).queue = s.queue := by
  obtain ⟨_, _, _, hframe⟩ := changedOver_frame k s
  rw [hframe]

theorem changedOver_keeps_tracker (k : Nat) (s : State) : (changedOver s k).tracker = s.tracker := by
  obtain ⟨_, _, _, hframe⟩ := changedOver_frame k s
  rw [hframe]

theorem admitLabel_overflow (h : 256 ≤ s.queue.length) (c : AdmitCase) :
    admitLabel k e c cycleMark s = searching (raiseEvent .queueOverflow 0 k s) := if_pos h

theorem admitLabel_eq (h : Admits (changedOver s k) plan k slot e) (c : AdmitCase) :
    admitLabel k e c cycleMark s =
      batchTest (afterTracking c plan.id
        { admitted (changedOver s k) plan k slot e c.origin cycleMark s.tracker.missRun with
          tracker := { (admitted (changedOver s k) plan k slot e c.origin cycleMark s.tracker.missRun).tracker with
            state := s.tracker.state } }) := by
  have hroom : ¬ Config.queueCapacity ≤ s.queue.length := by
    have hlen := h.room
    rw [changedOver_queue] at hlen
    exact Nat.not_le.mpr hlen
  unfold admitLabel
  rw [if_neg hroom, changeover_eq]
  dsimp only
  rw [h.active]
  dsimp only
  rw [h.slot]
  dsimp only
  rw [admitUnder_eq h c, changedOver_keeps_tracker]

/-- A mark in SEARCH locks the tracker (R30). -/
theorem admitLabel_lock (h : Admits (changedOver s 0) plan 0 slot e) :
    admitLabel 0 e .lock cycleMark s = batchTest (raiseEvent .entryLocked 0 plan.id
      (admitted (changedOver s 0) plan 0 slot e .detected cycleMark 0)) := by
  rw [admitLabel_eq h]
  rfl

/-- A mark in the entry window of a LOCKED tracker (R31). -/
theorem admitLabel_inWindow (h : Admits (changedOver s k) plan k slot e) (hl : s.tracker.state = .locked) :
    admitLabel k e .inWindow cycleMark s =
      batchTest (admitted (changedOver s k) plan k slot e .detected cycleMark 0) := by
  rw [admitLabel_eq h, hl]
  rfl

/-- A CYCLE mark in the window of another slot (R31). -/
theorem admitLabel_slip (h : Admits (changedOver s 0) plan 0 slot e) (hl : s.tracker.state = .locked) (m : Nat) :
    admitLabel 0 e (.slip m) true s = batchTest (raiseEvent .slotSlip 0 m
      (admitted (changedOver s 0) plan 0 slot e .detected true 0)) := by
  rw [admitLabel_eq h, hl]
  rfl

theorem admitted_tracker {t : Tracker} (h : t.seqCounter = s.tracker.seqCounter) {m : Nat} :
    admitted { s with tracker := t } plan k slot e o cycleMark m = admitted s plan k slot e o cycleMark m := by
  unfold admitted recordOf
  dsimp only
  rw [h]
  rfl

/-- The prediction of a slot at the expiry, the miss run being the one counted (R33). -/
theorem admitLabel_predicted (h : Admits (changedOver s k) plan k slot e) (hl : s.tracker.state = .locked) (run : Nat) :
    admitLabel k e .predicted false { s with tracker := { s.tracker with missRun := run } } =
      batchTest (admitted (changedOver s k) plan k slot e .predicted false run) := by
  have hover := changedOver_tracker { s.tracker with missRun := run } k s
  have hadmits : Admits (changedOver { s with tracker := { s.tracker with missRun := run } } k) plan k slot e := by
    rw [hover]
    have hcounter : (changedOver s k).tracker.seqCounter = s.tracker.seqCounter :=
      congrArg Tracker.seqCounter (changedOver_keeps_tracker k s)
    refine ⟨h.armed, h.active, h.slot, h.room, h.openHead, h.windows, fun j r hr => ?_⟩
    exact (h.numbered j r hr).trans (by rw [hcounter])
  have hcounter : s.tracker.seqCounter = (changedOver s k).tracker.seqCounter :=
    congrArg Tracker.seqCounter (changedOver_keeps_tracker k s).symm
  have hstate : ({ s with tracker := { s.tracker with missRun := run } } : State).tracker.state = .locked := hl
  rw [admitLabel_eq hadmits, hover, admitted_tracker (t := { s.tracker with missRun := run }) hcounter, hstate]
  rfl

end

/-! ### Marks at the entry (R30 to R32) -/

variable {p : Pos} {c : MarkClass}

theorem entryMark_batch (h : s.tracker.state ≠ .off) (hb : batchReached s) : entryMark p c s = batchStopped s := by
  have hstops := (batchStops_iff s).mpr hb
  unfold entryMark
  cases hs : s.tracker.state with
  | off => exact absurd hs h
  | search => exact (if_pos hstops).trans (batchStop_eq s)
  | locked => exact (if_pos hstops).trans (batchStop_eq s)

theorem entryMark_search (h : s.tracker.state = .search) (hb : ¬ batchReached s) :
    entryMark p c s = searchMark p c s := by
  unfold entryMark
  rw [h]
  exact if_neg fun hs => hb ((batchStops_iff s).mp hs)

theorem entryMark_locked (h : s.tracker.state = .locked) (hb : ¬ batchReached s) :
    entryMark p c s = lockedMark p c s := by
  unfold entryMark
  rw [h]
  exact if_neg fun hs => hb ((batchStops_iff s).mp hs)

/-- The sync in force in SEARCH is that of the plan an admission of slot 0 is made under (R30). -/
theorem searchSync_eq {plan : Plan} (hj : (changedOver s 0).job.state = .armed)
    (ha : (changedOver s 0).job.active = some plan) : s.searchSync = some plan.sync := by
  unfold State.searchSync
  rcases changeover_cases 0 s with ⟨q, -, hq⟩ | hno
  · rw [changedOver_ready hq, raiseEvent_job] at ha
    rw [hq, Option.some.inj ha]
  · rw [changedOver_same hno] at hj ha
    have hnot := hno.resolve_left (absurd rfl)
    cases hb : s.job.buffer with
    | ready q => exact absurd hb (hnot q)
    | empty => simp [hj, ha]
    | loaded q => simp [hj, ha]

theorem searchSync_none (hj : (changedOver s 0).job.state ≠ .armed) : s.searchSync = none := by
  unfold State.searchSync
  rcases changeover_cases 0 s with ⟨q, -, hq⟩ | hno
  · refine absurd ?_ hj
    rw [changedOver_ready hq, raiseEvent_job]
    rfl
  · rw [changedOver_same hno] at hj
    have hnot := hno.resolve_left (absurd rfl)
    cases hb : s.job.buffer with
    | ready q => exact absurd hb (hnot q)
    | empty => exact if_neg hj
    | loaded q => exact if_neg hj

theorem searchMark_none (h : s.searchSync = none) : searchMark p c s = s := by
  unfold searchMark
  rw [h]

theorem searchMark_ignored (h : s.searchSync = some .cycle) : searchMark p .normal s = s := by
  unfold searchMark
  rw [h]

theorem searchMark_taken {sync : Sync} (h : s.searchSync = some sync) (hc : c = .cycle ∨ sync = .any) :
    searchMark p c s = admitLabel 0 p .lock (c == .cycle) s := by
  unfold searchMark
  rw [h]
  rcases hc with rfl | rfl
  · cases sync <;> rfl
  · cases c <;> rfl

section

variable {w : EntryWindow} (hw : s.tracker.window = some w)
include hw

theorem lockedMark_outside (h : w.contains p = false) : lockedMark p c s = entryStray s := by
  unfold lockedMark
  rw [hw]
  exact if_neg (by rw [h]; exact Bool.false_ne_true)

theorem lockedMark_inside (h : w.contains p = true) (hc : c = .normal ∨ s.tracker.cursor = 0) :
    lockedMark p c s = admitLabel s.tracker.cursor p .inWindow (c == .cycle) s := by
  unfold lockedMark
  rw [hw]
  refine (if_pos h).trans ?_
  cases hk : s.tracker.cursor with
  | zero => rfl
  | succ k =>
    rcases hc with rfl | h0
    · rfl
    · exact nomatch h0.symm.trans hk

theorem lockedMark_slip (h : w.contains p = true) (hk : 0 < s.tracker.cursor) :
    lockedMark p .cycle s = admitLabel 0 p (.slip s.tracker.cursor) true s := by
  unfold lockedMark
  rw [hw]
  refine (if_pos h).trans ?_
  cases hk' : s.tracker.cursor with
  | zero => exact absurd hk' (Nat.ne_of_gt hk)
  | succ k => rfl

end

theorem contains_iff (w : EntryWindow) (p : Pos) :
    w.contains p = true ↔ 0 ≤ sdiff p w.first ∧ 0 ≤ sdiff w.last p := by
  unfold EntryWindow.contains
  rw [Bool.and_eq_true, decide_eq_true_eq, decide_eq_true_eq]

/-! ### The entry window's expiry (R33) -/

theorem exec_entryWindowExpiry (s : State) : exec .entryWindowExpiry s = .next (entryWindowExpiry s) := rfl

theorem entryWindowExpiry_reached {w : EntryWindow} (hl : s.tracker.state = .locked) (hw : s.tracker.window = some w)
    (hr : 0 ≤ sdiff s.ref.hw w.expiry) : entryWindowExpiry s = entryExpired w s := by
  unfold entryWindowExpiry
  rw [hw]
  exact if_pos ⟨hl, (reached_iff _ _).mpr hr⟩

theorem entryWindowExpiry_not
    (h : s.tracker.state ≠ .locked ∨ ∀ w, s.tracker.window = some w → sdiff s.ref.hw w.expiry < 0) :
    entryWindowExpiry s = s := by
  unfold entryWindowExpiry
  cases hw : s.tracker.window with
  | none => rfl
  | some w =>
    refine if_neg fun hand => h.elim (fun h => h hand.1) fun h => ?_
    exact Int.not_lt.mpr ((reached_iff _ _).mp hand.2) (h w hw)

end

end Sys2Proof.Machine

namespace Sys2Proof.Proofs

open Sys2Proof.Machine

/-- Settles O48, by the tracker's state, the class of the mark, and what an admission with no window reached makes. -/
theorem entryTrackerAdmits : Obligations.EntryTrackerAdmits := by
  intro s
  refine ⟨fun lead p hst hahead => ?_, fun w hl hw hr => ?_, fun hnot => ?_⟩
  · intro width normal cycle left out k first
    have hbehind : s.behind = false := decide_eq_false (Int.not_lt.mpr hahead)
    have hclass {c : MarkClass} (hc : s.entry.classify width = some c) : out = .next (entryMark lead c left) :=
      congrArg Host.Outcome.next (markTrailingEdge_qualified (ch := .m0) hbehind hst hc)
    have hnormal (h : normal) : out = .next (entryMark lead .normal left) := hclass (if_pos h)
    have hcycle (h : cycle) : out = .next (entryMark lead .cycle left) := hclass ((if_neg h.1).trans (if_pos h.2))
    have hreplaced {f : MarkClass → State} {t : State} (ht : ∀ c, f c = t)
        (hf : ∀ c, entryMark lead c left = f c) (h : normal ∨ cycle) : out = .next t := by
      rcases h with h | h
      · rw [hnormal h, hf, ht]
      · rw [hcycle h, hf, ht]
    have hfalse (h : normal) : (!decide normal) = false := by rw [decide_eq_true h]; rfl
    have htrue (h : cycle) : (!decide normal) = true := by rw [decide_eq_false h.1]; rfl
    refine ⟨fun ht hmark hb => ?_, fun ht hb => ⟨fun hmark hj => ?_, fun plan hj ha => ⟨fun hn hs => ?_, fun hmark hfull => ?_,
      fun slot hmark hadmits => ?_⟩⟩, fun w ht hw hb => ?_⟩
    · exact hreplaced (fun _ => rfl) (fun c => entryMark_batch (s := left) (p := lead) (c := c) ht hb) hmark
    · exact hreplaced (fun c => searchMark_none (p := lead) (c := c) (searchSync_none (s := left) hj))
        (fun c => entryMark_search (s := left) ht hb) hmark
    · rw [hnormal hn, entryMark_search (s := left) ht hb,
        searchMark_ignored (s := left) ((searchSync_eq hj ha).trans (congrArg some hs))]
    · have hsync := searchSync_eq (s := left) hj ha
      rcases hmark with hc | ⟨hn, hany⟩
      · rw [hcycle hc, entryMark_search (s := left) ht hb, searchMark_taken hsync (.inl rfl)]
        exact congrArg Host.Outcome.next (admitLabel_overflow (s := left) hfull .lock)
      · rw [hnormal hn, entryMark_search (s := left) ht hb, searchMark_taken hsync (.inr hany)]
        exact congrArg Host.Outcome.next (admitLabel_overflow (s := left) hfull .lock)
    · have hsync := searchSync_eq (s := left) hj ha
      rcases hmark with hc | ⟨hn, hany⟩
      · rw [hcycle hc, entryMark_search (s := left) ht hb, searchMark_taken hsync (.inl rfl), admitLabel_lock hadmits,
          htrue hc]
        exact batchTest_admits _
      · rw [hnormal hn, entryMark_search (s := left) ht hb, searchMark_taken hsync (.inr hany), admitLabel_lock hadmits,
          hfalse hn]
        exact batchTest_admits _
    · intro inside
      have hin : w.contains lead = true ↔ inside := contains_iff w lead
      have hlocked (c : MarkClass) : entryMark lead c left = lockedMark lead c left := entryMark_locked (s := left) ht hb
      refine ⟨fun hmark hout => ?_, fun plan slot hmark hinside hadmits => ?_, fun plan slot hc hk hinside hadmits => ?_,
        fun hmark hinside hfull => ?_⟩
      · refine hreplaced (fun c => ?_) hlocked hmark
        rw [lockedMark_outside (s := left) hw (Bool.not_eq_true _ ▸ mt hin.mp hout), entryStray, bump16_eq]
      · rcases hmark with hn | ⟨hc, h0⟩
        · rw [hnormal hn, hlocked, lockedMark_inside (s := left) hw (hin.mpr hinside) (.inl rfl), hfalse hn]
          rw [admitLabel_inWindow (s := left) hadmits ht]
          exact batchTest_admits _
        · rw [hcycle hc, hlocked, lockedMark_inside (s := left) hw (hin.mpr hinside) (.inr h0), htrue hc]
          rw [admitLabel_inWindow (s := left) hadmits ht]
          exact batchTest_admits _
      · rw [hcycle hc, hlocked, lockedMark_slip (s := left) hw (hin.mpr hinside) hk,
          admitLabel_slip (s := left) hadmits ht]
        exact batchTest_admits _
      · rcases hmark with hn | hc
        · rw [hnormal hn, hlocked, lockedMark_inside (s := left) hw (hin.mpr hinside) (.inl rfl), if_pos hn]
          exact congrArg Host.Outcome.next (admitLabel_overflow (s := left) hfull .inWindow)
        · rw [hcycle hc, hlocked, if_neg hc.1]
          by_cases h0 : k = 0
          · rw [lockedMark_inside (s := left) hw (hin.mpr hinside) (.inr h0)]
            have hzero : left.tracker.cursor = 0 := h0
            rw [hzero]
            exact congrArg Host.Outcome.next (admitLabel_overflow (s := left) hfull .inWindow)
          · rw [lockedMark_slip (s := left) hw (hin.mpr hinside) (Nat.pos_of_ne_zero h0)]
            exact congrArg Host.Outcome.next (admitLabel_overflow (s := left) hfull _)
  · rw [exec_entryWindowExpiry, entryWindowExpiry_reached hl hw hr]
    intro run k missed out
    have hstops : missed.batchStops = true ↔ batchReached s := batchStops_iff missed
    have hgoes (hrun : run ≠ s.entry.missLimit) (hb : ¬ batchReached s) :
        entryExpired w s = admitLabel k w.expected .predicted false missed :=
      (if_neg hrun).trans (if_neg fun h => hb (hstops.mp h))
    refine ⟨fun hrun => ?_, fun hrun hb => ?_, fun hb hrun hfull => ?_, fun plan slot hb hrun hadmits => ?_⟩
    · have hlost : entryExpired w s = batchTest (raiseEvent .entryLost 0 k (searching missed)) := if_pos hrun
      have hadmits := batchTest_admits (raiseEvent .entryLost 0 k (searching missed))
      rw [← hlost] at hadmits
      exact hadmits
    · have hstopped : entryExpired w s = batchStop missed := (if_neg hrun).trans (if_pos (hstops.mpr hb))
      exact congrArg Host.Outcome.next (hstopped.trans (batchStop_eq missed))
    · exact congrArg Host.Outcome.next ((hgoes hrun hb).trans (admitLabel_overflow (s := missed) hfull .predicted))
    · have hpredicted := (hgoes hrun hb).trans (admitLabel_predicted hadmits hl run)
      have hadmitted := batchTest_admits (admitted (changedOver s k) plan k slot w.expected .predicted false run)
      rw [← hpredicted] at hadmitted
      exact hadmitted
  · rw [exec_entryWindowExpiry, entryWindowExpiry_not hnot]

end Sys2Proof.Proofs
end

section

/-!
## The strike point

The queue's next threshold (R9, R44), what raises leave of the event set (R180), retirement (R43, R165, R166), and the
outcome of a visit in its order (R58 to R61, R107, R108, R110, R111).
-/

namespace Sys2Proof.Machine

/-! ### What a raise leaves of the event set (R180) -/

section

variable (k : EventKind) (unit detail : Nat) (s : State)

theorem txChoose_flags : (txChoose s).events.flags = s.events.flags := by
  obtain h | ⟨_, _, _, h⟩ | ⟨_, _, _, _, _, h⟩ := txChoose_cases s <;> rw [h]

theorem txChoose_records : (txChoose s).events.records = s.events.records := by
  obtain h | ⟨_, _, _, h⟩ | ⟨_, _, _, _, _, h⟩ := txChoose_cases s <;> rw [h]

theorem raiseEvent_records :
    (raiseEvent k unit detail s).events.records = s.events.records.set k.index { unit, detail, web := s.web } := by
  rw [raiseEvent_eq]
  split
  · rfl
  · split
    · exact txChoose_records _
    · rfl

theorem raiseEvent_record_self :
    (raiseEvent k unit detail s).events.record k = { unit, detail, web := s.web } := by
  unfold EventSet.record
  simp only [raiseEvent_records]
  exact Vector.getElem_set_self ..

theorem raiseEvent_record_of_ne {j : EventKind} (h : j ≠ k) :
    (raiseEvent k unit detail s).events.record j = s.events.record j := by
  have hne : k.index.val ≠ j.index.val := fun he => h (EventKind.index_injective (Fin.ext he.symm))
  unfold EventSet.record
  simp only [raiseEvent_records]
  exact Vector.getElem_set_ne _ _ hne

theorem raiseEvent_isIn (j : EventKind) :
    j.isIn (raiseEvent k unit detail s).events.flags = (j.isIn s.events.flags || j == k) := by
  rw [raiseEvent_eq]
  by_cases hk : k.isIn s.events.flags = true
  · rw [if_pos hk]
    by_cases hj : j = k
    · subst hj
      rw [hk]
      rfl
    · rw [beq_false_of_ne hj, Bool.or_false]
  · have hor : j.isIn (s.events.flags ||| k.bit) = (j.isIn s.events.flags || j == k) := by
      rw [EventKind.isIn_or, EventKind.isIn_bit_iff]
    rw [if_neg hk]
    split
    · rw [txChoose_flags]
      exact hor
    · exact hor

end

/-! ### The queue's next threshold (R9, R44) -/

theorem sdiff_swap {x y : Pos} (h : 0 < sdiff y x) : sdiff x y < 0 := by
  have hneg : x - y = -(y - x) := (neg_sub y x).symm
  unfold sdiff at h ⊢
  rw [hneg]
  rw [BitVec.toInt_eq_toNat_cond] at h ⊢
  rw [BitVec.toNat_neg]
  have hlt := (y - x).isLt
  split at h <;> split <;> omega

theorem foldr_earlier {before after : List DueThreshold} {x : DueThreshold}
    (hbefore : ∀ y ∈ before, 0 < sdiff y.pos x.pos) (hafter : ∀ y ∈ after, 0 ≤ sdiff y.pos x.pos) :
    (before ++ x :: after).foldr earlier none = some x := by
  induction before with
  | nil =>
    rw [List.nil_append, List.foldr_cons]
    cases hf : after.foldr earlier none with
    | none => rfl
    | some b => exact if_neg (Int.not_lt.mpr (hafter b (foldr_earlier_mem after hf)))
  | cons y before ih =>
    rw [List.cons_append, List.foldr_cons, ih fun z hz => hbefore z (List.mem_cons_of_mem y hz)]
    exact if_pos (sdiff_swap (hbefore y List.mem_cons_self))

theorem nextDue_eq {s : State} {x : DueThreshold} (h : nextThreshold s x) : s.nextDue = some x := by
  obtain ⟨hx, before, after, hq, hbefore, hafter⟩ := h
  have hreached (y : DueThreshold) (hy : reached s.ref.hw y.pos = true) : 0 ≤ sdiff s.ref.hw y.pos := (reached_iff _ _).mp hy
  unfold State.nextDue Machine.nextDue
  rw [hq, List.filter_append, List.filter_cons_of_pos (by exact (reached_iff _ _).mpr hx)]
  refine foldr_earlier (fun y hy => ?_) fun y hy => ?_
  · obtain ⟨hmem, hr⟩ := List.mem_filter.mp hy
    exact hbefore y hmem (hreached y hr)
  · obtain ⟨hmem, hr⟩ := List.mem_filter.mp hy
    exact hafter y hmem (hreached y hr)

/-! ### Retirement (R43, R165, R166) -/

/-- A record is of the plan in a place. -/
def ofPlace (place : Option Plan) (r : LabelRecord) : Bool := place.any fun p => p.id == r.plan

theorem planIs_eq (place : Option Plan) (r : LabelRecord) : planIs place r.plan = ofPlace place r := by
  cases place <;> rfl

/-- The job store after the retirement of one record. -/
def JobStore.retired (j : JobStore) (r : LabelRecord) : JobStore :=
  if ofPlace j.active r then
    { j with activeLive := j.activeLive - 1
             state := if j.state = .draining ∧ j.activeLive - 1 = 0 then .ended else j.state }
  else if ofPlace j.draining r then
    { j with drainingLive := j.drainingLive - 1
             draining := if j.drainingLive - 1 = 0 then none else j.draining }
  else j

/-- The live records of two places among those gone. -/
theorem afterRetirement_eq (j : JobStore) (gone : List LabelRecord) :
    afterRetirement j gone =
      let a := gone.countP (ofPlace j.active)
      let d := gone.countP fun r => !ofPlace j.active r && ofPlace j.draining r
      { j with
        activeLive := j.activeLive - a
        drainingLive := j.drainingLive - d
        draining := if 0 < d ∧ j.drainingLive ≤ d then none else j.draining
        state := if j.state = .draining ∧ 0 < a ∧ j.activeLive ≤ a then .ended else j.state } := by
  unfold afterRetirement
  simp only [List.countP_eq_length_filter]
  rfl

theorem afterRetirement_nil (j : JobStore) : afterRetirement j [] = j := by
  simp [afterRetirement_eq]

theorem afterRetirement_cons (j : JobStore) (r : LabelRecord) (rs : List LabelRecord) :
    afterRetirement j (r :: rs) = afterRetirement (j.retired r) rs := by
  rw [afterRetirement_eq, afterRetirement_eq]
  unfold JobStore.retired
  by_cases ha : ofPlace j.active r = true
  · have hcount : (r :: rs).countP (fun r => !ofPlace j.active r && ofPlace j.draining r) =
        rs.countP fun r => !ofPlace j.active r && ofPlace j.draining r := List.countP_cons_of_neg (by simp [ha])
    rw [if_pos ha, List.countP_cons_of_pos ha, hcount]
    dsimp only
    generalize rs.countP (ofPlace j.active) = a
    have hstate : (if j.state = .draining ∧ 0 < a + 1 ∧ j.activeLive ≤ a + 1 then JobState.ended else j.state) =
        if (if j.state = .draining ∧ j.activeLive - 1 = 0 then JobState.ended else j.state) = .draining ∧ 0 < a ∧
          j.activeLive - 1 ≤ a then .ended else if j.state = .draining ∧ j.activeLive - 1 = 0 then .ended else j.state := by
      by_cases hj : j.state = .draining
      · by_cases h0 : j.activeLive - 1 = 0
        · have hlast : j.activeLive ≤ a + 1 := by omega
          simp [hj, h0, hlast]
        · rw [if_neg (c := j.state = .draining ∧ j.activeLive - 1 = 0) fun h => h0 h.2]
          exact if_congr (and_congr_right' (by omega)) rfl rfl
      · rw [if_neg fun h => hj h.1, if_neg (c := j.state = .draining ∧ j.activeLive - 1 = 0) fun h => hj h.1,
          if_neg fun h => hj h.1]
    have hlive : j.activeLive - (a + 1) = j.activeLive - 1 - a := by omega
    rw [hlive, hstate]
  · have hactive : (r :: rs).countP (ofPlace j.active) = rs.countP (ofPlace j.active) := List.countP_cons_of_neg ha
    rw [if_neg ha, hactive]
    by_cases hd : ofPlace j.draining r = true
    · have hcount : (r :: rs).countP (fun r => !ofPlace j.active r && ofPlace j.draining r) =
          rs.countP (fun r => !ofPlace j.active r && ofPlace j.draining r) + 1 :=
        List.countP_cons_of_pos (by simp [ha, hd])
      rw [if_pos hd, hcount]
      dsimp only
      by_cases h0 : j.drainingLive - 1 = 0
      · have hnone : rs.countP (fun r => !ofPlace j.active r && ofPlace none r) = 0 :=
          List.countP_eq_zero.mpr fun x _ => by simp [ofPlace]
        rw [if_pos h0, hnone, if_pos ⟨Nat.succ_pos _, by omega⟩, h0, ite_self,
          Nat.sub_eq_zero_of_le (show j.drainingLive ≤ _ + 1 by omega)]
      · rw [if_neg h0]
        generalize rs.countP (fun r => !ofPlace j.active r && ofPlace j.draining r) = d
        have hplace : (if 0 < d + 1 ∧ j.drainingLive ≤ d + 1 then none else j.draining) =
            if 0 < d ∧ j.drainingLive - 1 ≤ d then none else j.draining := if_congr (by omega) rfl rfl
        have hlive : j.drainingLive - (d + 1) = j.drainingLive - 1 - d := by omega
        rw [hlive, hplace]
    · rw [if_neg hd, List.countP_cons_of_neg (p := fun r => !ofPlace j.active r && ofPlace j.draining r) (by simp [hd])]

/-- What the retirement of records does, the queue apart. -/
structure Retires (s t : State) (gone : List LabelRecord) : Prop where
  job : t.job = afterRetirement s.job gone
  frame : { t with queue := s.queue, job := s.job, events := s.events, link := s.link } = s
  records : ∀ k : EventKind, k ≠ .jobEnded → t.events.record k = s.events.record k
  flags : ∀ k : EventKind, k.isIn s.events.flags = true → k.isIn t.events.flags = true
  quiet : t.job.state = s.job.state → t.events.record .jobEnded = s.events.record .jobEnded
  ended : t.job.state ≠ s.job.state → EventKind.jobEnded.isIn t.events.flags = true ∧ t.events.record .jobEnded =
    { unit := 0, detail := endReasonCode s.job.endReason * 256 + placeId s.job.active, web := s.web }

theorem retired_keeps (j : JobStore) (r : LabelRecord) :
    (j.retired r).active = j.active ∧ (j.retired r).endReason = j.endReason := by
  unfold JobStore.retired
  split
  · exact ⟨rfl, rfl⟩
  · split <;> exact ⟨rfl, rfl⟩

theorem retired_state (j : JobStore) (r : LabelRecord) :
    (j.retired r).state = j.state ∨ (j.state = .draining ∧ (j.retired r).state = .ended) := by
  unfold JobStore.retired
  split
  · by_cases hd : j.state = .draining ∧ j.activeLive - 1 = 0
    · exact .inr ⟨hd.1, if_pos hd⟩
    · exact .inl (if_neg hd)
  · split <;> exact .inl rfl

theorem afterRetirement_ended {j : JobStore} (h : j.state = .ended) (gone : List LabelRecord) :
    (afterRetirement j gone).state = .ended := by
  refine (if_neg fun hand => ?_).trans h
  exact nomatch h.symm.trans hand.1

/-- One record retires: the live counts fall, and JOB_ENDED is raised when the job ends. -/
theorem planRetired_eq (r : LabelRecord) (s : State) :
    planRetired r.plan s = if (s.job.retired r).state = s.job.state then { s with job := s.job.retired r }
      else raiseEvent .jobEnded 0 (endReasonCode s.job.endReason * 256 + placeId s.job.active)
        { s with job := s.job.retired r } := by
  unfold planRetired
  rw [planIs_eq, planIs_eq]
  by_cases ha : ofPlace s.job.active r = true
  · have hretired : s.job.retired r = { s.job with
        activeLive := s.job.activeLive - 1
        state := if s.job.state = .draining ∧ s.job.activeLive - 1 = 0 then .ended else s.job.state } := if_pos ha
    by_cases hd : s.job.state = .draining ∧ s.job.activeLive - 1 = 0
    · have hended : (s.job.retired r).state = .ended := by
        rw [hretired]
        exact if_pos hd
      have hne : ¬ (s.job.retired r).state = s.job.state := fun h => by
        rw [hended, hd.1] at h
        exact nomatch h
      rw [if_pos ha, if_neg hne, hretired, if_pos hd]
      unfold drainedTest
      exact if_pos hd
    · have hsame : (s.job.retired r).state = s.job.state := by
        rw [hretired]
        exact if_neg hd
      rw [if_pos ha, if_pos hsame, hretired, if_neg hd]
      unfold drainedTest
      exact if_neg hd
  · rw [if_neg ha]
    by_cases hd : ofPlace s.job.draining r = true
    · have hretired : s.job.retired r = { s.job with
          drainingLive := s.job.drainingLive - 1
          draining := if s.job.drainingLive - 1 = 0 then none else s.job.draining } := (if_neg ha).trans (if_pos hd)
      rw [if_pos hd, hretired]
      exact (if_pos rfl).symm
    · have hretired : s.job.retired r = s.job := (if_neg ha).trans (if_neg hd)
      rw [if_neg hd, hretired]
      exact (if_pos rfl).symm

theorem planRetired_queue (r : LabelRecord) (s : State) : (planRetired r.plan s).queue = s.queue := by
  rw [planRetired_eq]
  split
  · rfl
  · exact raiseEvent_queue ..

theorem Retires.refl (s : State) : Retires s s [] :=
  ⟨(afterRetirement_nil _).symm, rfl, fun _ _ => rfl, fun _ h => h, fun _ => rfl, fun h => absurd rfl h⟩

theorem retires_one (r : LabelRecord) (s : State) : Retires s (planRetired r.plan s) [r] := by
  have hjob : s.job.retired r = afterRetirement s.job [r] := by
    rw [afterRetirement_cons, afterRetirement_nil]
  rw [planRetired_eq]
  split
  · next h => exact ⟨hjob, rfl, fun _ _ => rfl, fun _ h => h, fun _ => rfl, fun hne => absurd h hne⟩
  · next h =>
    refine ⟨?_, ?_, fun k hk => raiseEvent_record_of_ne _ _ _ _ hk, fun k hk => ?_, fun hsame => ?_,
      fun _ => ⟨?_, ?_⟩⟩
    · rw [raiseEvent_job, hjob]
    · obtain ⟨_, _, hframe⟩ := raiseEvent_frame .jobEnded 0
        (endReasonCode s.job.endReason * 256 + placeId s.job.active) { s with job := s.job.retired r }
      rw [hframe]
    · rw [raiseEvent_isIn]
      exact Bool.or_eq_true_iff.mpr (.inl hk)
    · rw [raiseEvent_job] at hsame
      exact absurd hsame h
    · rw [raiseEvent_isIn, beq_self_eq_true, Bool.or_true]
    · rw [raiseEvent_record_self]
      rfl

theorem Retires.trans {s t u : State} {r : LabelRecord} {rs : List LabelRecord} (h : Retires s t [r])
    (h' : Retires t u rs) : Retires s u (r :: rs) where
  job := by
    have hone : t.job = s.job.retired r := by
      rw [h.job, afterRetirement_cons, afterRetirement_nil]
    rw [h'.job, hone, afterRetirement_cons]
  frame := by
    have hframe := congrArg (fun t : State => ({ t with
      queue := s.queue, job := s.job, events := s.events, link := s.link } : State)) h'.frame
    exact hframe.trans h.frame
  records k hk := (h'.records k hk).trans (h.records k hk)
  flags k hk := h'.flags k (h.flags k hk)
  quiet hsame := by
    have hone : t.job = s.job.retired r := by
      rw [h.job, afterRetirement_cons, afterRetirement_nil]
    by_cases hfirst : t.job.state = s.job.state
    · exact (h'.quiet (hsame.trans hfirst.symm)).trans (h.quiet hfirst)
    · obtain ⟨hdraining, hended⟩ := (retired_state s.job r).resolve_left (hone ▸ hfirst)
      rw [← hone] at hended
      rw [h'.job, afterRetirement_ended hended, hdraining] at hsame
      exact nomatch hsame
  ended hne := by
    have hone : t.job = s.job.retired r := by
      rw [h.job, afterRetirement_cons, afterRetirement_nil]
    obtain ⟨hactive, hreason⟩ := retired_keeps s.job r
    have hweb : t.web = s.web := by
      have hframe := congrArg State.web h.frame
      exact hframe
    by_cases hsame : u.job.state = t.job.state
    · have hfirst := h.ended (hsame ▸ hne)
      refine ⟨h'.flags _ hfirst.1, ?_⟩
      rw [h'.quiet hsame]
      exact hfirst.2
    · obtain ⟨hin, hrecord⟩ := h'.ended hsame
      rw [hone, hreason, hactive, hweb] at hrecord
      exact ⟨hin, hrecord⟩

/-- The heads whose present visits are all FINAL retire (R43). -/
theorem retireHeads_retires {q : List LabelRecord} {fuel : Nat} {s : State} (hq : s.queue = q) (hfuel : q.length ≤ fuel) :
    Retires s (retireHeads fuel s) (q.takeWhile LabelRecord.allFinal) ∧
      (retireHeads fuel s).queue = q.dropWhile LabelRecord.allFinal := by
  induction q generalizing fuel s with
  | nil =>
    have hsame : retireHeads fuel s = s := by
      cases fuel with
      | zero => rfl
      | succ n =>
        unfold retireHeads
        rw [hq]
    rw [hsame]
    exact ⟨.refl s, hq⟩
  | cons r q ih =>
    cases fuel with
    | zero => exact absurd hfuel (Nat.not_succ_le_zero _)
    | succ n =>
      unfold retireHeads
      rw [hq]
      dsimp only
      cases hr : r.allFinal with
      | false =>
        rw [List.takeWhile_cons_of_neg (by simp [hr]), List.dropWhile_cons_of_neg (by simp [hr])]
        exact ⟨.refl s, hq⟩
      | true =>
        rw [List.takeWhile_cons_of_pos hr, List.dropWhile_cons_of_pos hr, if_pos rfl]
        obtain ⟨hret, hrest⟩ := ih (s := planRetired r.plan { s with queue := q }) (planRetired_queue ..)
          (Nat.le_of_succ_le_succ hfuel)
        have hone : Retires s (planRetired r.plan { s with queue := q }) [r] := by
          obtain ⟨hjob, hframe, hrecords, hflags, hquiet, hended⟩ := retires_one r { s with queue := q }
          refine ⟨hjob, ?_, hrecords, hflags, hquiet, hended⟩
          exact congrArg (fun t : State => ({ t with queue := s.queue } : State)) hframe
        exact ⟨hone.trans hret, hrest⟩

theorem retire_retires (s : State) :
    Retires s (retire s) (s.queue.takeWhile LabelRecord.allFinal) ∧
      (retire s).queue = s.queue.dropWhile LabelRecord.allFinal :=
  retireHeads_retires rfl (Nat.le_refl _)

/-! ### The outcome counted, and the station prepared (R58, R107, R108, R110) -/

section

variable (u : Station) (o : VisitOutcome)

theorem Station.count_lift : (u.count o).lift = u.lift.count o := by
  rcases u with ⟨_, _, actuator, _, _, _, liftedIn, _⟩
  cases actuator <;> cases liftedIn <;> cases o <;> rfl

theorem Station.count_engage : (u.count o).engage = u.engage.count o := by
  rcases u with ⟨_, _, actuator, _, _, engagedIn, _⟩
  cases actuator <;> cases engagedIn <;> cases o <;> rfl

theorem Station.count_idleLift (x : Option Pos) :
    ({ u.count o with idleLift := x } : Station) = ({ u with idleLift := x } : Station).count o := by
  cases o <;> rfl

theorem Station.count_setup : (u.count o).setup = u.setup := by
  cases o <;> rfl

theorem Station.count_loop : (u.count o).loop = u.loop := by
  cases o <;> rfl

end

/-- The outcome is counted, each other count as it was (R110). -/
theorem Station.count_eq {u w : Station} {o : VisitOutcome} (hw : ∃ valve actuator stroke idleLift, w = { u with
    valve := valve, actuator := actuator, stroke := stroke, idleLift := idleLift }) :
    w.count o = { w with
      struck := if o = .struck then min 4294967295 (u.struck + 1) else u.struck
      skipped := if o = .skipped then min 4294967295 (u.skipped + 1) else u.skipped
      missed := if o = .missed then min 4294967295 (u.missed + 1) else u.missed
      marred := if o = .marred then min 4294967295 (u.marred + 1) else u.marred } := by
  obtain ⟨_, _, _, _, rfl⟩ := hw
  cases o <;> simp [Station.count, bump32_eq]

/-- The queue with a visit FINAL. -/
def finishedQueue (q : List LabelRecord) (seq : BitVec 16) (st : StationId) (o : VisitOutcome) : List LabelRecord :=
  visitsChanged q seq st fun v => { v with state := .final, outcome := some o }

theorem finishedQueue_undelivered (q : List LabelRecord) (seq : BitVec 16) (st : StationId) (o : VisitOutcome) :
    (visitsOf st (finishedQueue q seq st o)).any Visit.undelivered =
      q.any fun x => x.seq != seq && undeliveredAt x st := by
  rw [anyUndelivered_eq]
  unfold finishedQueue visitsChanged
  rw [List.any_map]
  congr 1
  funext x
  by_cases hx : x.seq = seq
  · have hfinal : undeliveredAt { x with visits := x.visits.put st ((x.visits.get st).map fun v =>
        { v with state := .final, outcome := some o }) } st = false := by
      unfold undeliveredAt LabelRecord.visit
      dsimp only
      rw [PerStation.get_put_self]
      cases x.visits.get st <;> simp
    rw [Function.comp_apply, if_pos hx, hfinal, hx, bne_self_eq_false, Bool.false_and]
  · simp [hx]

/-- What comes after a record, when a change keeps to it. -/
theorem recordsAfter_map {seq : BitVec 16} {f : LabelRecord → LabelRecord} (hf : ∀ x, (f x).seq = x.seq)
    (hkeep : ∀ x : LabelRecord, x.seq ≠ seq → f x = x) {q : List LabelRecord} (hnd : (q.map LabelRecord.seq).Nodup) :
    recordsAfter seq (q.map f) = recordsAfter seq q := by
  unfold recordsAfter
  induction q with
  | nil => rfl
  | cons x q ih =>
    rw [List.map_cons, List.nodup_cons] at hnd
    by_cases hx : x.seq = seq
    · have hrest : q.map f = q := by
        refine (List.map_congr_left fun y hy => hkeep y fun hys => hnd.1 ?_).trans (List.map_id q)
        exact List.mem_map.mpr ⟨y, hy, hys.trans hx.symm⟩
      rw [List.map_cons, List.dropWhile_cons_of_neg (by simp [hf, hx]), List.dropWhile_cons_of_neg (by simp [hx])]
      exact hrest
    · rw [List.map_cons, List.dropWhile_cons_of_pos (by simpa [hf] using hx),
        List.dropWhile_cons_of_pos (by simpa using hx)]
      exact ih hnd.2

section

variable {s : State} {r : LabelRecord} {st : StationId} {p : Pos} {w : Visit}

theorem settled_lifts (h : s.nextVisit r.seq st = some w) (hw : w.skips = true) :
    settled s r st true p = (s.station st).lift := by
  have hd : ∃ reason, w.decision = some (.skip reason) := by
    unfold Visit.skips at hw
    split at hw
    · next reason hr => exact ⟨reason, hr⟩
    · exact nomatch hw
  obtain ⟨reason, hd⟩ := hd
  unfold State.nextVisit visitsOf recordsAfter at h
  unfold settled
  rw [h]
  dsimp only
  rw [Option.map_some, hd]

theorem settled_stays (h : s.nextVisit r.seq st = some w) (hw : w.skips = false) :
    settled s r st true p = s.station st := by
  unfold State.nextVisit visitsOf recordsAfter at h
  unfold settled
  rw [h]
  dsimp only
  rw [Option.map_some]
  unfold Visit.skips at hw
  cases hd : w.decision with
  | none => rfl
  | some d =>
    cases d with
    | strike => rfl
    | skip reason => simp [hd] at hw

theorem settled_idles (h : s.nextVisit r.seq st = none) :
    settled s r st true p =
      let idle := posShift p (r.pitch + (s.station st).setup.swin)
      if sdiff s.ref.hw idle < 0 then { s.station st with idleLift := some idle }
      else if s.queue.any fun x => x.seq != r.seq && undeliveredAt x st then { s.station st with idleLift := none }
      else ({ s.station st with idleLift := none } : Station).lift := by
  unfold State.nextVisit visitsOf recordsAfter at h
  unfold settled
  rw [h]
  rfl

theorem settled_engages (h : s.nextVisit r.seq st = some w) (hw : w.strikes = true) :
    settled s r st false p = (s.station st).engage := by
  unfold State.nextVisit visitsOf recordsAfter at h
  unfold settled
  rw [h]
  dsimp only
  rw [Option.map_some, beq_iff_eq.mp hw]

theorem settled_rests (h : s.nextVisit r.seq st = some w) (hw : w.strikes = false) :
    settled s r st false p = s.station st := by
  unfold State.nextVisit visitsOf recordsAfter at h
  unfold settled
  rw [h]
  dsimp only
  rw [Option.map_some]
  unfold Visit.strikes at hw
  cases hd : w.decision with
  | none => rfl
  | some d =>
    cases d with
    | skip reason => rfl
    | strike => simp [hd] at hw

theorem settled_lone (h : s.nextVisit r.seq st = none) : settled s r st false p = s.station st := by
  unfold State.nextVisit visitsOf recordsAfter at h
  unfold settled
  rw [h]
  rfl

/-- The station's own part after an outcome moves the actuator and the idle-lift point. -/
theorem settled_frame (strikes : Bool) : ∃ valve actuator stroke idleLift, settled s r st strikes p =
    { s.station st with valve := valve, actuator := actuator, stroke := stroke, idleLift := idleLift } := by
  unfold settled
  dsimp only
  split
  · obtain ⟨v, a, k, h⟩ := (s.station st).lift_frame
    exact ⟨v, a, k, _, h⟩
  · split
    · exact ⟨_, _, _, _, rfl⟩
    · split
      · exact ⟨_, _, _, _, rfl⟩
      · obtain ⟨v, a, k, h⟩ := ({ s.station st with idleLift := none } : Station).lift_frame
        exact ⟨v, a, k, none, h⟩
  · obtain ⟨v, a, k, h⟩ := (s.station st).engage_frame
    exact ⟨v, a, k, _, h⟩
  · exact ⟨_, _, _, _, rfl⟩

/-- The actuator is prepared for the next visit (R107, R108). -/
def prepared (strikes : Bool) (r : LabelRecord) (st : StationId) (p : Pos) (s : State) : State :=
  if strikes then strikeOutcome r.seq st p r.pitch s else skipOutcome r.seq st s

variable {t : State} {o : VisitOutcome}

theorem setIdleLift_counted (hq : t.queue = finishedQueue s.queue r.seq st o) (href : t.ref = s.ref)
    (hst : t.station st = (s.station st).count o) (idle : Pos) :
    setIdleLift st idle t = t.setStation st ((
      if sdiff s.ref.hw idle < 0 then { s.station st with idleLift := some idle }
      else if s.queue.any fun x => x.seq != r.seq && undeliveredAt x st then { s.station st with idleLift := none }
      else ({ s.station st with idleLift := none } : Station).lift).count o) := by
  unfold setIdleLift idleLiftReached
  dsimp only
  rw [State.modStation_ref, href, State.modStation_modStation, State.modStation_queue, hq, finishedQueue_undelivered]
  by_cases hr : sdiff s.ref.hw idle < 0
  · rw [if_pos hr, if_neg (mt (reached_iff _ _).mp (Int.not_le.mpr hr))]
    unfold State.modStation
    rw [hst]
    exact congrArg (t.setStation st) ((s.station st).count_idleLift o (some idle))
  · rw [if_neg hr, if_pos ((reached_iff _ _).mpr (Int.not_lt.mp hr))]
    unfold State.modStation
    rw [hst]
    dsimp only
    have hidle := (s.station st).count_idleLift o none
    split
    · exact congrArg (t.setStation st) hidle
    · exact congrArg (t.setStation st) ((congrArg Station.lift hidle).trans (Station.count_lift _ o))

theorem prepared_eq (hnd : (s.queue.map LabelRecord.seq).Nodup) (hq : t.queue = finishedQueue s.queue r.seq st o)
    (href : t.ref = s.ref) (hst : t.station st = (s.station st).count o) (strikes : Bool) :
    prepared strikes r st p t = t.setStation st ((settled s r st strikes p).count o) := by
  have hnext : t.nextVisit r.seq st = s.nextVisit r.seq st := by
    unfold State.nextVisit
    rw [hq]
    refine congrArg (fun q => (visitsOf st q).head?) (recordsAfter_map (fun x => ?_) (fun x hx => if_neg hx) hnd)
    split <;> rfl
  have hsame : t = t.setStation st ((s.station st).count o) := by
    rw [← hst]
    exact (State.modStation_id t st).symm
  unfold prepared
  cases strikes with
  | true =>
    rw [if_pos rfl]
    unfold strikeOutcome
    rw [hnext]
    cases hv : s.nextVisit r.seq st with
    | none =>
      dsimp only
      rw [hst, Station.count_setup, settled_idles hv]
      exact setIdleLift_counted hq href hst _
    | some w =>
      dsimp only
      cases hw : w.skips with
      | false =>
        rw [settled_stays hv hw]
        exact hsame
      | true =>
        rw [settled_lifts hv hw, if_pos rfl]
        unfold State.modStation
        rw [hst, Station.count_lift]
  | false =>
    rw [if_neg Bool.false_ne_true]
    unfold skipOutcome
    rw [hnext]
    cases hv : s.nextVisit r.seq st with
    | none =>
      dsimp only
      rw [settled_lone hv]
      exact hsame
    | some w =>
      dsimp only
      cases hw : w.strikes with
      | false =>
        rw [settled_rests hv hw]
        exact hsame
      | true =>
        rw [settled_engages hv hw, if_pos rfl]
        unfold State.modStation
        rw [hst, Station.count_engage]

end

/-! ### The outcome told (R60, R61, R111) -/

/-- A trace entry goes to the queue or is dropped (R186). -/
def TraceQueue.taking (q : TraceQueue) (entry : TraceEntry) : TraceQueue :=
  if q.entries.length < 64 then { q with entries := q.entries ++ [entry] }
  else { q with dropped := min 65535 (q.dropped + 1) }

/-- What raises alone do: the event set and the link move, and the kinds told apart keep their records. -/
structure Raises (told : EventKind → Prop) (s t : State) : Prop where
  frame : { t with events := s.events, link := s.link } = s
  records : ∀ k, ¬ told k → t.events.record k = s.events.record k
  flags : ∀ k : EventKind, k.isIn s.events.flags = true → k.isIn t.events.flags = true

theorem Raises.refl (told : EventKind → Prop) (s : State) : Raises told s s := ⟨rfl, fun _ _ => rfl, fun _ h => h⟩

theorem raises_one (k : EventKind) (unit detail : Nat) (s : State) :
    Raises (· = k) s (raiseEvent k unit detail s) where
  frame := by
    obtain ⟨_, _, h⟩ := raiseEvent_frame k unit detail s
    rw [h]
  records j hj := raiseEvent_record_of_ne k unit detail s hj
  flags j hj := by
    rw [raiseEvent_isIn]
    exact Bool.or_eq_true_iff.mpr (.inl hj)

theorem Raises.weaken {told told' : EventKind → Prop} {s t : State} (h : Raises told s t)
    (hsub : ∀ k, told k → told' k) : Raises told' s t :=
  ⟨h.frame, fun k hk => h.records k fun hin => hk (hsub k hin), h.flags⟩

/-- The kinds a trace entry may raise (R186). -/
def ofTrace (k : EventKind) : Prop := k = .traceWatermark ∨ k = .traceOverflow

theorem writeTrace_raises (entry : TraceEntry) (s : State) :
    Raises ofTrace { s with trace := s.trace.taking entry } (writeTrace entry s) := by
  rw [writeTrace_eq]
  by_cases h : s.trace.entries.length < Config.traceCapacity
  · have htaking : s.trace.taking entry = { s.trace with entries := s.trace.entries ++ [entry] } := if_pos h
    rw [if_pos h, htaking]
    unfold watermarkTest
    split
    · exact (raises_one ..).weaken fun _ => .inl
    · exact .refl _ _
  · have htaking : s.trace.taking entry = { s.trace with dropped := bump16 s.trace.dropped } := by
      rw [bump16_eq]
      exact if_neg h
    rw [if_neg h, htaking]
    exact (raises_one ..).weaken fun _ => .inr

theorem policyWrites_eq (policy : TracePolicy) (v : Visit) (o : VisitOutcome) :
    policyWrites policy v o = tracedBy policy v o := by
  cases policy <;> cases o <;> rfl

/-- STRIKE_FAULT is raised for an outcome that went wrong (R61). -/
def faultTold (o : VisitOutcome) (st : StationId) (seq : BitVec 16) (s : State) : State :=
  if o = .missed ∨ o = .marred then raiseEvent .strikeFault st.number seq.toNat s else s

/-- The visit is traced as its station's policy asks (R60, R111). -/
def visitTraced (r : LabelRecord) (st : StationId) (v : Visit) (o : VisitOutcome) (p : Pos) (s : State) : State :=
  if policyWrites (s.station st).setup.policy v o then writeTrace (traceEntry r st v o p (s.station st).loop.trim) s
  else s

section

variable (r : LabelRecord) (st : StationId) (v : Visit) (o : VisitOutcome) (p : Pos) (s : State)

theorem faultTold_raises : Raises (· = .strikeFault) s (faultTold o st r.seq s) := by
  unfold faultTold
  split
  · exact raises_one ..
  · exact .refl _ _

theorem visitTraced_raises :
    Raises ofTrace
      { s with trace := if tracedBy (s.station st).setup.policy v o
          then s.trace.taking (traceEntry r st v o p (s.station st).loop.trim) else s.trace }
      (visitTraced r st v o p s) := by
  unfold visitTraced
  rw [policyWrites_eq]
  split
  · exact writeTrace_raises ..
  · exact .refl _ _

/-- The visit is FINAL, its feeds are delivered and its outcome is counted (R58, R110, R119). -/
def State.outcomeCounted : State :=
  (overLanes (v.feeds.map FeedRecord.lane) (fun l s => s.modLane l (Lane.delivered r.seq))
    { s with queue := finishedQueue s.queue r.seq st o }).modStation st fun u => u.count o

/-- The acts of an outcome in their order (R59). -/
theorem fixOutcome_eq (h : outcomeOf v.strikes (s.station st).actuator = o) :
    fixOutcome r st v p s =
      retire (visitTraced r st v o p (faultTold o st r.seq (prepared v.strikes r st p (s.outcomeCounted r st v o)))) := by
  subst h
  rfl

theorem delivered_lane (seq : BitVec 16) (ls : List LaneId) (t : State) (l : LaneId) :
    (overLanes ls (fun l s => s.modLane l (Lane.delivered seq)) t).lane l =
      if l ∈ ls then (t.lane l).delivered seq else t.lane l := by
  unfold overLanes
  induction ls generalizing t with
  | nil => simp
  | cons x xs ih =>
    rw [List.foldl_cons, ih]
    by_cases hx : l = x
    · subst hx
      simp [Lane.delivered, List.filter_filter]
    · simp [hx, State.modLane_lane_of_ne t hx (Lane.delivered seq)]

theorem outcomeCounted_frame :
    ∃ lanes, s.outcomeCounted r st v o = { s with
      queue := finishedQueue s.queue r.seq st o, lanes := lanes,
      stations := s.stations.put st ((s.station st).count o) } := by
  obtain ⟨lanes, h⟩ := overLanes_modLane_frame (fun _ => Lane.delivered r.seq) (v.feeds.map FeedRecord.lane)
    { s with queue := finishedQueue s.queue r.seq st o }
  exact ⟨lanes, congrArg (fun t : State => t.modStation st fun u => u.count o) h⟩

theorem outcomeCounted_lane (l : LaneId) :
    (s.outcomeCounted r st v o).lane l =
      if ∃ f ∈ v.feeds, f.lane = l then (s.lane l).delivered r.seq else s.lane l := by
  have h := delivered_lane r.seq (v.feeds.map FeedRecord.lane) { s with queue := finishedQueue s.queue r.seq st o } l
  simp only [List.mem_map] at h
  exact h

end

theorem LabelRecord.allFinal_iff (r : LabelRecord) :
    r.allFinal = true ↔ ∀ st v, r.visit st = some v → v.state = .final := by
  unfold LabelRecord.allFinal
  rw [List.all_eq_true]
  refine ⟨fun h st v hv => ?_, fun h st _ => ?_⟩
  · have hst := h st (mem_allStations st)
    rw [hv] at hst
    simpa [Visit.open] using hst
  · cases hv : r.visit st with
    | none => rfl
    | some v => simp [Visit.open, h st v hv]

theorem exec_strikePoint (s : State) : exec .strikePoint s = .next (strikePoint s) := rfl

section

variable {s : State} {st : StationId} {r : LabelRecord} {v : Visit} {p : Pos} {o : VisitOutcome}

theorem strikePoint_eq (hn : s.Numbered) (hcap : s.Capacities) (hr : r ∈ s.queue) (hv : r.visit st = some v)
    (hopen : v.state ≠ .final) (hp : v.strikePt = some p)
    (hnext : nextThreshold s { pos := p, seq := r.seq, station := st, kind := .strike }) :
    strikePoint s = fixOutcome r st v p s := by
  have hcond : (v.open && reached s.ref.hw p) = true := by
    rw [Bool.and_eq_true]
    exact ⟨bne_iff_ne.mpr hopen, (reached_iff _ _).mpr hnext.1⟩
  unfold strikePoint
  rw [nextDue_eq hnext]
  dsimp only
  unfold strikeIfReached
  rw [hn.record?_eq hcap.queue hr]
  dsimp only
  rw [hv]
  dsimp only
  rw [hp]
  exact if_pos hcond

/-- The part when the outcome has been told, and nothing has retired yet. -/
def State.outcomeTold (s : State) (r : LabelRecord) (st : StationId) (v : Visit) (o : VisitOutcome) (p : Pos) : State :=
  visitTraced r st v o p (faultTold o st r.seq (prepared v.strikes r st p (s.outcomeCounted r st v o)))

/-- The trace queue when a visit's outcome has been traced as the policy asks. -/
def State.tracedWith (s : State) (r : LabelRecord) (st : StationId) (v : Visit) (o : VisitOutcome) (p : Pos) : TraceQueue :=
  if tracedBy (s.station st).setup.policy v o then s.trace.taking (traceEntry r st v o p (s.station st).loop.trim)
  else s.trace

theorem Raises.eq {told : EventKind → Prop} {s t : State} (h : Raises told s t) :
    t = { s with events := t.events, link := t.link } := by
  have hframe := congrArg (fun u : State => ({ u with events := t.events, link := t.link } : State)) h.frame
  exact hframe

theorem prepared_frame (hnd : (s.queue.map LabelRecord.seq).Nodup) :
    prepared v.strikes r st p (s.outcomeCounted r st v o) = { s with
      queue := finishedQueue s.queue r.seq st o, lanes := (s.outcomeCounted r st v o).lanes
      stations := s.stations.put st ((settled s r st v.strikes p).count o) } := by
  obtain ⟨lanes, hc⟩ := outcomeCounted_frame r st v o s
  have hst : (s.outcomeCounted r st v o).station st = (s.station st).count o := by
    rw [hc]
    exact PerStation.get_put_self ..
  rw [prepared_eq (s := s) (o := o) hnd (by rw [hc]) (by rw [hc]) hst, hc]
  unfold State.setStation
  dsimp only
  rw [PerStation.put_put]

theorem outcomeTold_frame (hnd : (s.queue.map LabelRecord.seq).Nodup) :
    ({ s.outcomeTold r st v o p with events := s.events, link := s.link } : State) = { s with
      queue := finishedQueue s.queue r.seq st o, lanes := (s.outcomeCounted r st v o).lanes
      stations := s.stations.put st ((settled s r st v.strikes p).count o), trace := s.tracedWith r st v o p } := by
  have htold := (faultTold_raises r st o (prepared v.strikes r st p (s.outcomeCounted r st v o))).eq
  have htraced := (visitTraced_raises r st v o p
    (faultTold o st r.seq (prepared v.strikes r st p (s.outcomeCounted r st v o)))).eq
  rw [prepared_frame hnd] at htold
  have hst : (faultTold o st r.seq (prepared v.strikes r st p (s.outcomeCounted r st v o))).station st =
      (settled s r st v.strikes p).count o := by
    rw [prepared_frame hnd, htold]
    exact PerStation.get_put_self ..
  obtain ⟨_, _, _, _, hsettled⟩ := settled_frame (s := s) (r := r) (st := st) (p := p) v.strikes
  have hsetup : ((settled s r st v.strikes p).count o).setup = (s.station st).setup := by
    rw [Station.count_setup, hsettled]
  have hloop : ((settled s r st v.strikes p).count o).loop = (s.station st).loop := by
    rw [Station.count_loop, hsettled]
  rw [hst, hsetup, hloop, prepared_frame hnd, htold] at htraced
  unfold State.outcomeTold
  rw [prepared_frame hnd, htold, htraced]
  rfl

theorem outcomeTold_strikeFault (hnd : (s.queue.map LabelRecord.seq).Nodup) (ho : o = .missed ∨ o = .marred) :
    (s.outcomeTold r st v o p).events.record .strikeFault =
        { unit := st.number, detail := r.seq.toNat, web := s.web } ∧
      EventKind.strikeFault.isIn (s.outcomeTold r st v o p).events.flags = true := by
  have htraced := visitTraced_raises r st v o p
    (faultTold o st r.seq (prepared v.strikes r st p (s.outcomeCounted r st v o)))
  have htold : faultTold o st r.seq (prepared v.strikes r st p (s.outcomeCounted r st v o)) =
      raiseEvent .strikeFault st.number r.seq.toNat (prepared v.strikes r st p (s.outcomeCounted r st v o)) := if_pos ho
  have hweb : (prepared v.strikes r st p (s.outcomeCounted r st v o)).web = s.web := by
    rw [prepared_frame hnd]
    rfl
  rw [htold] at htraced
  unfold State.outcomeTold
  rw [htold]
  refine ⟨(htraced.records .strikeFault (by simp [ofTrace])).trans ?_, htraced.flags .strikeFault ?_⟩
  · exact (raiseEvent_record_self ..).trans (by rw [hweb])
  · exact (raiseEvent_isIn ..).trans (by simp)

theorem afterRetirement_map (j : JobStore) {f : LabelRecord → LabelRecord} (hf : ∀ x, (f x).plan = x.plan)
    (gone : List LabelRecord) : afterRetirement j (gone.map f) = afterRetirement j gone := by
  have hplace (place : Option Plan) (x : LabelRecord) : ofPlace place (f x) = ofPlace place x := by
    unfold ofPlace
    rw [hf]
  simp only [afterRetirement_eq, List.countP_map, Function.comp_def, hplace]

end

end Sys2Proof.Machine

namespace Sys2Proof.Proofs

open Sys2Proof.Machine

/-- Settles O52, by the acts of an outcome in their order, and the retirement of the heads that are FINAL. -/
theorem strikePointFixesTheOutcome : Obligations.StrikePointFixesTheOutcome := by
  unfold Obligations.StrikePointFixesTheOutcome
  intro s st r v p hn hcap hr hv hopen hp hnext u strikes o up finished entry
  have hnd := hn.seqs_nodup hcap.queue
  have ho : outcomeOf v.strikes (s.station st).actuator = o := rfl
  have hframe := outcomeTold_frame (r := r) (st := st) (v := v) (p := p) (o := o) hnd
  obtain ⟨hret, hrest⟩ := retire_retires (s.outcomeTold r st v o p)
  have hfinished : (s.outcomeTold r st v o p).queue = finished := by
    have h := congrArg State.queue hframe
    exact h
  have hjob : (s.outcomeTold r st v o p).job = s.job := by
    have h := congrArg State.job hframe
    exact h
  have hweb : (s.outcomeTold r st v o p).web = s.web := by
    have h := congrArg State.web hframe
    exact h
  rw [hfinished] at hret hrest
  have hsplit := List.takeWhile_append_dropWhile (p := LabelRecord.allFinal) (l := finished)
  have hdrop : finished.drop (finished.takeWhile LabelRecord.allFinal).length =
      finished.dropWhile LabelRecord.allFinal :=
    (congrArg (List.drop _) hsplit.symm).trans List.drop_left
  have htake : finished.take (finished.takeWhile LabelRecord.allFinal).length =
      finished.takeWhile LabelRecord.allFinal :=
    (congrArg (List.take _) hsplit.symm).trans List.take_left
  have hexec : exec .strikePoint s = .next (retire (s.outcomeTold r st v o p)) := by
    rw [exec_strikePoint, strikePoint_eq hn hcap hr hv hopen hp hnext, fixOutcome_eq r st v o p s ho]
    rfl
  have hretired : { retire (s.outcomeTold r st v o p) with
      queue := s.queue, job := s.job, events := s.events, link := s.link } = ({ s with
      lanes := (s.outcomeCounted r st v o).lanes
      stations := s.stations.put st ((settled s r st strikes p).count o)
      trace := s.tracedWith r st v o p } : State) := by
    have h := congrArg (fun t : State => ({ t with
      queue := s.queue, job := s.job, events := s.events, link := s.link } : State)) hret.frame
    have h' := congrArg (fun t : State => ({ t with queue := s.queue, job := s.job } : State)) hframe
    exact h.trans h'
  refine ⟨_, (finished.takeWhile LabelRecord.allFinal).length, hexec, hrest.trans hdrop.symm, ?_, ?_, ?_, ?_, ?_, ?_, ?_,
    ?_, ?_, ?_⟩
  · intro x hx
    rw [htake] at hx
    exact x.allFinal_iff.mp (List.mem_takeWhile_imp hx)
  · intro x hx
    have hlive := retire_head _ x hx
    by_contra hall
    push Not at hall
    exact Bool.false_ne_true (hlive.symm.trans (x.allFinal_iff.mpr fun st' v' => hall st' v'))
  · have hgone : finished.takeWhile LabelRecord.allFinal =
        (s.queue.take (finished.takeWhile LabelRecord.allFinal).length).map fun x => if x.seq = r.seq then
          { x with visits := x.visits.put st ((x.visits.get st).map fun v =>
            { v with state := .final, outcome := some o }) } else x := htake.symm.trans List.map_take.symm
    rw [hret.job, hjob]
    refine (congrArg (afterRetirement s.job) hgone).trans (afterRetirement_map _ (fun x => ?_) _)
    split <;> rfl
  · intro hne
    have hended := hret.ended (hjob ▸ hne)
    rw [hjob, hweb] at hended
    exact hended
  · have h := congrArg (fun t : State => t.station st) hretired
    have hcount := Station.count_eq (o := o) (settled_frame (s := s) (r := r) (st := st) (p := p) strikes)
    exact h.trans ((PerStation.get_put_self ..).trans hcount)
  · intro st' hst'
    have h := congrArg (fun t : State => t.station st') hretired
    exact h.trans (PerStation.get_put_of_ne _ hst' _)
  · intro hwrong
    obtain ⟨hrecord, hin⟩ := outcomeTold_strikeFault (r := r) (st := st) (v := v) (p := p) hnd hwrong
    exact ⟨(hret.records .strikeFault (by decide)).trans hrecord, hret.flags .strikeFault hin⟩
  · intro l
    have h := congrArg (fun t : State => t.lane l) hretired
    exact h.trans (outcomeCounted_lane r st v o s l)
  · have h := congrArg State.trace hretired
    exact h
  · have h := congrArg (fun t : State => ({ t with stations := s.stations, lanes := s.lanes, trace := s.trace } : State))
      hretired
    exact h

end Sys2Proof.Proofs
end

section

/-!
## Feeds and the lane check

The feed a record asks of a lane (R120 to R123), the lane check (R124) and the strike decision (R52), each as the
statements about decisions spell it out.
-/

namespace Sys2Proof.Machine

section

variable {s : State} {r : LabelRecord} {l : LaneId} {p : Pos}

/-! ### Spans (R120) -/

theorem relStart_eq {motif : Nat} (h : (s.segmentsOf motif l).isEmpty = false) :
    relStart (s.lane l).set (s.segmentsOf motif l) = spanFirst s motif l := by
  have hfirst : spanFirst s motif l =
      (((s.segmentsOf motif l).head?.map fun g => (g.offset : Int)).getD 0) - (s.lane l).set.leadMargin := rfl
  rw [hfirst]
  cases hseg : s.segmentsOf motif l with
  | nil => simp [hseg] at h
  | cons g gs => rfl

theorem relEnd_eq {motif : Nat} (h : (s.segmentsOf motif l).isEmpty = false) :
    relEnd (s.lane l).set (s.segmentsOf motif l) = spanLast s motif l := by
  have hlast : spanLast s motif l =
      (((s.segmentsOf motif l).getLast?.map fun g => (g.offset : Int) + g.length).getD 0) +
        (s.lane l).set.tailMargin := rfl
  rw [hlast]
  unfold relEnd
  cases hseg : (s.segmentsOf motif l).getLast? with
  | none =>
    rw [List.getLast?_eq_none_iff] at hseg
    simp [hseg] at h
  | some g => rfl

/-! ### The planned gap (R121) -/

theorem planOf_eq (s : State) (id : Nat) :
    s.planOf id = (s.job.active.toList ++ s.job.draining.toList).find? fun plan => plan.id == id := by
  unfold State.planOf
  have hdraining : s.job.draining.filter (fun p => p.id == id) =
      s.job.draining.toList.find? fun plan => plan.id == id := by
    cases s.job.draining with
    | none => rfl
    | some d => cases hd : d.id == id <;> simp [Option.filter, hd]
  rw [List.find?_append, ← hdraining]
  cases s.job.active with
  | none => rfl
  | some a => by_cases ha : a.id = id <;> simp [ha]

/-- The slot a walk along a plan reads, the plan taken round. -/
def slotAt (slots : List PlanSlot) (j : Nat) : PlanSlot := (slots[j % slots.length]?).getD { pitch := 0, motif := 0 }

theorem gapWalk_eq {slots : List PlanSlot} (hn : 0 < slots.length) (fuel j p : Nat) :
    gapWalk s slots l fuel j p =
      ((List.range fuel).find? fun k => !(s.segmentsOf (slotAt slots (j + k)).motif l).isEmpty).map fun k =>
        (p + ((List.range k).map fun i => (slotAt slots (j + i)).pitch).sum, (slotAt slots (j + k)).motif) := by
  induction fuel generalizing j p with
  | zero => rfl
  | succ fuel ih =>
    have hslot : slots[j % slots.length]? = some (slotAt slots j) := by
      unfold slotAt
      rw [List.getElem?_eq_getElem (Nat.mod_lt j hn), Option.getD_some]
    unfold gapWalk
    rw [hslot]
    dsimp only
    rw [List.range_succ_eq_map, List.find?_cons, Nat.add_zero]
    cases hseg : (s.segmentsOf (slotAt slots j).motif l).isEmpty with
    | false => simp
    | true =>
      have hstep (k : Nat) : j + 1 + k = j + (k + 1) := by omega
      rw [if_pos rfl, ih, List.find?_map]
      simp only [Bool.not_true, Option.map_map, Function.comp_def, hstep, Nat.succ_eq_add_one,
        List.range_succ_eq_map, List.map_cons, List.map_map, List.sum_cons, Nat.add_zero, Nat.add_assoc]

theorem plannedGap_eq (h : (s.segmentsOf r.motif l).isEmpty = false) : s.plannedGap r l = gapAfter s r l := by
  unfold State.plannedGap gapAfter
  rw [planOf_eq]
  cases (s.job.active.toList ++ s.job.draining.toList).find? fun plan => plan.id == r.plan with
  | none => rfl
  | some plan =>
    dsimp only
    by_cases hn : plan.slots.length ≤ r.slot
    · rw [List.getElem?_eq_none hn]
      simp only [if_pos hn]
      split <;> rfl
    · have hlt : r.slot < plan.slots.length := Nat.lt_of_not_le hn
      have hpos : 0 < plan.slots.length := Nat.zero_lt_of_lt hlt
      have hown : plan.slots[r.slot]? = some (slotAt plan.slots r.slot) := by
        unfold slotAt
        rw [Nat.mod_eq_of_lt hlt, List.getElem?_eq_getElem hlt, Option.getD_some]
      have hstep (k : Nat) : r.slot + 1 + k = r.slot + (k + 1) := by omega
      have hsegs (j : Nat) : (s.motif (slotAt plan.slots (r.slot + (j + 1))).motif).segments.get l =
          s.segmentsOf (slotAt plan.slots (r.slot + (j + 1))).motif l := rfl
      have hslot (j : Nat) : (plan.slots[(r.slot + j) % plan.slots.length]?).getD { pitch := 0, motif := 0 } =
          slotAt plan.slots (r.slot + j) := rfl
      rw [hown]
      dsimp only
      rw [gapWalk_eq hpos]
      simp only [if_neg hn, hslot, hsegs, hstep]
      cases hfind : (List.range plan.slots.length).find? fun j =>
          !(s.segmentsOf (slotAt plan.slots (r.slot + (j + 1))).motif l).isEmpty with
      | none => rfl
      | some j =>
        have hfound : (s.segmentsOf (slotAt plan.slots (r.slot + (j + 1))).motif l).isEmpty = false := by
          simpa using List.find?_some hfind
        rw [Option.map_some]
        dsimp only
        rw [relStart_eq hfound, relEnd_eq h, List.range_succ_eq_map]
        simp [Function.comp_def]

/-! ### The feed (R120, R122, R123) -/

theorem followFor_eq (set : LaneSettings) (speed : Nat) (gap : Int) :
    followFor set speed gap = if (decide ((set.jumpThreshold : Int) ≤ gap) &&
      decide (((speed * set.jumpMs + 9) / 10 : Nat) ≤ gap)) = true then .jump else .run := by
  refine if_congr ?_ rfl rfl
  rw [Bool.and_eq_true, decide_eq_true_iff, decide_eq_true_iff]
  exact max_le_iff

theorem Lane.overlap_eq (c : Lane) (start : Pos) :
    c.overlap start = (match c.lastFeed with
      | some f => if f.follow = .run then max 0 (sdiff f.endPos start) else 0
      | none => 0) := by
  unfold Lane.overlap
  cases c.lastFeed with
  | none => rfl
  | some f => cases hf : f.follow <;> simp [hf]

theorem feedPlan_eq (h : (s.segmentsOf r.motif l).isEmpty = false) : s.feedPlan r p l = feedOf s r p l := by
  unfold State.feedPlan feedOf
  dsimp only
  rw [relStart_eq h, relEnd_eq h, plannedGap_eq h, followFor_eq, Lane.overlap_eq]
  by_cases hj : (decide (((s.lane l).set.jumpThreshold : Int) ≤ gapAfter s r l) &&
      decide (((s.ref.speed * (s.lane l).set.jumpMs + 9) / 10 : Nat) ≤ gapAfter s r l)) = true
  · simp only [if_pos hj, Int.add_zero] <;> rfl
  · simp only [if_neg hj] <;> rfl

/-! ### The lane check (R124) -/

theorem concerned_eq (s : State) (st : StationId) (motif : Nat) : s.concerned st motif = concernedLanes s st motif := by
  unfold State.concerned State.lanesOf concernedLanes
  rw [List.filter_filter]
  refine List.filter_congr fun l _ => ?_
  rw [Bool.and_comm]
  rfl

theorem mem_concernedLanes {st : StationId} {motif : Nat} : l ∈ concernedLanes s st motif ↔
    (s.lane l).station = some st ∧ (s.segmentsOf motif l).isEmpty = false := by
  have hseg : ((s.motif motif).segments.get l).isEmpty = (s.segmentsOf motif l).isEmpty := rfl
  unfold concernedLanes
  rw [List.mem_filter, Bool.and_eq_true, beq_iff_eq, hseg, Bool.not_eq_true']
  exact and_iff_right (mem_allLanes l)

/-- A lane concerned is asked for the feed of its span. -/
theorem feedPlan_concerned {st : StationId} (h : l ∈ concernedLanes s st r.motif) :
    s.feedPlan r p l = feedOf s r p l := feedPlan_eq (mem_concernedLanes.mp h).2

theorem any_congr_mem {α : Type} {xs : List α} {f g : α → Bool} (h : ∀ x ∈ xs, f x = g x) : xs.any f = xs.any g := by
  induction xs with
  | nil => rfl
  | cons x xs ih =>
    rw [List.any_cons, List.any_cons, h x List.mem_cons_self, ih fun y hy => h y (List.mem_cons_of_mem x hy)]

theorem laneCheck_eq (s : State) (st : StationId) (r : LabelRecord) (p : Pos) :
    s.laneCheck st r p = laneReason s r st p := by
  have hout : (concernedLanes s st r.motif).any (fun l => (s.lane l).outFails (s.feedPlan r p l)) =
      (concernedLanes s st r.motif).any fun l => (s.lane l).state == .empty ||
        tooShort (s.lane l) (feedOf s r p l) := any_congr_mem fun l hl => by
    rw [feedPlan_concerned hl]
    rfl
  have hlate : (concernedLanes s st r.motif).any
        (fun l => (s.lane l).lateFails s.ref.hw s.ref.speed (s.feedPlan r p l)) =
      (concernedLanes s st r.motif).any fun l => tooLate s (s.lane l) (feedOf s r p l) := any_congr_mem fun l hl => by
    rw [feedPlan_concerned hl]
    rfl
  unfold State.laneCheck laneReason
  dsimp only
  rw [concerned_eq, hout, hlate]
  rfl

theorem inMotif_eq (s : State) (st : StationId) (motif : Nat) : s.inMotif st motif = actsAt s motif st := by
  unfold State.inMotif actsAt
  rw [concerned_eq]
  cases (s.station st).setup.kind <;> rfl

theorem impressionLate_eq (s : State) (st : StationId) (p : Pos) :
    s.impressionLate st p = ((s.station st).actuator != .engaged && (s.station st).actuator != .engaging &&
      decide (sdiff p s.ref.hw < ((s.ref.speed * (s.station st).setup.engageMs + 9) / 10 : Nat))) := rfl

end

end Sys2Proof.Machine
end

section

/-!
## What raises tell, and lanes that act in turn

The event set after a list of raises (R180), the lanes of a station that act one after the other (R125, R126, R127), and
the handing over of a mark to the register loop, which is the same wherever the station's readings are (R70, R72, R76).
-/

namespace Sys2Proof.Machine

/-! ### Lists of raises (R180) -/

/-- A raise. -/
structure Raise where
  kind : EventKind
  unit : Nat
  detail : Nat

/-- The latest-raise record of a kind after a list of raises. -/
def recordAfter (k : EventKind) (web : Pos) (raised : List Raise) (old : RaiseRecord) : RaiseRecord :=
  raised.foldl (fun old x => if x.kind = k then { unit := x.unit, detail := x.detail, web := web } else old) old

theorem recordAfter_append (k : EventKind) (web : Pos) (a b : List Raise) (old : RaiseRecord) :
    recordAfter k web (a ++ b) old = recordAfter k web b (recordAfter k web a old) := List.foldl_append ..

theorem recordAfter_other {k : EventKind} {raised : List Raise} (h : ∀ x ∈ raised, x.kind ≠ k) (web : Pos)
    (old : RaiseRecord) : recordAfter k web raised old = old := by
  induction raised with
  | nil => rfl
  | cons x raised ih =>
    have hcons : recordAfter k web (x :: raised) old = recordAfter k web raised old :=
      congrArg (recordAfter k web raised) (if_neg (h x List.mem_cons_self))
    rw [hcons, ih fun y hy => h y (List.mem_cons_of_mem x hy)]

/-- The event set tells of the raises of a list. -/
structure Tells (raised : List Raise) (s t : State) : Prop where
  record : ∀ k, t.events.record k = recordAfter k s.web raised (s.events.record k)
  flags : ∀ k : EventKind, k.isIn t.events.flags = (k.isIn s.events.flags || raised.any fun x => x.kind == k)

theorem Tells.nothing {s t : State} (h : t.events = s.events) : Tells [] s t where
  record _ := by
    rw [h]
    rfl
  flags _ := by
    rw [h, List.any_nil, Bool.or_false]

theorem Tells.one (k : EventKind) (unit detail : Nat) (s : State) :
    Tells [{ kind := k, unit, detail }] s (raiseEvent k unit detail s) where
  record j := by
    by_cases hj : j = k
    · subst hj
      rw [raiseEvent_record_self]
      exact (if_pos rfl).symm
    · rw [raiseEvent_record_of_ne k unit detail s hj]
      exact (if_neg fun h => hj (Eq.symm h)).symm
  flags j := by
    have hcomm : (j == k) = (k == j) := Bool.beq_comm
    rw [raiseEvent_isIn, List.any_cons, List.any_nil, Bool.or_false, hcomm]

theorem Tells.trans {a b : List Raise} {s t u : State} (h : Tells a s t) (h' : Tells b t u) (hweb : t.web = s.web) :
    Tells (a ++ b) s u where
  record k := by
    rw [h'.record, h.record, hweb, recordAfter_append]
  flags k := by
    rw [h'.flags, h.flags, List.any_append, Bool.or_assoc]

theorem Tells.congr {raised : List Raise} {s s' t t' : State} (h : Tells raised s t) (hs : s'.events = s.events)
    (hweb : s'.web = s.web) (ht : t'.events = t.events) : Tells raised s' t' where
  record k := by
    rw [ht, hs, hweb]
    exact h.record k
  flags k := by
    rw [ht, hs]
    exact h.flags k

theorem Tells.quiet {raised : List Raise} {s t : State} (h : Tells raised s t) {k : EventKind}
    (hk : ∀ x ∈ raised, x.kind ≠ k) :
    t.events.record k = s.events.record k ∧ k.isIn t.events.flags = k.isIn s.events.flags := by
  refine ⟨(h.record k).trans (recordAfter_other hk ..), ?_⟩
  have hnone : (raised.any fun x => x.kind == k) = false :=
    List.any_eq_false.mpr fun x hx => by simpa using hk x hx
  rw [h.flags, hnone, Bool.or_false]

/-- The last raise of a kind is the one its record keeps. -/
theorem Tells.last {raised after : List Raise} {x : Raise} {s t : State} (h : Tells (raised ++ x :: after) s t)
    (hafter : ∀ y ∈ after, y.kind ≠ x.kind) :
    x.kind.isIn t.events.flags = true ∧
      t.events.record x.kind = { unit := x.unit, detail := x.detail, web := s.web } := by
  refine ⟨?_, ?_⟩
  · rw [h.flags, List.any_append, List.any_cons, beq_self_eq_true, Bool.true_or, Bool.or_true, Bool.or_true]
  · have hcons : recordAfter x.kind s.web (x :: after) (recordAfter x.kind s.web raised (s.events.record x.kind)) =
        recordAfter x.kind s.web after { unit := x.unit, detail := x.detail, web := s.web } :=
      congrArg (recordAfter x.kind s.web after) (if_pos rfl)
    rw [h.record, recordAfter_append, hcons, recordAfter_other hafter]

/-! ### Lanes in their order -/

theorem allLanes_ordered : allLanes.Pairwise fun l l' => l.number < l'.number := by decide

/-- The acts of lanes in lane order end with that of the highest-numbered that raises. -/
theorem flatMap_highest {ls : List LaneId} (hls : ls.Pairwise fun l l' => l.number < l'.number) {l : LaneId} (hl : l ∈ ls)
    {raises : LaneId → List Raise} {x : Raise} (hx : raises l = [x])
    (hmax : ∀ l' ∈ ls, l.number < l'.number → raises l' = []) : ∃ before, ls.flatMap raises = before ++ [x] := by
  obtain ⟨before, after, rfl⟩ := List.append_of_mem hl
  have hafter : after.flatMap raises = [] := List.flatMap_eq_nil_iff.mpr fun l' hl' =>
    hmax l' (by simp [hl']) ((List.pairwise_cons.mp (List.pairwise_append.mp hls).2.1).1 l' hl')
  refine ⟨before.flatMap raises, ?_⟩
  rw [List.flatMap_append, List.flatMap_cons, hx, hafter, List.append_nil]

/-- A station with FOIL_OUT added, when it is enabled and a lane calls for it (R94, R125). -/
def Station.emptiedBy (u : Station) (b : Bool) : Station :=
  { u with hold := { u.hold with foilOut := u.hold.foilOut || (u.setup.enabled && b) } }

theorem Station.emptiedBy_emptiedBy (u : Station) (a b : Bool) :
    (u.emptiedBy a).emptiedBy b = u.emptiedBy (a || b) := by
  unfold Station.emptiedBy
  dsimp only
  rw [Bool.or_assoc, ← Bool.and_or_distrib_left]

theorem Station.emptiedBy_false (u : Station) : u.emptiedBy false = u := by
  unfold Station.emptiedBy
  rw [Bool.and_false, Bool.or_false]

/-- Some lanes of a station have acted: each changed, what each raises told, and FOIL_OUT added for those that call for
it. -/
structure LanesAct (st : StationId) (ls : List LaneId) (g : LaneId → Lane → Lane) (raises : LaneId → Lane → List Raise)
    (empties : LaneId → Lane → Bool) (s t : State) : Prop where
  lane : ∀ l, t.lane l = if l ∈ ls then g l (s.lane l) else s.lane l
  stations : t.stations = s.stations.put st ((s.station st).emptiedBy (ls.any fun l => empties l (s.lane l)))
  tells : Tells (ls.flatMap fun l => raises l (s.lane l)) s t
  frame : { t with lanes := s.lanes, stations := s.stations, events := s.events, link := s.link } = s

section

variable {st : StationId} {g : LaneId → Lane → Lane} {raises : LaneId → Lane → List Raise}
  {empties : LaneId → Lane → Bool}

theorem LanesAct.nothing (s : State) : LanesAct st [] g raises empties s s where
  lane l := (if_neg (List.not_mem_nil)).symm
  stations := by
    rw [List.any_nil, Station.emptiedBy_false]
    exact (PerStation.put_get s.stations st).symm
  tells := .nothing rfl
  frame := rfl

theorem LanesAct.ref {ls : List LaneId} {s t : State} (h : LanesAct st ls g raises empties s t) : t.ref = s.ref := by
  have hframe := congrArg State.ref h.frame
  exact hframe

theorem LanesAct.cons {l : LaneId} {ls : List LaneId} {s t u : State} (hl : l ∉ ls)
    (h : LanesAct st [l] g raises empties s t) (h' : LanesAct st ls g raises empties t u) :
    LanesAct st (l :: ls) g raises empties s u := by
  have hkept (x : LaneId) (hx : x ∈ ls) : t.lane x = s.lane x := by
    rw [h.lane, if_neg]
    exact fun hin => hl (List.mem_singleton.mp hin ▸ hx)
  have hself : t.lane l = g l (s.lane l) := by
    rw [h.lane, if_pos List.mem_cons_self]
  refine ⟨fun x => ?_, ?_, ?_, ?_⟩
  · rw [h'.lane]
    by_cases hx : x ∈ ls
    · rw [if_pos hx, if_pos (List.mem_cons_of_mem l hx), hkept x hx]
    · rw [if_neg hx]
      by_cases hxl : x = l
      · subst hxl
        rw [hself, if_pos List.mem_cons_self]
      · rw [h.lane, if_neg (by simpa using hxl), if_neg (by simp [hx, hxl])]
  · have hst : t.station st = (s.station st).emptiedBy (empties l (s.lane l)) := by
      have hput := congrArg (fun p : PerStation Station => p.get st) h.stations
      rw [List.any_cons, List.any_nil, Bool.or_false] at hput
      exact hput.trans (PerStation.get_put_self ..)
    have hany : (ls.any fun x => empties x (t.lane x)) = ls.any fun x => empties x (s.lane x) :=
      any_congr_mem fun x hx => by rw [hkept x hx]
    rw [h'.stations, h.stations, PerStation.put_put, hst, Station.emptiedBy_emptiedBy, hany]
    rfl
  · have hraises : (ls.flatMap fun x => raises x (t.lane x)) = ls.flatMap fun x => raises x (s.lane x) :=
      List.flatMap_congr fun x hx => by rw [hkept x hx]
    have hweb : t.web = s.web := congrArg Reference.web h.ref
    have htells := h.tells.trans h'.tells hweb
    rw [hraises] at htells
    simpa using htells
  · have hframe := congrArg (fun x : State => ({ x with
      lanes := s.lanes, stations := s.stations, events := s.events, link := s.link } : State)) h'.frame
    exact hframe.trans h.frame

/-- Lanes act one after the other, each as it would alone. -/
theorem lanesAct_foldl {act : LaneId → State → State} {ref : Reference}
    (hact : ∀ l s, s.ref = ref → LanesAct st [l] g raises empties s (act l s)) {ls : List LaneId} (hnd : ls.Nodup)
    {s : State} (hs : s.ref = ref) : LanesAct st ls g raises empties s (ls.foldl (fun s l => act l s) s) := by
  induction ls generalizing s with
  | nil => exact .nothing s
  | cons l ls ih =>
    obtain ⟨hl, hls⟩ := List.nodup_cons.mp hnd
    have hone := hact l s hs
    exact hone.cons hl (ih hls (hone.ref.trans hs))

end

/-! ### The commit of a feed (R126, R130) -/

/-- A commit takes the lane's foil below the threshold, unwarned (R130). -/
def lowers (c : Lane) (f : FeedPlan) : Bool :=
  !c.lowWarned && decide (c.loaded - (c.used + f.counted) < c.set.lowThreshold)

/-- What a commit raises. -/
def lowRaise (f : LaneId → FeedPlan) (l : LaneId) (c : Lane) : List Raise :=
  if lowers c (f l) then
    [{ kind := .foilLow, unit := l.number, detail := min 65535 ((c.loaded - (c.used + (f l).counted)) / 100000) }]
  else []

theorem sat32_eq (n : Nat) : sat32 n = min 4294967295 n := Nat.min_comm ..

theorem Lane.commit_eq (c : Lane) (seq : BitVec 16) (f : FeedPlan) :
    ({ c.commit seq f with
      lowWarned := c.lowWarned || decide (c.loaded - (c.used + f.counted) < c.set.lowThreshold) } : Lane) =
      fed c seq f := by
  unfold Lane.commit fed
  simp only [sat32_eq, bump32_eq]
  rfl

theorem fed_of_lowers {c : Lane} {f : FeedPlan} (h : lowers c f = true) (seq : BitVec 16) :
    ({ c.commit seq f with lowWarned := true } : Lane) = fed c seq f := by
  have hlow : (c.lowWarned || decide (c.loaded - (c.used + f.counted) < c.set.lowThreshold)) = true := by
    rw [(Bool.and_eq_true_iff.mp h).2, Bool.or_true]
  rw [← Lane.commit_eq, hlow]

theorem fed_of_not_lowers {c : Lane} {f : FeedPlan} (h : lowers c f = false) (seq : BitVec 16) :
    c.commit seq f = fed c seq f := by
  have hlow : (c.lowWarned || decide (c.loaded - (c.used + f.counted) < c.set.lowThreshold)) = c.lowWarned := by
    unfold lowers at h
    cases hw : c.lowWarned with
    | true => rfl
    | false => simpa [hw] using h
  rw [← Lane.commit_eq, hlow]
  rfl

theorem commitFeed_eq (seq : BitVec 16) (f : FeedPlan) (l : LaneId) (s : State) :
    commitFeed seq f l s =
      if lowers (s.lane l) f then
        raiseEvent .foilLow l.number (min 65535 (((s.lane l).loaded - ((s.lane l).used + f.counted)) / 100000))
          (s.modLane l fun c => fed c seq f)
      else s.modLane l fun c => fed c seq f := by
  have hiff : lowers (s.lane l) f = true ↔ ((s.lane l).commit seq f).lowWarned = false ∧
      ((s.lane l).commit seq f).remaining < ((s.lane l).commit seq f).set.lowThreshold := by
    unfold lowers
    rw [Bool.and_eq_true, Bool.not_eq_true', decide_eq_true_iff]
    exact .rfl
  unfold commitFeed lowSpoolTest
  dsimp only
  rw [State.modLane_lane]
  by_cases h : lowers (s.lane l) f = true
  · have hfed : (s.modLane l fun u => u.commit seq f).modLane l (fun u => { u with lowWarned := true }) =
        s.modLane l fun c => fed c seq f :=
      (State.modLane_setLane ..).trans (congrArg (s.setLane l) (fed_of_lowers h seq))
    rw [if_pos (hiff.mp h), if_pos h, sat16_eq, hfed]
    rfl
  · have hfed : (s.modLane l fun u => u.commit seq f) = s.modLane l fun c => fed c seq f :=
      congrArg (s.setLane l) (fed_of_not_lowers (Bool.eq_false_iff.mpr h) seq)
    rw [if_neg (mt hiff.mpr h), if_neg h, hfed]

/-- One lane changed, with no station touched. -/
theorem lanesAct_modLane (st : StationId) (l : LaneId) (f : Lane → Lane) (s : State) :
    LanesAct st [l] (fun _ => f) (fun _ _ => []) (fun _ _ => false) s (s.modLane l f) where
  lane l' := by
    by_cases h : l' = l
    · subst h
      rw [State.modLane_lane, if_pos List.mem_cons_self]
    · rw [State.modLane_lane_of_ne s h, if_neg (by simpa using h)]
  stations := by
    rw [List.any_cons, List.any_nil, Bool.or_false, Station.emptiedBy_false]
    exact (PerStation.put_get s.stations st).symm
  tells := .nothing rfl
  frame := rfl

section

variable {st : StationId} {l : LaneId} {g : LaneId → Lane → Lane} {s t : State}

/-- One lane changed raises one event more. -/
theorem LanesAct.raised {empties : LaneId → Lane → Bool} (h : LanesAct st [l] g (fun _ _ => []) empties s t)
    (k : EventKind) (unit detail : Nat) :
    LanesAct st [l] g (fun _ _ => [{ kind := k, unit, detail }]) empties s (raiseEvent k unit detail t) where
  lane l' := by
    rw [raiseEvent_lane, h.lane]
  stations := by
    rw [raiseEvent_stations, h.stations]
  tells := by
    have hweb : t.web = s.web := congrArg Reference.web h.ref
    exact h.tells.trans (.one ..) hweb
  frame := by
    obtain ⟨_, _, hframe⟩ := raiseEvent_frame k unit detail t
    rw [hframe]
    exact h.frame

/-- One lane's acts, as they stand for the lane that it is. -/
theorem LanesAct.congr {g' : LaneId → Lane → Lane} {raises raises' : LaneId → Lane → List Raise}
    {empties empties' : LaneId → Lane → Bool} (h : LanesAct st [l] g raises empties s t)
    (hg : g' l (s.lane l) = g l (s.lane l)) (hr : raises' l (s.lane l) = raises l (s.lane l))
    (he : empties' l (s.lane l) = empties l (s.lane l)) : LanesAct st [l] g' raises' empties' s t where
  lane l' := by
    rw [h.lane]
    by_cases hl : l' = l
    · subst hl
      rw [if_pos List.mem_cons_self, if_pos List.mem_cons_self, hg]
    · rw [if_neg (by simpa using hl), if_neg (by simpa using hl)]
  stations := by
    have hstations := h.stations
    rw [List.any_cons, List.any_nil] at hstations ⊢
    rw [hstations, he]
  tells := by
    have htells := h.tells
    rw [List.flatMap_singleton] at htells ⊢
    rw [hr]
    exact htells
  frame := h.frame

end

theorem commitFeed_acts (st : StationId) (seq : BitVec 16) (f : LaneId → FeedPlan) (l : LaneId) (s : State) :
    LanesAct st [l] (fun l c => fed c seq (f l)) (lowRaise f) (fun _ _ => false) s (commitFeed seq (f l) l s) := by
  have hfed := lanesAct_modLane st l (fun c => fed c seq (f l)) s
  rw [commitFeed_eq]
  by_cases h : lowers (s.lane l) (f l) = true
  · rw [if_pos h]
    exact (hfed.raised ..).congr rfl (if_pos h) rfl
  · rw [if_neg h]
    exact hfed.congr rfl (if_neg h) rfl

/-! ### A failed check (R125) -/

theorem Lane.park_eq (c : Lane) (web : Pos) (state : LaneState) :
    ({ c.park web with state := state } : Lane) = sentPark c web state := by
  unfold Lane.park sentPark parkCommand
  cases hf : c.lastFeed <;> rfl

theorem addSoft_emptiedBy (st : StationId) (s : State) :
    addSoft .foilOut st s = s.setStation st ((s.station st).emptiedBy true) := by
  unfold addSoft
  by_cases he : s.enabled st = true
  · have hbool : (s.station st).setup.enabled = true := he
    rw [if_pos he]
    unfold Station.emptiedBy
    rw [hbool, Bool.and_true, Bool.or_true]
    rfl
  · have hbool : (s.station st).setup.enabled = false := Bool.eq_false_iff.mpr he
    rw [if_neg he]
    unfold Station.emptiedBy
    rw [hbool, Bool.false_and, Bool.or_false]
    exact (State.modStation_id s st).symm

/-- A lane late for its feed, counted. -/
def lateCounted (s : State) (f : FeedPlan) (c : Lane) : Lane :=
  { c with late := if tooLate s c f then min 65535 (c.late + 1) else c.late }

theorem checkFailed_eq (st : StationId) (seq : BitVec 16) (f : FeedPlan) (l : LaneId) (s : State) :
    checkFailed st seq f l s =
      if emptied (s.lane l) f then
        addSoft .foilOut st (raiseEvent .foilOut l.number seq.toNat (s.modLane l fun c => failed s c f))
      else s.modLane l fun c => failed s c f := by
  have hlate : (if (s.lane l).lateFails s.ref.hw s.ref.speed f then s.modLane l fun u => { u with late := bump16 u.late }
      else s) = s.modLane l (lateCounted s f) := by
    by_cases h : tooLate s (s.lane l) f = true
    · refine (if_pos h).trans (congrArg (s.setLane l) ?_)
      rw [lateCounted, if_pos h, ← bump16_eq]
    · have hsame : lateCounted s f (s.lane l) = s.lane l := by
        rw [lateCounted, if_neg h]
      refine (if_neg h).trans ?_
      rw [State.modLane, hsame]
      exact (congrArg (fun lanes => ({ s with lanes := lanes } : State)) (PerLane.put_get ..)).symm
  unfold checkFailed
  dsimp only
  rw [hlate]
  by_cases h : emptied (s.lane l) f = true
  · have hfailed : (s.modLane l (lateCounted s f)).modLane l (fun u => { u.park s.web with state := .empty }) =
        s.modLane l fun c => failed s c f :=
      (State.modLane_setLane ..).trans (congrArg (s.setLane l) ((Lane.park_eq ..).trans (if_pos h).symm))
    rw [if_pos h, ← hfailed]
    exact if_pos h
  · have hfailed : s.modLane l (lateCounted s f) = s.modLane l fun c => failed s c f :=
      congrArg (s.setLane l) (if_neg h).symm
    rw [if_neg h, hfailed]
    exact if_neg h

/-- What a failed check raises. -/
def emptiedRaise (f : LaneId → FeedPlan) (seq : BitVec 16) (l : LaneId) (c : Lane) : List Raise :=
  if emptied c (f l) then [{ kind := .foilOut, unit := l.number, detail := seq.toNat }] else []

theorem failed_congr {s t : State} (h : t.ref = s.ref) (c : Lane) (f : FeedPlan) : failed t c f = failed s c f := by
  have hweb : t.web = s.web := congrArg Reference.web h
  have hlate : tooLate t c f = tooLate s c f := by
    unfold tooLate
    rw [h]
  unfold failed
  rw [hweb, hlate]

theorem checkFailed_acts (st : StationId) (seq : BitVec 16) (f : LaneId → FeedPlan) {s t : State} (h : t.ref = s.ref)
    (l : LaneId) :
    LanesAct st [l] (fun l c => failed s c (f l)) (emptiedRaise f seq) (fun l c => emptied c (f l)) t
      (checkFailed st seq (f l) l t) := by
  have hfailed := lanesAct_modLane st l (fun c => failed t c (f l)) t
  rw [checkFailed_eq]
  by_cases he : emptied (t.lane l) (f l) = true
  · rw [if_pos he, addSoft_emptiedBy]
    have hraised := hfailed.raised .foilOut l.number seq.toNat
    have hst : (raiseEvent .foilOut l.number seq.toNat (t.modLane l fun c => failed t c (f l))).station st =
        t.station st := raiseEvent_station ..
    refine LanesAct.congr (g := fun _ c => failed t c (f l)) (raises := fun _ _ => [_]) (empties := fun _ _ => true)
      ⟨hraised.lane, ?_, hraised.tells.congr rfl rfl rfl, ?_⟩ (failed_congr h ..).symm (if_pos he) he
    · rw [hst]
      exact congrArg (fun p : PerStation Station => p.put st ((t.station st).emptiedBy true)) (raiseEvent_stations ..)
    · exact hraised.frame
  · rw [if_neg he]
    exact hfailed.congr (failed_congr h ..).symm (if_neg he) (Bool.eq_false_iff.mpr he)

/-! ### The idle run (R127, R128) -/

theorem Lane.countIdle_eq (c : Lane) (web : Pos) : c.countIdle web = idled c web := by
  unfold Lane.countIdle idled
  dsimp only
  by_cases h : min 16 (c.idleRun + 1) = c.set.parkAfter ∧ c.set.parkAfter ≠ 0 ∧ c.state = .active
  · rw [if_pos h, if_pos h, Lane.park_eq]
  · rw [if_neg h, if_neg h]

theorem countIdle_lane {ls : List LaneId} (hnd : ls.Nodup) (s : State) (l : LaneId) :
    (countIdle ls s).lane l = if l ∈ ls then idled (s.lane l) s.web else s.lane l := by
  unfold countIdle
  rw [overLanes_web (fun web u => u.countIdle web), overLanes_modLane_lane _ hnd, Lane.countIdle_eq]

theorem countIdle_frame (ls : List LaneId) (s : State) : ∃ lanes, countIdle ls s = { s with lanes := lanes } :=
  overLanes_modLane_frame (fun s u => u.countIdle s.web) ls s

end Sys2Proof.Machine
end

section

/-!
## Marks handed to the register loop, alike

What the handing over of a mark does depends on the station's loop, unusable run, MARKS_LOST and setup and on HW alone
(R70, R72, R76 to R82): two states that agree in those take the same change.
-/

namespace Sys2Proof.Machine

/-- What a station's register unit makes of the loop, the run and MARKS_LOST, of the visits at the station, and of the
event set. -/
structure Handing where
  loop : RegLoop
  unusable : Nat
  marksLost : Bool
  change : BitVec 16 → Visit → Visit
  raised : List Raise

/-- A handing touches the register fields of visits alone, by what those hold, and raises register events. -/
structure Handing.OfRegister (h : Handing) : Prop where
  fields : ∀ n v, { h.change n v with error := v.error, regFlags := v.regFlags } = v
  alike : ∀ n v v', v.error = v'.error → v.regFlags = v'.regFlags →
    (h.change n v).error = (h.change n v').error ∧ (h.change n v).regFlags = (h.change n v').regFlags
  kinds : ∀ x ∈ h.raised, x.kind = .marksLost ∨ x.kind = .dieSlip ∨ x.kind = .trimSaturated

def Station.handed (u : Station) (h : Handing) : Station :=
  { u with loop := h.loop, unusable := h.unusable, hold := { u.hold with marksLost := h.marksLost } }

/-- A queue with each visit at a station changed. -/
def visitsAt (q : List LabelRecord) (st : StationId) (change : BitVec 16 → Visit → Visit) : List LabelRecord :=
  q.map fun x => { x with visits := x.visits.put st ((x.visits.get st).map (change x.seq)) }

/-- One state becomes another by a handing. -/
structure Hands (h : Handing) (st : StationId) (s t : State) : Prop where
  queue : t.queue = visitsAt s.queue st h.change
  stations : t.stations = s.stations.put st ((s.station st).handed h)
  tells : Tells h.raised s t
  frame : { t with queue := s.queue, stations := s.stations, events := s.events, link := s.link } = s

/-- A state reads as another to the register unit of a station. -/
structure Reads (st : StationId) (s d : State) : Prop where
  loop : (d.station st).loop = (s.station st).loop
  unusable : (d.station st).unusable = (s.station st).unusable
  marksLost : (d.station st).hold.marksLost = (s.station st).hold.marksLost
  setup : (d.station st).setup = (s.station st).setup
  ref : d.ref = s.ref

theorem Reads.refl (st : StationId) (s : State) : Reads st s s := ⟨rfl, rfl, rfl, rfl, rfl⟩

/-- A function of the state acts by one handing on all states that read alike. -/
def ActsAlike (st : StationId) (s : State) (f : State → State) : Prop :=
  ∃ h : Handing, h.OfRegister ∧ ∀ d, Reads st s d → Hands h st d (f d)

theorem visitsAt_visitsAt (q : List LabelRecord) (st : StationId) (f g : BitVec 16 → Visit → Visit) :
    visitsAt (visitsAt q st f) st g = visitsAt q st fun n v => g n (f n v) := by
  unfold visitsAt
  rw [List.map_map]
  refine List.map_congr_left fun x _ => ?_
  simp only [Function.comp_apply, PerStation.get_put_self, PerStation.put_put, Option.map_map]
  rfl

theorem visitsAt_id (q : List LabelRecord) (st : StationId) : visitsAt q st (fun _ v => v) = q := by
  unfold visitsAt
  refine (List.map_congr_left fun x _ => ?_).trans (List.map_id q)
  have hsame : (x.visits.get st).map (fun v => v) = x.visits.get st := Option.map_id'
  rw [hsame, PerStation.put_get]
  rfl

theorem visitsChanged_visitsAt (q : List LabelRecord) (seq : BitVec 16) (st : StationId) (f : Visit → Visit) :
    visitsChanged q seq st f = visitsAt q st fun n v => if n = seq then f v else v := by
  unfold visitsChanged visitsAt
  refine List.map_congr_left fun x _ => ?_
  by_cases hx : x.seq = seq
  · simp only [if_pos hx]
  · have hsame : (x.visits.get st).map (fun v => v) = x.visits.get st := Option.map_id'
    simp only [if_neg hx, hsame, PerStation.put_get]

section

variable {st : StationId} {s t : State} {h h' : Handing} {f g : State → State}

theorem Hands.station (hs : Hands h st s t) : t.station st = (s.station st).handed h := by
  have hput := congrArg (fun p : PerStation Station => p.get st) hs.stations
  exact hput.trans (PerStation.get_put_self ..)

theorem Hands.ref (hs : Hands h st s t) : t.ref = s.ref := by
  have hframe := congrArg State.ref hs.frame
  exact hframe

theorem Reads.handed {d d' : State} (hr : Reads st s d) (hs : Hands h st s t) (hd : Hands h st d d') : Reads st t d' where
  loop := by rw [hs.station, hd.station]; rfl
  unusable := by rw [hs.station, hd.station]; rfl
  marksLost := by rw [hs.station, hd.station]; rfl
  setup := by
    rw [hs.station, hd.station]
    exact hr.setup
  ref := by rw [hs.ref, hd.ref, hr.ref]

theorem Hands.trans {u : State} (hs : Hands h st s t) (ht : Hands h' st t u) :
    Hands { h' with change := fun n v => h'.change n (h.change n v), raised := h.raised ++ h'.raised } st s u where
  queue := by rw [ht.queue, hs.queue, visitsAt_visitsAt]
  stations := by
    rw [ht.stations, hs.stations, PerStation.put_put, hs.station]
    rfl
  tells := hs.tells.trans ht.tells (congrArg Reference.web hs.ref)
  frame := by
    have hframe := congrArg (fun x : State => ({ x with
      queue := s.queue, stations := s.stations, events := s.events, link := s.link } : State)) ht.frame
    exact hframe.trans hs.frame

theorem Handing.OfRegister.trans (hh : h.OfRegister) (hh' : h'.OfRegister) : Handing.OfRegister
    { h' with change := fun n v => h'.change n (h.change n v), raised := h.raised ++ h'.raised } where
  fields n v := by
    have hfirst := congrArg (fun w : Visit => ({ w with error := v.error, regFlags := v.regFlags } : Visit))
      (hh'.fields n (h.change n v))
    exact hfirst.trans (hh.fields n v)
  alike n v v' he hf := by
    obtain ⟨he', hf'⟩ := hh.alike n v v' he hf
    exact hh'.alike n _ _ he' hf'
  kinds x hx := (List.mem_append.mp hx).elim (hh.kinds x) (hh'.kinds x)

theorem ActsAlike.comp (hf : ActsAlike st s f) (hg : ActsAlike st (f s) g) : ActsAlike st s fun d => g (f d) := by
  obtain ⟨a, ha, hacts⟩ := hf
  obtain ⟨b, hb, hacts'⟩ := hg
  exact ⟨_, ha.trans hb, fun d hd => (hacts d hd).trans (hacts' _ (hd.handed (hacts s (.refl st s)) (hacts d hd)))⟩

theorem ActsAlike.congr (hf : ActsAlike st s f) (h : ∀ d, Reads st s d → g d = f d) : ActsAlike st s g := by
  obtain ⟨a, ha, hacts⟩ := hf
  refine ⟨a, ha, fun d hd => ?_⟩
  rw [h d hd]
  exact hacts d hd

/-! ### The single acts of the register unit -/

/-- What a handing keeps when it touches no visit and raises nothing. -/
theorem Handing.ofRegister_still (loop : RegLoop) (unusable : Nat) (marksLost : Bool) : Handing.OfRegister
    { loop, unusable, marksLost, change := fun _ v => v, raised := [] } where
  fields _ _ := rfl
  alike _ _ _ he hf := ⟨he, hf⟩
  kinds _ hx := nomatch hx

/-- The station's register fields are set. -/
theorem actsAlike_set (loop : RegLoop) (unusable : Nat) (marksLost : Bool) :
    ActsAlike st s fun d => d.setStation st { d.station st with
      loop := loop, unusable := unusable, hold := { (d.station st).hold with marksLost := marksLost } } :=
  ⟨_, Handing.ofRegister_still loop unusable marksLost, fun _ _ => ⟨(visitsAt_id ..).symm, rfl, .nothing rfl, rfl⟩⟩

theorem actsAlike_withLoop (F : RegLoop → RegLoop) : ActsAlike st s fun d => withLoop d st F := by
  refine (actsAlike_set (F (s.station st).loop) (s.station st).unusable (s.station st).hold.marksLost).congr
    fun d hd => ?_
  unfold withLoop
  rw [hd.loop, ← hd.unusable, ← hd.marksLost]

theorem actsAlike_raise {k : EventKind} (hk : k = .marksLost ∨ k = .dieSlip ∨ k = .trimSaturated) (unit detail : Nat) :
    ActsAlike st s (raiseEvent k unit detail) := by
  refine ⟨{ loop := (s.station st).loop, unusable := (s.station st).unusable
            marksLost := (s.station st).hold.marksLost, change := fun _ v => v, raised := [{ kind := k, unit, detail }] },
    ⟨fun _ _ => rfl, fun _ _ _ he hf => ⟨he, hf⟩, fun x hx => List.mem_singleton.mp hx ▸ hk⟩, fun d hd => ?_⟩
  obtain ⟨_, _, hframe⟩ := raiseEvent_frame k unit detail d
  have hsame : (d.station st).handed {
      loop := (s.station st).loop, unusable := (s.station st).unusable
      marksLost := (s.station st).hold.marksLost, change := fun _ v => v, raised := [{ kind := k, unit, detail }] } =
      d.station st := by
    unfold Station.handed
    rw [← hd.loop, ← hd.unusable, ← hd.marksLost]
  refine ⟨?_, ?_, .one .., ?_⟩
  · rw [raiseEvent_queue]
    exact (visitsAt_id ..).symm
  · rw [raiseEvent_stations, hsame]
    exact (PerStation.put_get ..).symm
  · rw [hframe]

theorem actsAlike_visits (seq : BitVec 16) {F : Visit → Visit}
    (hfields : ∀ v, { F v with error := v.error, regFlags := v.regFlags } = v)
    (halike : ∀ v v' : Visit, v.error = v'.error → v.regFlags = v'.regFlags →
      (F v).error = (F v').error ∧ (F v).regFlags = (F v').regFlags) :
    ActsAlike st s fun d => { d with queue := visitsChanged d.queue seq st F } := by
  refine ⟨{ loop := (s.station st).loop, unusable := (s.station st).unusable
            marksLost := (s.station st).hold.marksLost
            change := fun n v => if n = seq then F v else v, raised := [] },
    ⟨fun n v => ?_, fun n v v' he hf => ?_, fun _ hx => nomatch hx⟩, fun d hd => ?_⟩
  · dsimp only
    split
    · exact hfields v
    · rfl
  · dsimp only
    split
    · exact halike v v' he hf
    · exact ⟨he, hf⟩
  · have hsame : (d.station st).handed {
        loop := (s.station st).loop, unusable := (s.station st).unusable
        marksLost := (s.station st).hold.marksLost
        change := fun n v => if n = seq then F v else v, raised := [] } = d.station st := by
      unfold Station.handed
      rw [← hd.loop, ← hd.unusable, ← hd.marksLost]
    refine ⟨visitsChanged_visitsAt .., ?_, .nothing rfl, rfl⟩
    rw [hsame]
    exact (PerStation.put_get ..).symm

theorem losesMarks_alike {d : State} (hd : Reads st s d) : losesMarks (d.station st) = losesMarks (s.station st) := by
  unfold losesMarks
  rw [hd.setup, hd.unusable, hd.marksLost]

theorem actsAlike_unusable : ActsAlike st s fun d => unusableTaken d st := by
  by_cases hl : losesMarks (s.station st) = true
  · refine ((actsAlike_set (s.station st).loop (min 31 ((s.station st).unusable + 1)) true).comp
      (actsAlike_raise (.inl rfl) st.number (min 31 ((s.station st).unusable + 1)))).congr fun d hd => ?_
    unfold unusableTaken
    dsimp only
    rw [losesMarks_alike hd, if_pos hl, hd.unusable, ← hd.loop]
  · refine (actsAlike_set (s.station st).loop (min 31 ((s.station st).unusable + 1))
      (s.station st).hold.marksLost).congr fun d hd => ?_
    unfold unusableTaken
    dsimp only
    rw [losesMarks_alike hd, if_neg hl, hd.unusable, ← hd.loop, ← hd.marksLost]

theorem actsAlike_endsNoGate (seq : BitVec 16) : ActsAlike st s fun d => endsNoGate d st seq :=
  (actsAlike_visits seq (F := fun v => { v with regFlags := { v.regFlags with noGate := true } }) (fun _ => rfl)
    fun v v' he hf => ⟨he, by rw [hf]⟩).comp actsAlike_unusable

/-! ### Pairs and places (R70, R76) -/

theorem actsAlike_pairTaken (mark : Pos) (seq : BitVec 16) (slot : Nat) (gate : Pos) (gateSlot : Nat) :
    ActsAlike st s fun d => pairTaken d st mark seq slot gate gateSlot := by
  let l := (s.station st).loop
  let e := errorOf l mark gate
  have hvisits : ActsAlike st s fun d => { d with queue := visitsChanged d.queue seq st fun v =>
      { v with error := some e, regFlags := pairFlags l (slot == gateSlot) e v.regFlags } } :=
    actsAlike_visits seq (fun _ => rfl) fun v v' _ hf => ⟨rfl, by rw [hf]⟩
  by_cases hagree : (slot == gateSlot) = true
  · have hset := hvisits.comp (actsAlike_set (pairLoop l (slot == gateSlot) e) 0 false)
    by_cases hsat : trimTaken l (slot == gateSlot) e ≠ trimAsked l (slot == gateSlot) e
    · refine (hset.comp (actsAlike_raise (.inr (.inr rfl)) st.number 1)).congr fun d hd => ?_
      unfold pairTaken
      dsimp only
      rw [hd.loop, if_pos hagree, if_pos hsat]
      rfl
    · refine hset.congr fun d hd => ?_
      unfold pairTaken
      dsimp only
      rw [hd.loop, if_pos hagree, if_neg hsat]
      rfl
  · refine (((hvisits.comp (actsAlike_withLoop fun _ => pairLoop l (slot == gateSlot) e)).comp
      actsAlike_unusable).comp
        (actsAlike_raise (.inr (.inl rfl)) st.number (256 + 8 * slot + gateSlot))).congr fun d hd => ?_
    unfold pairTaken
    dsimp only
    rw [hd.loop, if_neg hagree]
    rfl

theorem actsAlike_markHeld (mark : Pos) (seq : BitVec 16) (slot : Nat) :
    ActsAlike st s fun d => markHeld d st mark seq slot := by
  let tuning := (s.station st).loop.tuning
  let expiry := posShift mark (tuning.capture - tuning.target)
  have hheld : ActsAlike st s fun d => match (s.station st).loop.waiting with
      | some old => endsNoGate (withLoop d st fun l => { l with waiting := none }) st old.seq
      | none => d := by
    cases (s.station st).loop.waiting with
    | none => exact (actsAlike_withLoop id).congr fun d _ => (State.modStation_id d st).symm
    | some old => exact (actsAlike_withLoop _).comp (actsAlike_endsNoGate old.seq)
  by_cases hr : 0 ≤ sdiff s.ref.hw expiry
  · refine (hheld.comp ((actsAlike_withLoop fun l => { l with waiting := none }).comp
      (actsAlike_endsNoGate seq))).congr fun d hd => ?_
    unfold markHeld
    dsimp only
    rw [hd.loop, hd.ref, if_pos hr] <;> rfl
  · refine (hheld.comp (actsAlike_withLoop fun l => { l with
      waiting := some { pos := mark, seq := seq, slot := slot, expiry := expiry } })).congr fun d hd => ?_
    unfold markHeld
    dsimp only
    rw [hd.loop, hd.ref, if_neg hr] <;> rfl

/-- A mark handed over acts alike wherever the register unit reads alike. -/
theorem actsAlike_handedOver (mark : Pos) (seq : BitVec 16) (slot : Nat) :
    ActsAlike st s fun d => handedOver d st mark seq slot := by
  cases hg : (s.station st).loop.gate with
  | none =>
    refine (actsAlike_markHeld mark seq slot).congr fun d hd => ?_
    unfold handedOver
    dsimp only
    rw [hd.loop, hg]
  | some x =>
    by_cases hc : (errorOf (s.station st).loop mark x.pos).natAbs ≤ (s.station st).loop.tuning.capture
    · refine ((actsAlike_withLoop fun l => { l with gate := none }).comp
        (actsAlike_pairTaken mark seq slot x.pos x.slot)).congr fun d hd => ?_
      unfold handedOver
      dsimp only
      rw [hd.loop, hg]
      exact if_pos hc
    · refine (actsAlike_markHeld mark seq slot).congr fun d hd => ?_
      unfold handedOver
      dsimp only
      rw [hd.loop, hg]
      exact if_neg hc

end

end Sys2Proof.Machine
end

section

/-!
## The strike decision carried out

The decision of a visit by its seven tests (R52), and what carrying it out does to the visit, the station's requests and
the station's lanes (R53, R54, R105, R106, R125 to R128).
-/

namespace Sys2Proof.Machine

/-! ### The decision (R52) -/

section

variable {s : State} {r : LabelRecord} {st : StationId} {p : Pos} {seen : Bool}

/-- The hold set keeps a visit from striking, the miss limit reached now counted in (R52, test 4). -/
def holdsBack (u : Station) (seen : Bool) : Bool := u.hold != HoldSet.empty || (!seen && losesMarks u)

theorem earlyReason_notFromCheck {reason : SkipReason} (h : earlyReason s r st seen p = some reason) :
    reason.fromCheck = false := by
  unfold earlyReason at h
  dsimp only at h
  repeat' split at h
  all_goals cases h <;> rfl

theorem earlyReason_hold (h : earlyReason s r st seen p = some .hold) : holdsBack (s.station st) seen = true := by
  unfold earlyReason at h
  unfold holdsBack
  dsimp only at h
  repeat' split at h
  all_goals cases h
  assumption

theorem earlyReason_none (h : earlyReason s r st seen p = none) : holdsBack (s.station st) seen = false := by
  unfold earlyReason at h
  dsimp only at h
  repeat' split at h
  all_goals cases h
  exact Bool.eq_false_iff.mpr ‹_›

theorem laneReason_fromCheck {reason : SkipReason} (h : laneReason s r st p = some reason) :
    reason.fromCheck = true ∨ reason = .hold := by
  unfold laneReason at h
  dsimp only at h
  repeat' split at h
  all_goals cases h
  · exact .inr rfl
  · exact .inl rfl
  · exact .inl rfl

theorem decisionOf_early {reason : SkipReason} (h : earlyReason s r st seen p = some reason) :
    decisionOf s r st seen p = .skip reason := by
  unfold decisionOf
  rw [h]

theorem decisionOf_check {reason : SkipReason} (h : reachesCheck s r st seen p = true)
    (hl : laneReason s r st p = some reason) : decisionOf s r st seen p = .skip reason := by
  have hnone : earlyReason s r st seen p = none := Option.isNone_iff_eq_none.mp (Bool.and_eq_true_iff.mp h).2
  unfold decisionOf
  rw [hnone, h, hl]

theorem decisionOf_strike (hn : earlyReason s r st seen p = none)
    (h : reachesCheck s r st seen p = false ∨ laneReason s r st p = none) : decisionOf s r st seen p = .strike := by
  unfold decisionOf
  rw [hn]
  obtain h | h := h
  · rw [h]
  · rw [h]
    cases reachesCheck s r st seen p <;> rfl

/-- How a visit is decided: by an early test, by the lane check, or to strike. -/
theorem decisionOf_cases (s : State) (r : LabelRecord) (st : StationId) (seen : Bool) (p : Pos) :
    (∃ reason, earlyReason s r st seen p = some reason ∧ reachesCheck s r st seen p = false ∧
        decisionOf s r st seen p = .skip reason) ∨
      (∃ reason, reachesCheck s r st seen p = true ∧ laneReason s r st p = some reason ∧
        decisionOf s r st seen p = .skip reason) ∨
      (reachesCheck s r st seen p = ((s.station st).setup.kind == .foil) ∧
        (reachesCheck s r st seen p = true → laneReason s r st p = none) ∧ decisionOf s r st seen p = .strike) := by
  cases he : earlyReason s r st seen p with
  | some reason =>
    refine .inl ⟨reason, rfl, ?_, decisionOf_early he⟩
    unfold reachesCheck
    rw [he, Option.isNone_some, Bool.and_false]
  | none =>
    have hreach : reachesCheck s r st seen p = ((s.station st).setup.kind == .foil) := by
      unfold reachesCheck
      rw [he, Option.isNone_none, Bool.and_true]
    cases hc : reachesCheck s r st seen p with
    | false => exact .inr (.inr ⟨hc.symm.trans hreach, (nomatch ·), decisionOf_strike he (.inl hc)⟩)
    | true =>
      cases hl : laneReason s r st p with
      | some reason => exact .inr (.inl ⟨reason, rfl, rfl, decisionOf_check hc hl⟩)
      | none => exact .inr (.inr ⟨hc.symm.trans hreach, fun _ => rfl, decisionOf_strike he (.inr hl)⟩)

/-- The decision of the model, on a part in which only the station itself, the queue and the events have moved. -/
theorem decision_eq {q : List LabelRecord} {stations : PerStation Station} {events : EventSet} {link : Link}
    {visits : PerStation (Option Visit)} {v : Visit} (hsetup : (stations.get st).setup = (s.station st).setup)
    (hact : (stations.get st).actuator = (s.station st).actuator)
    (hhold : (!(stations.get st).hold.isEmpty) = holdsBack (s.station st) seen)
    (hstate : (v.state == .predicted) = !seen) :
    ({ s with queue := q, stations := stations, events := events, link := link } : State).decision
      { r with visits := visits } st v p = decisionOf s r st seen p := by
  have hacts : actsAt ({ s with queue := q, stations := stations, events := events, link := link } : State) r.motif st =
      actsAt s r.motif st := congrArg (fun c : StationSetup => (s.motif r.motif).mask.get st &&
        (c.kind == .emboss || !(concernedLanes s st r.motif).isEmpty)) hsetup
  have hreason : laneReason ({ s with queue := q, stations := stations, events := events, link := link } : State)
      { r with visits := visits } st p = laneReason s r st p := rfl
  have hst : ({ s with queue := q, stations := stations, events := events, link := link } : State).station st =
      stations.get st := rfl
  unfold State.decision
  dsimp only
  rw [inMotif_eq, laneCheck_eq, impressionLate_eq, hacts, hreason, hst, hsetup, hact, hhold, hstate]
  unfold decisionOf reachesCheck earlyReason holdsBack
  dsimp only
  split
  · rfl
  split
  · rfl
  split
  · rfl
  split
  · rfl
  split
  · rfl
  split
  · rfl
  cases (s.station st).setup.kind <;> cases laneReason s r st p <;> rfl

/-- A SKIP comes of the lane check exactly when its reason is the check's, or HOLD with nothing in the hold set. -/
theorem checked_eq {reason : SkipReason} (h : decisionOf s r st seen p = .skip reason) {empty : Bool}
    (hhold : (!empty) = holdsBack (s.station st) seen) :
    (reason.fromCheck || (reason == .hold && empty)) =
      (reachesCheck s r st seen p && (laneReason s r st p).isSome) := by
  obtain ⟨x, he, hreach, hd⟩ | ⟨x, hreach, hl, hd⟩ | ⟨-, -, hd⟩ := decisionOf_cases s r st seen p
  · obtain rfl : x = reason := Decision.skip.inj (hd.symm.trans h)
    rw [hreach, earlyReason_notFromCheck he, Bool.false_and, Bool.false_or]
    by_cases hx : x = .hold
    · subst hx
      rw [earlyReason_hold he] at hhold
      rw [(Bool.not_eq_true' _).mp hhold, Bool.and_false]
    · rw [beq_false_of_ne hx, Bool.false_and]
  · obtain rfl : x = reason := Decision.skip.inj (hd.symm.trans h)
    have hnone : earlyReason s r st seen p = none := Option.isNone_iff_eq_none.mp (Bool.and_eq_true_iff.mp hreach).2
    rw [earlyReason_none hnone] at hhold
    rw [hreach, hl, Option.isSome_some, Bool.and_self, (Bool.not_eq_false' _).mp hhold, Bool.and_true]
    obtain hx | rfl := laneReason_fromCheck hl
    · rw [hx, Bool.true_or]
    · rfl
  · exact nomatch hd.symm.trans h

end

/-! ### The requests of a decision (R105, R106) -/

/-- A station after a decision, as to its idle-lift point and its actuator. -/
def Station.requesting (u : Station) (d : Decision) (earlierSkip earlierStrike : Bool) : Station :=
  let free : Station := { u with idleLift := none }
  if d = .strike then if earlierSkip then free else free.engage
  else if earlierStrike then u else free.lift

/-- A station with the readings that a decision does not ask for. -/
def Station.reading (u : Station) (hold : HoldSet) (drift : Int) (unusable : Nat) (channel : MarkChannel) : Station :=
  { u with hold := hold, drift := drift, unusable := unusable, channel := channel }

section

variable (u : Station) (hold : HoldSet) (drift : Int) (unusable : Nat) (channel : MarkChannel)

theorem Station.lift_reading :
    (u.reading hold drift unusable channel).lift = u.lift.reading hold drift unusable channel := by
  rw [Station.lift_eq, Station.lift_eq]
  unfold Station.reading
  dsimp only
  split
  · split <;> rfl
  · rfl

theorem Station.engage_reading :
    (u.reading hold drift unusable channel).engage = u.engage.reading hold drift unusable channel := by
  rw [Station.engage_eq, Station.engage_eq]
  unfold Station.reading
  dsimp only
  split
  · split <;> rfl
  · rfl

theorem Station.requesting_reading (d : Decision) (a b : Bool) :
    (u.reading hold drift unusable channel).requesting d a b =
      (u.requesting d a b).reading hold drift unusable channel := by
  have hfree : ({ u.reading hold drift unusable channel with idleLift := none } : Station) =
      ({ u with idleLift := none } : Station).reading hold drift unusable channel := rfl
  unfold Station.requesting
  dsimp only
  rw [hfree, Station.engage_reading, Station.lift_reading]
  split
  · split <;> rfl
  · split <;> rfl

end

theorem Visit.skips_eq (v : Visit) : v.skips = (v.decision != none && v.decision != some .strike) := by
  unfold Visit.skips
  cases v.decision with
  | none => rfl
  | some d => cases d <;> rfl

theorem earlierVisit_eq (s : State) (r : LabelRecord) (st : StationId) (test : Visit → Bool) :
    earlierVisit s r st test = (visitsOf st (recordsBefore r.seq s.queue)).any test := by
  unfold earlierVisit visitsOf
  rw [List.any_filterMap]
  refine congrArg (List.any _) (funext fun x => ?_)
  cases x.visit st <;> rfl

/-- The station's part of a decision, by the visits before the one decided. -/
def State.requestsOf (s : State) (seq : BitVec 16) (st : StationId) (d : Decision) (u : Station) : Station :=
  u.requesting d ((visitsOf st (recordsBefore seq s.queue)).any fun v => v.skips && v.open)
    ((visitsOf st (recordsBefore seq s.queue)).any Visit.undelivered)

theorem requested_eq (s : State) (r : LabelRecord) (st : StationId) (d : Decision) :
    requested s r st d = s.requestsOf r.seq st d (s.station st) := by
  have hskip : (earlierVisit s r st fun v => v.state != .final && v.decision != none && v.decision != some .strike) =
      (visitsOf st (recordsBefore r.seq s.queue)).any fun v => v.skips && v.open := by
    rw [earlierVisit_eq]
    refine congrArg (List.any _) (funext fun v => ?_)
    rw [Visit.skips_eq, Bool.and_assoc, Bool.and_comm]
    rfl
  have hstrike : (earlierVisit s r st fun v => v.state != .final && v.decision == some .strike) =
      (visitsOf st (recordsBefore r.seq s.queue)).any Visit.undelivered := by
    rw [earlierVisit_eq]
    refine congrArg (List.any _) (funext fun v => ?_)
    rw [Bool.and_comm]
    rfl
  unfold requested State.requestsOf Station.requesting
  dsimp only
  rw [hskip, hstrike]

theorem requestsOf_visitsChanged (s : State) (seq : BitVec 16) (st st' : StationId) (f : Visit → Visit) (d : Decision)
    (u : Station) : ({ s with queue := visitsChanged s.queue seq st' f } : State).requestsOf seq st d u =
      s.requestsOf seq st d u := by
  have hbefore : recordsBefore seq (visitsChanged s.queue seq st' f) = recordsBefore seq s.queue :=
    recordsBefore_map (fun x => by split <;> rfl) (fun x hx => if_neg hx) _
  unfold State.requestsOf
  dsimp only
  rw [hbefore]

theorem strikeDecided_eq (seq : BitVec 16) (st : StationId) (s : State) :
    strikeDecided seq st s = s.setStation st (s.requestsOf seq st .strike (s.station st)) := by
  unfold strikeDecided State.requestsOf Station.requesting State.modStation
  dsimp only
  rw [if_pos rfl]

theorem skipDecided_eq (seq : BitVec 16) (st : StationId) (reason : SkipReason) (s : State) :
    skipDecided seq st s = s.setStation st (s.requestsOf seq st (.skip reason) (s.station st)) := by
  unfold skipDecided State.requestsOf Station.requesting
  dsimp only
  rw [if_neg (c := Decision.skip reason = .strike) (by simp)]
  split
  · exact (State.modStation_id s st).symm
  · rfl

end Sys2Proof.Machine
end

section

/-!
## What carrying out a decision changes

The visit decided, the station's requests, the lanes and what is raised (R53, R54, R125 to R128), at a STRIKE and at a
SKIP.
-/

namespace Sys2Proof.Machine

/-- What a decision carried out changes. -/
structure Carries (st : StationId) (seq : BitVec 16) (f : Visit → Visit) (u : Station) (lane : LaneId → Lane)
    (raised : List Raise) (s t : State) : Prop where
  queue : t.queue = visitsChanged s.queue seq st f
  stations : t.stations = s.stations.put st u
  lane : ∀ l, t.lane l = lane l
  tells : Tells raised s t
  frame : { t with queue := s.queue, stations := s.stations, lanes := s.lanes, events := s.events,
                   link := s.link } = s

/-- A lane of the station that has acted is as that left it, and every other one of the station counts its idle run
(R127). -/
def laneAfter (s : State) (st : StationId) (ls : List LaneId) (acted : LaneId → Lane) (l : LaneId) : Lane :=
  if (s.lane l).station ≠ some st then s.lane l
  else if l ∈ ls then acted l
  else idled (s.lane l) s.web

section

variable (s : State) (r : LabelRecord) (st : StationId) (p : Pos)

theorem concerned_nodup (motif : Nat) : (s.concerned st motif).Nodup := (lanesOf_nodup s st).filter _

theorem committing_nodup (motif : Nat) : (s.committing st motif).Nodup := by
  unfold State.committing
  split
  · exact concerned_nodup ..
  · exact List.nodup_nil

theorem carryStrike_carries :
    Carries st r.seq
      (fun v => { v with
        decision := some .strike
        feeds := (s.committing st r.motif).map fun l => feedRecord (s.feedPlan r p l) l })
      (s.requestsOf r.seq st .strike (s.station st))
      (laneAfter s st (s.committing st r.motif) fun l => fed (s.lane l) r.seq (s.feedPlan r p l))
      ((s.committing st r.motif).flatMap fun l => lowRaise (s.feedPlan r p) l (s.lane l)) s (carryStrike r st p s) := by
  let ls := s.committing st r.motif
  let others := (s.lanesOf st).filter fun l => !ls.contains l
  let a : State := modVisit r.seq st (fun v => { v with
    decision := some .strike
    feeds := ls.map fun l => feedRecord (s.feedPlan r p l) l }) s
  let b : State := ls.foldl (fun t l => commitFeed r.seq (s.feedPlan r p l) l t) a
  have hrun : carryStrike r st p s = strikeDecided r.seq st (countIdle others b) := by
    unfold carryStrike
    dsimp only
    rw [List.foldl_map, List.map_map]
    rfl
  have hacts : LanesAct st ls (fun l c => fed c r.seq (s.feedPlan r p l)) (lowRaise (s.feedPlan r p))
      (fun _ _ => false) a b :=
    lanesAct_foldl (ref := s.ref) (fun l t _ => commitFeed_acts st r.seq (s.feedPlan r p) l t)
      (committing_nodup s st r.motif) rfl
  have hothers : others.Nodup := (lanesOf_nodup s st).filter _
  have hstations : b.stations = s.stations := by
    have hany : (ls.any fun _ => false) = false := List.any_eq_false.mpr fun _ _ => Bool.false_ne_true
    rw [hacts.stations, hany, Station.emptiedBy_false]
    exact PerStation.put_get ..
  have hqueue : b.queue = a.queue := by
    have h := congrArg State.queue hacts.frame
    exact h
  have hweb : b.web = s.web := congrArg Reference.web hacts.ref
  obtain ⟨lanes, hidle⟩ := countIdle_frame others b
  rw [hrun, strikeDecided_eq]
  refine ⟨?_, ?_, fun l => ?_, ?_, ?_⟩
  · rw [hidle]
    exact hqueue
  · have hst : (countIdle others b).station st = s.station st := by
      rw [hidle]
      exact congrArg (fun p : PerStation Station => p.get st) hstations
    have hreq : (countIdle others b).requestsOf r.seq st .strike (s.station st) =
        s.requestsOf r.seq st .strike (s.station st) := by
      have h : (countIdle others b).requestsOf r.seq st .strike (s.station st) =
          a.requestsOf r.seq st .strike (s.station st) := by
        unfold State.requestsOf
        rw [hidle]
        dsimp only
        rw [hqueue]
      exact h.trans (requestsOf_visitsChanged ..)
    rw [hst, hreq, hidle]
    exact congrArg (fun p : PerStation Station => p.put st (s.requestsOf r.seq st .strike (s.station st))) hstations
  · have hin : l ∈ others ↔ (s.lane l).station = some st ∧ l ∉ ls := by
      rw [List.mem_filter, mem_lanesOf]
      simp
    refine (countIdle_lane hothers b l).trans ?_
    rw [hacts.lane, hweb]
    unfold laneAfter
    by_cases hl : l ∈ ls
    · rw [if_neg fun h => (hin.mp h).2 hl, if_pos hl, if_neg (not_not_intro (mem_committing hl)), if_pos hl]
      rfl
    · rw [if_neg hl, if_neg hl]
      by_cases hs : (s.lane l).station = some st
      · rw [if_pos (hin.mpr ⟨hs, hl⟩), if_neg (not_not_intro hs)]
        rfl
      · rw [if_neg fun h => hs (hin.mp h).1, if_pos hs]
        rfl
  · refine hacts.tells.congr rfl rfl ?_
    rw [hidle]
    rfl
  · have h := congrArg (fun t : State => ({ t with queue := s.queue } : State)) hacts.frame
    rw [hidle]
    exact h

theorem failed_station (c : Lane) (f : FeedPlan) : (failed s c f).station = c.station := by
  by_cases h : emptied c f = true
  · have hfailed : failed s c f = sentPark (lateCounted s f c) s.web .empty := if_pos h
    rw [hfailed]
    rfl
  · have hfailed : failed s c f = lateCounted s f c := if_neg h
    rw [hfailed]
    rfl

theorem carrySkip_carries (reason : SkipReason) {checked : Bool} {ls : List LaneId}
    (hls : (if checked then s.concerned st r.motif else []) = ls) :
    Carries st r.seq (fun v => { v with decision := some (.skip reason) })
      ((s.requestsOf r.seq st (.skip reason) (s.station st)).emptiedBy
        (ls.any fun l => emptied (s.lane l) (s.feedPlan r p l)))
      (laneAfter s st ls fun l => idled (failed s (s.lane l) (s.feedPlan r p l)) s.web)
      (ls.flatMap fun l => emptiedRaise (s.feedPlan r p) r.seq l (s.lane l)) s
      (carrySkip r st p reason checked s) := by
  let a : State := modVisit r.seq st (fun v => { v with decision := some (.skip reason) }) s
  let b : State := skipDecided r.seq st a
  let c : State := ls.foldl (fun t l => checkFailed st r.seq (s.feedPlan r p l) l t) b
  have hrun : carrySkip r st p reason checked s = countIdle (c.lanesOf st) c := by
    have hfeeds : (if checked then (s.concerned st r.motif).map fun l => (l, s.feedPlan r p l) else []) =
        ls.map fun l => (l, s.feedPlan r p l) := by
      rw [← hls]
      cases checked <;> rfl
    unfold carrySkip
    dsimp only
    rw [hfeeds, List.foldl_map]
  have hmem (l : LaneId) (hl : l ∈ ls) : (s.lane l).station = some st := by
    rw [← hls] at hl
    cases checked with
    | true => exact mem_lanesOf.mp (List.mem_filter.mp hl).1
    | false => exact nomatch hl
  have hnd : ls.Nodup := by
    rw [← hls]
    cases checked with
    | true => exact concerned_nodup ..
    | false => exact List.nodup_nil
  have hb : b = a.setStation st (s.requestsOf r.seq st (.skip reason) (s.station st)) :=
    (skipDecided_eq r.seq st reason a).trans
      (congrArg (a.setStation st) (requestsOf_visitsChanged s r.seq st st _ (.skip reason) (s.station st)))
  have hacts : LanesAct st ls (fun l c => failed s c (s.feedPlan r p l)) (emptiedRaise (s.feedPlan r p) r.seq)
      (fun l c => emptied c (s.feedPlan r p l)) b c :=
    lanesAct_foldl (ref := s.ref) (fun l t ht => checkFailed_acts st r.seq (s.feedPlan r p) ht l) hnd (by rw [hb]; rfl)
  have hblane (l : LaneId) : b.lane l = s.lane l := by
    rw [hb]
    rfl
  have hweb : c.web = s.web := (congrArg Reference.web hacts.ref).trans (by rw [hb]; rfl)
  have hin (l : LaneId) : l ∈ c.lanesOf st ↔ (s.lane l).station = some st := by
    rw [mem_lanesOf, hacts.lane, hblane]
    split
    · rw [failed_station]
    · exact .rfl
  obtain ⟨lanes, hidle⟩ := countIdle_frame (c.lanesOf st) c
  rw [hrun]
  refine ⟨?_, ?_, fun l => ?_, ?_, ?_⟩
  · have h := congrArg State.queue hacts.frame
    rw [hidle]
    exact h.trans (by rw [hb]; rfl)
  · have hbst : b.station st = s.requestsOf r.seq st (.skip reason) (s.station st) := by
      rw [hb]
      exact State.setStation_station_self ..
    have hany : (ls.any fun l => emptied (b.lane l) (s.feedPlan r p l)) =
        ls.any fun l => emptied (s.lane l) (s.feedPlan r p l) := any_congr_mem fun l _ => by rw [hblane]
    rw [hidle]
    refine hacts.stations.trans ?_
    rw [hbst, hany, hb]
    exact PerStation.put_put ..
  · rw [countIdle_lane (lanesOf_nodup c st), hacts.lane, hblane, hweb]
    unfold laneAfter
    by_cases hs : (s.lane l).station = some st
    · rw [if_pos ((hin l).mpr hs), if_neg (not_not_intro hs)]
      split <;> rfl
    · rw [if_neg fun h => hs ((hin l).mp h), if_pos hs, if_neg fun h => hs (hmem l h)]
  · have hraised : (ls.flatMap fun l => emptiedRaise (s.feedPlan r p) r.seq l (b.lane l)) =
        ls.flatMap fun l => emptiedRaise (s.feedPlan r p) r.seq l (s.lane l) :=
      List.flatMap_congr fun l _ => by rw [hblane]
    have htells := hacts.tells
    rw [hraised] at htells
    exact htells.congr (by rw [hb]; rfl) (by rw [hb]; rfl) (by rw [hidle])
  · have h := congrArg (fun t : State => ({ t with
      queue := s.queue, stations := s.stations, lanes := s.lanes, events := s.events, link := s.link } : State))
      hacts.frame
    rw [hidle]
    exact h.trans (by rw [hb]; rfl)

end

end Sys2Proof.Machine
end

section

/-!
## A visit decided

The decision of a visit made SEEN or PREDICTED, carried out on the part that the matching has left, in the terms of the
part before it (R45, R47, R52 to R54).
-/

namespace Sys2Proof.Machine

theorem State.Numbered.of_seqs {s t : State} (h : s.Numbered)
    (hq : t.queue.map LabelRecord.seq = s.queue.map LabelRecord.seq) (ht : t.tracker = s.tracker) : t.Numbered := by
  intro j r hr
  have hlen : t.queue.length = s.queue.length := by
    have hl := congrArg List.length hq
    simpa using hl
  have hj := congrArg (·[j]?) hq
  simp only [List.getElem?_map, hr, Option.map_some] at hj
  obtain ⟨x, hx, hseq⟩ := Option.map_eq_some_iff.mp hj.symm
  rw [ht, hlen, ← hseq]
  exact h j x hx

theorem visitsChanged_seqs (q : List LabelRecord) (seq : BitVec 16) (st : StationId) (f : Visit → Visit) :
    (visitsChanged q seq st f).map LabelRecord.seq = q.map LabelRecord.seq := by
  unfold visitsChanged
  rw [List.map_map]
  refine List.map_congr_left fun x _ => ?_
  rw [Function.comp_apply]
  split <;> rfl

/-- The part as the matching of a visit leaves it: the visit and its station's readings have changed, and events may
have been raised. -/
def State.matched (s : State) (seq : BitVec 16) (st : StationId) (f : Visit → Visit) (u : Station) (events : EventSet)
    (link : Link) : State :=
  { s with queue := visitsChanged s.queue seq st f, stations := s.stations.put st u, events := events, link := link }

section

variable (s : State) (r : LabelRecord) (st : StationId) (seen : Bool) (p : Pos)

/-- The lanes that act in a decision: those concerned, when it is left to the lane check (R52, R124). -/
def actingLanes : List LaneId := if reachesCheck s r st seen p then concernedLanes s st r.motif else []

/-- An acting lane after the decision: fed, or as the failed check leaves it (R125, R126, R127). -/
def actedLane (l : LaneId) : Lane :=
  if (laneReason s r st p).isNone then fed (s.lane l) r.seq (feedOf s r p l)
  else idled (failed s (s.lane l) (feedOf s r p l)) s.web

/-- What an acting lane raises (R125, R130). -/
def actedRaise (l : LaneId) : List Raise :=
  if (laneReason s r st p).isNone then lowRaise (feedOf s r p) l (s.lane l)
  else emptiedRaise (feedOf s r p) r.seq l (s.lane l)

/-- A lane is emptied by the decision (R125). -/
def anyEmptied : Bool :=
  (laneReason s r st p).isSome && (actingLanes s r st seen p).any fun l => emptied (s.lane l) (feedOf s r p l)

/-- The visit takes its decision, and the feeds committed (R53, R54). -/
def visitCarried (v : Visit) : Visit :=
  { v with
    decision := some (decisionOf s r st seen p)
    feeds := if decisionOf s r st seen p = .strike
      then (actingLanes s r st seen p).map fun l => feedRecord (feedOf s r p l) l else v.feeds }

variable {s r st seen p}

theorem actingLanes_strike (h : decisionOf s r st seen p = .strike) :
    s.committing st r.motif = actingLanes s r st seen p := by
  obtain ⟨x, _, _, hd⟩ | ⟨x, _, _, hd⟩ | ⟨hreach, _, _⟩ := decisionOf_cases s r st seen p
  · exact nomatch h.symm.trans hd
  · exact nomatch h.symm.trans hd
  · unfold State.committing actingLanes
    rw [hreach, concerned_eq]
    refine if_congr ?_ rfl rfl
    rw [beq_iff_eq]

theorem laneReason_strike (h : decisionOf s r st seen p = .strike) {l : LaneId} (hl : l ∈ actingLanes s r st seen p) :
    laneReason s r st p = none := by
  obtain ⟨x, _, _, hd⟩ | ⟨x, _, _, hd⟩ | ⟨_, hnone, _⟩ := decisionOf_cases s r st seen p
  · exact nomatch h.symm.trans hd
  · exact nomatch h.symm.trans hd
  · refine hnone ?_
    by_contra hreach
    rw [actingLanes, if_neg hreach] at hl
    exact nomatch hl

theorem laneReason_skip {reason : SkipReason} (h : decisionOf s r st seen p = .skip reason) {l : LaneId}
    (hl : l ∈ actingLanes s r st seen p) : ∃ x, laneReason s r st p = some x := by
  obtain ⟨x, _, hreach, _⟩ | ⟨x, _, hx, _⟩ | ⟨_, _, hd⟩ := decisionOf_cases s r st seen p
  · rw [actingLanes, hreach] at hl
    exact nomatch hl
  · exact ⟨x, hx⟩
  · exact nomatch h.symm.trans hd

theorem actingLanes_skip {reason : SkipReason} (h : decisionOf s r st seen p = .skip reason) :
    (if reachesCheck s r st seen p && (laneReason s r st p).isSome then s.concerned st r.motif else []) =
      actingLanes s r st seen p := by
  unfold actingLanes
  rw [concerned_eq]
  obtain ⟨x, _, hreach, _⟩ | ⟨x, hreach, hx, _⟩ | ⟨_, _, hd⟩ := decisionOf_cases s r st seen p
  · rw [hreach, Bool.false_and]
  · rw [hreach, hx, Option.isSome_some, Bool.and_self]
  · exact nomatch h.symm.trans hd

theorem actingLanes_concerned {l : LaneId} (hl : l ∈ actingLanes s r st seen p) : l ∈ concernedLanes s st r.motif := by
  unfold actingLanes at hl
  split at hl
  · exact hl
  · exact nomatch hl

/-- An acting lane is asked for the feed it would be asked before the matching. -/
theorem feedPlan_matched {l : LaneId} (hl : l ∈ actingLanes s r st seen p) (f : Visit → Visit) (u : Station)
    (events : EventSet) (link : Link) (visits : PerStation (Option Visit)) :
    (s.matched r.seq st f u events link).feedPlan { r with visits := visits } p l = feedOf s r p l := by
  have hin : l ∈ concernedLanes s st r.motif := actingLanes_concerned hl
  exact feedPlan_concerned (s := s.matched r.seq st f u events link) (r := { r with visits := visits }) (st := st) hin

theorem laneAfter_congr {ls : List LaneId} {acted acted' : LaneId → Lane} (h : ∀ l ∈ ls, acted l = acted' l) :
    laneAfter s st ls acted = laneAfter s st ls acted' := by
  funext l
  unfold laneAfter
  by_cases hl : l ∈ ls
  · rw [h l hl]
  · rw [if_neg hl, if_neg hl]

theorem Carries.congr {seq : BitVec 16} {f f' : Visit → Visit} {u u' : Station} {lane lane' : LaneId → Lane}
    {raised raised' : List Raise} {a b : State} (h : Carries st seq f u lane raised a b) (hf : f' = f) (hu : u' = u)
    (hl : lane' = lane) (hr : raised' = raised) : Carries st seq f' u' lane' raised' a b := by
  subst hf hu hl hr
  exact h

/-- A STRIKE carried out, in the statements' terms. -/
theorem carryStrike_decides {visits : PerStation (Option Visit)} (f : Visit → Visit) (u : Station) (events : EventSet)
    (link : Link) (hsetup : u.setup = (s.station st).setup) (h : decisionOf s r st seen p = .strike) :
    Carries st r.seq (visitCarried s r st seen p)
      ((s.requestsOf r.seq st (decisionOf s r st seen p) u).emptiedBy (anyEmptied s r st seen p))
      (laneAfter s st (actingLanes s r st seen p) (actedLane s r st p))
      ((actingLanes s r st seen p).flatMap (actedRaise s r st p))
      (s.matched r.seq st f u events link)
      (carryStrike { r with visits := visits } st p (s.matched r.seq st f u events link)) := by
  have hst : (s.matched r.seq st f u events link).station st = u := PerStation.get_put_self ..
  have hcommitting : (s.matched r.seq st f u events link).committing st r.motif = actingLanes s r st seen p := by
    rw [← actingLanes_strike h]
    unfold State.committing
    rw [hst, hsetup]
    rfl
  have hfeed {l : LaneId} (hl : l ∈ actingLanes s r st seen p) :
      (s.matched r.seq st f u events link).feedPlan { r with visits := visits } p l = feedOf s r p l :=
    feedPlan_matched hl f u events link visits
  have hcarries := carryStrike_carries (s.matched r.seq st f u events link) { r with visits := visits } st p
  dsimp only at hcarries
  rw [hcommitting, hst] at hcarries
  refine hcarries.congr ?_ ?_ ?_ ?_
  · funext v
    have hfeeds : (actingLanes s r st seen p).map (fun l => feedRecord (feedOf s r p l) l) =
        (actingLanes s r st seen p).map fun l =>
          feedRecord ((s.matched r.seq st f u events link).feedPlan { r with visits := visits } p l) l :=
      List.map_congr_left fun l hl => by rw [hfeed hl]
    unfold visitCarried
    rw [if_pos h, h, hfeeds]
  · have hany : anyEmptied s r st seen p = false := by
      unfold anyEmptied
      cases hl : actingLanes s r st seen p with
      | nil => rw [List.any_nil, Bool.and_false]
      | cons l ls =>
        have hnone := laneReason_strike (l := l) h (by rw [hl]; exact List.mem_cons_self)
        rw [hnone, Option.isSome_none, Bool.false_and]
    rw [hany, Station.emptiedBy_false, h]
    exact (requestsOf_visitsChanged s r.seq st st f .strike u).symm
  · refine (laneAfter_congr fun l hl => ?_).trans rfl
    rw [actedLane, laneReason_strike h hl, Option.isNone_none, if_pos rfl, hfeed hl]
    rfl
  · refine List.flatMap_congr fun l hl => ?_
    rw [actedRaise, laneReason_strike h hl, Option.isNone_none, if_pos rfl]
    unfold lowRaise
    rw [hfeed hl]
    rfl

/-- A SKIP carried out, in the statements' terms. -/
theorem carrySkip_decides {visits : PerStation (Option Visit)} (f : Visit → Visit) (u : Station) (events : EventSet)
    (link : Link) {reason : SkipReason} (h : decisionOf s r st seen p = .skip reason) :
    Carries st r.seq (visitCarried s r st seen p)
      ((s.requestsOf r.seq st (decisionOf s r st seen p) u).emptiedBy (anyEmptied s r st seen p))
      (laneAfter s st (actingLanes s r st seen p) (actedLane s r st p))
      ((actingLanes s r st seen p).flatMap (actedRaise s r st p))
      (s.matched r.seq st f u events link)
      (carrySkip { r with visits := visits } st p reason
        (reachesCheck s r st seen p && (laneReason s r st p).isSome) (s.matched r.seq st f u events link)) := by
  have hst : (s.matched r.seq st f u events link).station st = u := PerStation.get_put_self ..
  have hacting : (if reachesCheck s r st seen p && (laneReason s r st p).isSome then
      (s.matched r.seq st f u events link).concerned st r.motif else []) = actingLanes s r st seen p :=
    actingLanes_skip h
  have hfeed {l : LaneId} (hl : l ∈ actingLanes s r st seen p) :
      (s.matched r.seq st f u events link).feedPlan { r with visits := visits } p l = feedOf s r p l :=
    feedPlan_matched hl f u events link visits
  have hcarries := carrySkip_carries (s.matched r.seq st f u events link) { r with visits := visits } st p reason hacting
  dsimp only at hcarries
  rw [hst] at hcarries
  refine hcarries.congr ?_ ?_ ?_ ?_
  · funext v
    unfold visitCarried
    rw [if_neg (by rw [h]; simp), h]
  · have hany : anyEmptied s r st seen p = (actingLanes s r st seen p).any fun l => emptied (s.lane l)
        ((s.matched r.seq st f u events link).feedPlan { r with visits := visits } p l) := by
      unfold anyEmptied
      cases hls : actingLanes s r st seen p with
      | nil => rw [List.any_nil, List.any_nil, Bool.and_false]
      | cons l ls =>
        obtain ⟨x, hx⟩ := laneReason_skip (l := l) h (by rw [hls]; exact List.mem_cons_self)
        rw [hx, Option.isSome_some, Bool.true_and]
        exact any_congr_mem fun l hl => by rw [hfeed (by rw [hls]; exact hl)]
    have hreq := requestsOf_visitsChanged s r.seq st st f (.skip reason) u
    rw [hany, h, ← hreq]
    rfl
  · refine (laneAfter_congr fun l hl => ?_).trans rfl
    obtain ⟨x, hx⟩ := laneReason_skip h hl
    rw [actedLane, hx, Option.isNone_some, if_neg Bool.false_ne_true, hfeed hl]
    rfl
  · refine List.flatMap_congr fun l hl => ?_
    obtain ⟨x, hx⟩ := laneReason_skip h hl
    rw [actedRaise, hx, Option.isNone_some, if_neg Bool.false_ne_true]
    unfold emptiedRaise
    rw [hfeed hl]
    rfl

/-- A visit made SEEN or PREDICTED is decided, and its decision carried out. -/
theorem decideVisit_carries (hn : s.Numbered) (hlen : s.queue.length ≤ Config.queueCapacity) (hr : r ∈ s.queue) {v : Visit}
    (hv : r.visit st = some v) {f : Visit → Visit} (hpt : (f v).strikePt = some p)
    (hstate : ((f v).state == .predicted) = !seen) {u : Station} (hsetup : u.setup = (s.station st).setup)
    (hact : u.actuator = (s.station st).actuator) (hhold : (!u.hold.isEmpty) = holdsBack (s.station st) seen)
    (events : EventSet) (link : Link) :
    Carries st r.seq (visitCarried s r st seen p)
      ((s.requestsOf r.seq st (decisionOf s r st seen p) u).emptiedBy (anyEmptied s r st seen p))
      (laneAfter s st (actingLanes s r st seen p) (actedLane s r st p))
      ((actingLanes s r st seen p).flatMap (actedRaise s r st p))
      (s.matched r.seq st f u events link) (decideVisit r.seq st (s.matched r.seq st f u events link)) := by
  have hgets : (s.stations.put st u).get st = u := PerStation.get_put_self ..
  have hst : (s.matched r.seq st f u events link).station st = u := hgets
  have hnumbered : (s.matched r.seq st f u events link).Numbered := hn.of_seqs (visitsChanged_seqs ..) rfl
  have hlength : (s.matched r.seq st f u events link).queue.length ≤ Config.queueCapacity := by
    have h := congrArg List.length (visitsChanged_seqs s.queue r.seq st f)
    rw [List.length_map, List.length_map] at h
    exact h.trans_le hlen
  let r' : LabelRecord := { r with visits := r.visits.put st ((r.visits.get st).map f) }
  have hr' : r' ∈ (s.matched r.seq st f u events link).queue := List.mem_map.mpr ⟨r, hr, if_pos rfl⟩
  have hrec : (s.matched r.seq st f u events link).record? r.seq = some r' := hnumbered.record?_eq hlength hr'
  have hvisit : r'.visit st = some (f v) :=
    (PerStation.get_put_self ..).trans (congrArg (Option.map f) hv)
  have hdecision : (s.matched r.seq st f u events link).decision r' st (f v) p = decisionOf s r st seen p :=
    decision_eq (by rw [hgets, hsetup]) (by rw [hgets, hact]) (by rw [hgets, hhold]) hstate
  unfold decideVisit
  rw [hrec]
  dsimp only
  rw [hvisit]
  dsimp only
  rw [hpt]
  dsimp only
  rw [hdecision, hst]
  cases hd : decisionOf s r st seen p with
  | strike =>
    have hcarries := carryStrike_decides (visits := r'.visits) f u events link hsetup hd
    rw [hd] at hcarries
    exact hcarries
  | skip reason =>
    have hcarries := carrySkip_decides (visits := r'.visits) f u events link hd
    rw [hd, ← checked_eq hd hhold] at hcarries
    exact hcarries

end

end Sys2Proof.Machine
end

section

/-!
## A visit found or given up, and decided

The two ways a WAITING visit is decided: by its window's expiry, PREDICTED, and by a mark in its window, SEEN, which is
then handed to the register loop (R45, R47, R48, R70).
-/

namespace Sys2Proof.Machine

/-! ### The station's readings before the decision (R47, R48) -/

/-- The station after a reading with no usable value (R50, R51). -/
def Station.lost (u : Station) : Station :=
  u.reading { u.hold with marksLost := u.hold.marksLost || losesMarks u } u.drift (min 31 (u.unusable + 1)) u.channel

/-- What a reading with no usable value raises (R51). -/
def lostRaise (st : StationId) (u : Station) : List Raise :=
  if losesMarks u then [{ kind := .marksLost, unit := st.number, detail := min 31 (u.unusable + 1) }] else []

theorem Station.lost_holdsBack (u : Station) : (!u.lost.hold.isEmpty) = holdsBack u false := by
  unfold holdsBack
  cases hl : losesMarks u with
  | false =>
    have hsame : u.lost.hold = u.hold := by
      unfold Station.lost Station.reading
      rw [hl, Bool.or_false]
    rw [hsame, Bool.and_false, Bool.or_false]
    rfl
  | true =>
    have hne : u.lost.hold ≠ HoldSet.empty := fun h => by
      have hmarks := congrArg HoldSet.marksLost h
      unfold Station.lost Station.reading at hmarks
      rw [hl, Bool.or_true] at hmarks
      exact nomatch hmarks
    unfold HoldSet.isEmpty
    rw [beq_false_of_ne hne, Bool.not_false, Bool.true_and, Bool.or_true]

theorem unusableTaken_matched (s : State) (seq : BitVec 16) (st : StationId) (f : Visit → Visit) :
    ∃ events link,
      unusableTaken { s with queue := visitsChanged s.queue seq st f } st =
        s.matched seq st f (s.station st).lost events link ∧
      Tells (lostRaise st (s.station st)) s (s.matched seq st f (s.station st).lost events link) := by
  have hst : ({ s with queue := visitsChanged s.queue seq st f } : State).station st = s.station st := rfl
  unfold unusableTaken
  dsimp only
  rw [hst]
  cases hl : losesMarks (s.station st) with
  | true =>
    have hlost : ({ s.station st with
        unusable := min 31 ((s.station st).unusable + 1)
        hold := { (s.station st).hold with marksLost := true } } : Station) = (s.station st).lost := by
      unfold Station.lost Station.reading
      rw [hl, Bool.or_true]
    rw [if_pos rfl, hlost]
    let t := ({ s with queue := visitsChanged s.queue seq st f } : State).setStation st (s.station st).lost
    let told := raiseEvent .marksLost st.number (min 31 ((s.station st).unusable + 1)) t
    obtain ⟨events, link, h⟩ := raiseEvent_frame .marksLost st.number (min 31 ((s.station st).unusable + 1)) t
    refine ⟨told.events, told.link, ?_, ?_⟩
    · show told = _
      have hev := congrArg State.events h
      have hlk := congrArg State.link h
      rw [show told.events = events from hev, show told.link = link from hlk]
      exact h
    · unfold lostRaise
      rw [if_pos hl]
      exact (Tells.one .marksLost st.number (min 31 ((s.station st).unusable + 1)) t).congr rfl rfl rfl
  | false =>
    have hlost : ({ s.station st with unusable := min 31 ((s.station st).unusable + 1) } : Station) =
        (s.station st).lost := by
      unfold Station.lost Station.reading
      rw [hl, Bool.or_false]
    rw [if_neg Bool.false_ne_true, hlost]
    refine ⟨s.events, s.link, rfl, ?_⟩
    unfold lostRaise
    rw [hl]
    exact .nothing rfl

/-- The drift after a mark of a record's visit is SEEN (R48). -/
def driftAfter (u : Station) (r : LabelRecord) (mark : Pos) : Int :=
  let observed := sdiff mark r.entryPos - u.setup.path
  let quarter : Int := ((observed - u.drift).natAbs + 2) / 4
  let moved := if u.drift < observed then u.drift + quarter else u.drift - quarter
  if r.origin = .detected then max (-(u.setup.swin : Int)) (min u.setup.swin moved) else u.drift

theorem learnedDrift_eq (drift observed : Int) (swin : Nat) :
    learnedDrift drift observed swin =
      let quarter : Int := ((observed - drift).natAbs + 2) / 4
      max (-(swin : Int)) (min swin (if drift < observed then drift + quarter else drift - quarter)) := by
  have hpos : 0 < observed - drift ↔ drift < observed := Int.sub_pos
  unfold learnedDrift clampInt
  simp only [hpos]
  push_cast
  rfl

/-- The station after a mark of a visit is SEEN (R20, R48). -/
def Station.sighted (u : Station) (r : LabelRecord) (mark : Pos) : Station :=
  u.reading u.hold (driftAfter u r mark) u.unusable { u.channel with state := .out }

theorem Station.sighted_holdsBack (u : Station) (r : LabelRecord) (mark : Pos) :
    (!(u.sighted r mark).hold.isEmpty) = holdsBack u true := by
  unfold holdsBack
  rw [Bool.not_true, Bool.false_and, Bool.or_false]
  rfl

theorem learnDrift_matched (s : State) (r : LabelRecord) (st : StationId) (mark : Pos) (f : Visit → Visit) :
    learnDrift r st mark (modVisit r.seq st f (s.setChannel (.station st) (s.channel (.station st)).leave)) =
      s.matched r.seq st f ((s.station st).sighted r mark) s.events s.link := by
  have hst : (modVisit r.seq st f (s.setChannel (.station st) (s.channel (.station st)).leave)).station st =
      { s.station st with channel := (s.station st).channel.leave } := PerStation.get_put_self ..
  unfold learnDrift
  cases ho : r.origin with
  | predicted =>
    have hdrift : driftAfter (s.station st) r mark = (s.station st).drift := if_neg (by rw [ho]; simp)
    dsimp only
    unfold Station.sighted
    rw [hdrift]
    rfl
  | detected =>
    have hdrift : driftAfter (s.station st) r mark = learnedDrift (s.station st).drift
        (sdiff mark r.entryPos - (s.station st).setup.path) (s.station st).setup.swin :=
      (if_pos ho).trans (learnedDrift_eq ..).symm
    dsimp only
    unfold State.modStation
    rw [hst]
    unfold Station.sighted
    rw [hdrift]
    unfold State.setStation State.matched
    dsimp only
    have hput (x : Station) : (modVisit r.seq st f (s.setChannel (.station st)
        (s.channel (.station st)).leave)).stations.put st x = s.stations.put st x := PerStation.put_put ..
    rw [hput]
    rfl

/-! ### A strike point that lies ahead (R49) -/

theorem strikeIfReached_ahead {s : State} {seq : BitVec 16} {st : StationId} {r : LabelRecord} {v : Visit} {p : Pos}
    (hr : s.record? seq = some r) (hv : r.visit st = some v) (hp : v.strikePt = some p) (h : sdiff s.ref.hw p < 0) :
    strikeIfReached seq st s = s := by
  have hcond : ¬ (v.open && reached s.ref.hw p) = true := fun hand =>
    Int.not_le.mpr h ((reached_iff _ _).mp (Bool.and_eq_true_iff.mp hand).2)
  unfold strikeIfReached
  rw [hr]
  dsimp only
  rw [hv]
  dsimp only
  rw [hp]
  exact if_neg hcond

theorem visitsChanged_visitsChanged (q : List LabelRecord) (seq : BitVec 16) (st : StationId) (f g : Visit → Visit) :
    visitsChanged (visitsChanged q seq st f) seq st g = visitsChanged q seq st fun v => g (f v) := by
  unfold visitsChanged
  rw [List.map_map]
  refine List.map_congr_left fun x _ => ?_
  rw [Function.comp_apply]
  by_cases hx : x.seq = seq
  · simp only [if_pos hx, PerStation.get_put_self, PerStation.put_put, Option.map_map]
    rfl
  · simp only [if_neg hx]

/-- A visit's part as decided: found or given up by `f`, with its station's readings `u`, and the raises `told`. -/
structure Decided (s : State) (r : LabelRecord) (st : StationId) (seen : Bool) (p : Pos) (f : Visit → Visit)
    (u : Station) (told : List Raise) (t : State) : Prop where
  queue : t.queue = visitsChanged s.queue r.seq st fun v => visitCarried s r st seen p (f v)
  stations : t.stations = s.stations.put st
    ((s.requestsOf r.seq st (decisionOf s r st seen p) u).emptiedBy (anyEmptied s r st seen p))
  lane : ∀ l, t.lane l = laneAfter s st (actingLanes s r st seen p) (actedLane s r st p) l
  tells : Tells (told ++ (actingLanes s r st seen p).flatMap (actedRaise s r st p)) s t
  frame : { t with queue := s.queue, stations := s.stations, lanes := s.lanes, events := s.events,
                   link := s.link } = s

section

variable {s : State} {r : LabelRecord} {st : StationId} {seen : Bool} {p : Pos} {f : Visit → Visit} {u : Station}
  {told : List Raise} {t : State}

theorem Carries.decided {events : EventSet} {link : Link}
    (h : Carries st r.seq (visitCarried s r st seen p)
      ((s.requestsOf r.seq st (decisionOf s r st seen p) u).emptiedBy (anyEmptied s r st seen p))
      (laneAfter s st (actingLanes s r st seen p) (actedLane s r st p))
      ((actingLanes s r st seen p).flatMap (actedRaise s r st p)) (s.matched r.seq st f u events link) t)
    (htold : Tells told s (s.matched r.seq st f u events link)) : Decided s r st seen p f u told t where
  queue := h.queue.trans (visitsChanged_visitsChanged ..)
  stations := h.stations.trans (PerStation.put_put ..)
  lane := h.lane
  tells := htold.trans h.tells rfl
  frame := by
    have hframe := congrArg (fun t : State => ({ t with
      queue := s.queue, stations := s.stations, events := s.events, link := s.link } : State)) h.frame
    exact hframe

/-- The record whose visit is decided, as it then stands. -/
def decidedRecord (s : State) (r : LabelRecord) (st : StationId) (seen : Bool) (p : Pos) (v : Visit) : LabelRecord :=
  { r with visits := r.visits.put st (some (visitCarried s r st seen p v)) }

theorem Decided.numbered (h : Decided s r st seen p f u told t) (hn : s.Numbered) : t.Numbered := by
  refine hn.of_seqs (h.queue ▸ visitsChanged_seqs ..) ?_
  have hframe := congrArg State.tracker h.frame
  exact hframe

theorem Decided.length (h : Decided s r st seen p f u told t) : t.queue.length = s.queue.length := by
  rw [h.queue]
  exact List.length_map ..

theorem Decided.ref (h : Decided s r st seen p f u told t) : t.ref = s.ref := by
  have hframe := congrArg State.ref h.frame
  exact hframe

theorem Decided.station (h : Decided s r st seen p f u told t) : t.station st =
    (s.requestsOf r.seq st (decisionOf s r st seen p) u).emptiedBy (anyEmptied s r st seen p) := by
  have hput := congrArg (fun p : PerStation Station => p.get st) h.stations
  exact hput.trans (PerStation.get_put_self ..)

theorem Decided.mem (h : Decided s r st seen p f u told t) (hr : r ∈ s.queue) {v : Visit} (hv : r.visit st = some v) :
    decidedRecord s r st seen p (f v) ∈ t.queue := by
  have hmap : (r.visits.get st).map (fun v => visitCarried s r st seen p (f v)) =
      some (visitCarried s r st seen p (f v)) :=
    congrArg (Option.map fun v => visitCarried s r st seen p (f v)) hv
  rw [h.queue]
  refine List.mem_map.mpr ⟨r, hr, (if_pos rfl).trans ?_⟩
  rw [hmap]
  rfl

/-- The visit decided has its strike point ahead, so that it is not yet taken. -/
theorem Decided.ahead (h : Decided s r st seen p f u told t) (hn : s.Numbered)
    (hlen : s.queue.length ≤ Config.queueCapacity) (hr : r ∈ s.queue) {v : Visit} (hv : r.visit st = some v)
    (hpt : (f v).strikePt = some p) (hp : sdiff s.ref.hw p < 0) : strikeIfReached r.seq st t = t := by
  have hrec : t.record? r.seq = some (decidedRecord s r st seen p (f v)) :=
    (h.numbered hn).record?_eq (r := decidedRecord s r st seen p (f v)) (h.length.trans_le hlen) (h.mem hr hv)
  exact strikeIfReached_ahead (v := visitCarried s r st seen p (f v)) hrec (PerStation.get_put_self ..) hpt
    (by rw [h.ref]; exact hp)

/-! ### The window's expiry (R47) -/

/-- A visit given up at its window's expiry. -/
def predictedVisit (lead : Int) (v : Visit) : Visit :=
  { v with state := .predicted, strikePt := some (posShift v.expected lead) }

theorem stationWindowExpiry_decides (hn : s.Numbered) (hlen : s.queue.length ≤ Config.queueCapacity) (hr : r ∈ s.queue)
    {v : Visit} (hv : r.visit st = some v)
    (hnext : nextThreshold s { pos := v.expiry, seq := r.seq, station := st, kind := .window })
    (hpt : p = posShift v.expected (s.station st).setup.lead) (hp : sdiff s.ref.hw p < 0) :
    Decided s r st false p (predictedVisit (s.station st).setup.lead) (s.station st).lost (lostRaise st (s.station st))
      (stationWindowExpiry s) := by
  obtain ⟨events, link, hlost, htells⟩ :=
    unusableTaken_matched s r.seq st (predictedVisit (s.station st).setup.lead)
  have hstrike : (predictedVisit (s.station st).setup.lead v).strikePt = some p := congrArg some hpt.symm
  have hdecided := (decideVisit_carries (seen := false) hn hlen hr hv hstrike rfl (u := (s.station st).lost) rfl rfl
    (Station.lost_holdsBack _) events link).decided htells
  have hrun : stationWindowExpiry s = strikeIfReached r.seq st (decideVisit r.seq st (s.matched r.seq st
      (predictedVisit (s.station st).setup.lead) (s.station st).lost events link)) := by
    rw [← hlost, ← unusableReading_eq]
    unfold stationWindowExpiry
    rw [nextDue_eq hnext]
    rfl
  rw [hrun, hdecided.ahead hn hlen hr hv hstrike hp]
  exact hdecided

/-! ### A mark in the window (R45) -/

/-- A visit found by a mark. -/
def seenVisit (mark : Pos) (lead : Int) (v : Visit) : Visit :=
  { v with state := .seen, markPos := some mark, strikePt := some (posShift mark lead) }

/-- The part with a visit found and decided, before the mark is handed over. -/
def sightDecided (s : State) (r : LabelRecord) (st : StationId) (mark : Pos) : State :=
  decideVisit r.seq st (s.matched r.seq st (seenVisit mark (s.station st).setup.lead) ((s.station st).sighted r mark)
    s.events s.link)

theorem sightDecided_decides (hn : s.Numbered) (hlen : s.queue.length ≤ Config.queueCapacity) (hr : r ∈ s.queue)
    {v : Visit} (hv : r.visit st = some v) (mark : Pos) :
    Decided s r st true (posShift mark (s.station st).setup.lead) (seenVisit mark (s.station st).setup.lead)
      ((s.station st).sighted r mark) [] (sightDecided s r st mark) :=
  (decideVisit_carries (seen := true) hn hlen hr hv (f := seenVisit mark (s.station st).setup.lead) rfl rfl
    (u := (s.station st).sighted r mark) rfl rfl (Station.sighted_holdsBack ..) s.events s.link).decided (.nothing rfl)

theorem markTrailingEdge_decides (hn : s.Numbered) (hlen : s.queue.length ≤ Config.queueCapacity) (hr : r ∈ s.queue)
    {v : Visit} (hv : r.visit st = some v) {mark q : Pos} {k : MarkClass} (hahead : 0 ≤ sdiff s.web s.ref.hw)
    (he : (s.station st).setup.enabled = true) (hin : (s.station st).channel.state = .inMark mark q)
    (hk : s.entry.classify (sdiff s.web mark) = some k) (hold : s.oldestWaiting st = some (r, v))
    (hwin : (sdiff mark v.expected).natAbs ≤ v.swin)
    (hp : sdiff s.ref.hw (posShift mark (s.station st).setup.lead) < 0) :
    markTrailingEdge (.station st) s = handedOver (sightDecided s r st mark) st mark r.seq r.slot := by
  have hbehind : s.behind = false := decide_eq_false (Int.not_lt.mpr hahead)
  have hdecided := sightDecided_decides hn hlen hr hv mark
  let x := s.setChannel (.station st) (s.channel (.station st)).leave
  have hqualified : qualified (.station st) mark k x = stationMatch st mark r x := by
    have henabled : x.enabled st = true := (setChannel_enabled ..).trans he
    have holdest : x.oldestWaiting st = some (r, v) := hold
    unfold qualified stationMark
    dsimp only
    rw [henabled, if_pos rfl, holdest]
    exact if_pos (decide_eq_true hwin)
  have hst : x.station st = { s.station st with channel := (s.station st).channel.leave } :=
    PerStation.get_put_self ..
  have hlead : (x.station st).setup.lead = (s.station st).setup.lead := by
    rw [hst]
  have hmatch : stationMatch st mark r x =
      takeMark st mark r.seq r.slot (strikeIfReached r.seq st (sightDecided s r st mark)) := by
    unfold stationMatch sightDecided
    rw [← learnDrift_matched, ← hlead]
    rfl
  rw [markTrailingEdge_qualified (ch := .station st) hbehind hin hk, hqualified, hmatch, hdecided.ahead hn hlen hr hv rfl hp,
    takeMark_eq (hdecided.numbered hn) (hdecided.length.trans_le hlen)]

end

end Sys2Proof.Machine
end

section

/-!
## Decisions and the lanes

How a visit taken ends, whichever command takes it, and what the decision did to the lanes (R120 to R128, R130).
-/

namespace Sys2Proof.Machine

section

variable {s : State} {r : LabelRecord} {st : StationId} {seen : Bool} {p : Pos}

/-! ### A visit taken (R45, R47) -/

/-- The register unit does nothing more. -/
theorem Hands.still (st : StationId) (s : State) :
    Hands { loop := (s.station st).loop, unusable := (s.station st).unusable
            marksLost := (s.station st).hold.marksLost, change := fun _ v => v, raised := [] } st s s where
  queue := (visitsAt_id ..).symm
  stations := (PerStation.put_get s.stations st).symm
  tells := .nothing rfl
  frame := rfl

/-- A visit taken is decided, and then the register unit takes the mark, if there is one. -/
structure Taken (s : State) (r : LabelRecord) (st : StationId) (seen : Bool) (p : Pos) (f : Visit → Visit) (u : Station)
    (told : List Raise) (h : Handing) (d t : State) : Prop where
  decided : Decided s r st seen p f u told d
  ofRegister : h.OfRegister
  hands : Hands h st d t
  toldKinds : ∀ x ∈ told, x.kind = .marksLost
  setup : u.setup = (s.station st).setup
  foilOut : u.hold.foilOut = (s.station st).hold.foilOut
  feeds : ∀ v, (f v).feeds = v.feeds

theorem lostRaise_kinds (st : StationId) (u : Station) : ∀ x ∈ lostRaise st u, x.kind = .marksLost := by
  unfold lostRaise
  split
  · exact fun x hx => List.mem_singleton.mp hx ▸ rfl
  · exact fun x hx => nomatch hx

theorem takesVisit_taken (hn : s.Numbered) (hlen : s.queue.length ≤ Config.queueCapacity) (hr : r ∈ s.queue) {v : Visit}
    (hv : r.visit st = some v) {i : Instr} (htakes : takesVisit s st r v i seen p) (hp : sdiff s.ref.hw p < 0) :
    ∃ f u told h d t, exec i s = .next t ∧ Taken s r st seen p f u told h d t := by
  obtain ⟨rfl, rfl, hnext, hpt⟩ | ⟨lead, q, k, rfl, rfl, hahead, he, hin, hk, hold, hwin, rfl⟩ := htakes
  · exact ⟨_, _, _, _, _, _, rfl, stationWindowExpiry_decides hn hlen hr hv hnext hpt hp,
      Handing.ofRegister_still .., .still .., lostRaise_kinds _ _, rfl, rfl, fun _ => rfl⟩
  · obtain ⟨h, hreg, hacts⟩ := actsAlike_handedOver (st := st) (s := sightDecided s r st lead) lead r.seq r.slot
    have hexec : exec (.markTrailingEdge (.station st)) s =
        .next (handedOver (sightDecided s r st lead) st lead r.seq r.slot) :=
      congrArg Host.Outcome.next (markTrailingEdge_decides hn hlen hr hv hahead he hin hk hold hwin hp)
    exact ⟨_, _, _, h, _, _, hexec, sightDecided_decides hn hlen hr hv lead, hreg, hacts _ (.refl ..),
      (fun x hx => nomatch hx), rfl, rfl, fun _ => rfl⟩

/-! ### The lanes of a decision (R125 to R128) -/

theorem mem_actingLanes {l : LaneId} : l ∈ actingLanes s r st seen p ↔
    reachesCheck s r st seen p = true ∧ l ∈ concernedLanes s st r.motif := by
  unfold actingLanes
  cases reachesCheck s r st seen p <;> simp

theorem actingLanes_ordered : (actingLanes s r st seen p).Pairwise fun l l' => l.number < l'.number := by
  unfold actingLanes
  split
  · exact allLanes_ordered.filter _
  · exact .nil

theorem laneAfter_acting (l : LaneId) : laneAfter s st (actingLanes s r st seen p) (actedLane s r st p) l =
    if (s.lane l).station ≠ some st then s.lane l
    else if (reachesCheck s r st seen p && (laneReason s r st p).isNone &&
        (concernedLanes s st r.motif).contains l) = true then fed (s.lane l) r.seq (feedOf s r p l)
    else if (reachesCheck s r st seen p && (laneReason s r st p).isSome &&
        (concernedLanes s st r.motif).contains l) = true then
      idled (failed s (s.lane l) (feedOf s r p l)) s.web
    else idled (s.lane l) s.web := by
  unfold laneAfter
  refine if_congr .rfl rfl ?_
  by_cases hl : l ∈ actingLanes s r st seen p
  · obtain ⟨hreach, hin⟩ := mem_actingLanes.mp hl
    rw [if_pos hl, actedLane, hreach, List.contains_iff_mem.mpr hin]
    cases laneReason s r st p <;> rfl
  · have hnot : (reachesCheck s r st seen p && (concernedLanes s st r.motif).contains l) = false := by
      rw [mem_actingLanes, ← List.contains_iff_mem, ← Bool.and_eq_true, Bool.not_eq_true] at hl
      exact hl
    have hand (b : Bool) : (reachesCheck s r st seen p && b && (concernedLanes s st r.motif).contains l) = false := by
      rw [Bool.and_right_comm, hnot, Bool.false_and]
    rw [if_neg hl, hand, hand, if_neg Bool.false_ne_true, if_neg Bool.false_ne_true]

theorem anyEmptied_eq : anyEmptied s r st seen p = allLanes.any fun l =>
    reachesCheck s r st seen p && (laneReason s r st p).isSome && (concernedLanes s st r.motif).contains l &&
      emptied (s.lane l) (feedOf s r p l) := by
  unfold anyEmptied
  rw [Bool.eq_iff_iff]
  simp only [Bool.and_eq_true, List.any_eq_true, mem_actingLanes, List.contains_iff_mem]
  constructor
  · rintro ⟨hsome, l, ⟨hreach, hin⟩, he⟩
    exact ⟨l, mem_allLanes l, ⟨⟨hreach, hsome⟩, hin⟩, he⟩
  · rintro ⟨l, -, ⟨⟨hreach, hsome⟩, hin⟩, he⟩
    exact ⟨hsome, l, ⟨hreach, hin⟩, he⟩

/-! ### What a decision tells (R125, R130) -/

theorem actedRaise_kinds {l : LaneId} : ∀ x ∈ actedRaise s r st p l, x.kind = .foilLow ∨ x.kind = .foilOut := by
  unfold actedRaise lowRaise emptiedRaise
  repeat' split
  all_goals intro x hx
  · exact .inl (List.mem_singleton.mp hx ▸ rfl)
  · exact nomatch hx
  · exact .inr (List.mem_singleton.mp hx ▸ rfl)
  · exact nomatch hx

variable {f : Visit → Visit} {u : Station} {told : List Raise} {h : Handing} {d t : State}

theorem Taken.tells (ht : Taken s r st seen p f u told h d t) :
    Tells (told ++ (actingLanes s r st seen p).flatMap (actedRaise s r st p) ++ h.raised) s t :=
  ht.decided.tells.trans ht.hands.tells (congrArg Reference.web ht.decided.ref)

/-- The lane of the highest number among those that raise has the last word. -/
theorem Taken.highest (ht : Taken s r st seen p f u told h d t) {l : LaneId} (hl : l ∈ actingLanes s r st seen p)
    {x : Raise} (hx : actedRaise s r st p l = [x])
    (hmax : ∀ l' ∈ actingLanes s r st seen p, l.number < l'.number → actedRaise s r st p l' = []) :
    x.kind.isIn t.events.flags = true ∧
      t.events.record x.kind = { unit := x.unit, detail := x.detail, web := s.web } := by
  obtain ⟨before, hlast⟩ := flatMap_highest actingLanes_ordered hl hx hmax
  have hkind : x.kind = .foilLow ∨ x.kind = .foilOut := actedRaise_kinds (l := l) x (by rw [hx]; exact List.mem_cons_self)
  have htells := ht.tells
  rw [hlast, List.append_assoc, List.append_assoc, List.singleton_append, ← List.append_assoc] at htells
  refine htells.last fun y hy heq => ?_
  rw [← heq] at hkind
  have hreg := ht.ofRegister.kinds y hy
  obtain hkind | hkind := hkind <;> rw [hkind] at hreg <;> simp at hreg

/-- A kind of the lanes that no acting lane raises is left as it was. -/
theorem Taken.quiet (ht : Taken s r st seen p f u told h d t) {k : EventKind} (hk : k = .foilLow ∨ k = .foilOut)
    (hnone : ∀ l ∈ actingLanes s r st seen p, ∀ x ∈ actedRaise s r st p l, x.kind ≠ k) :
    t.events.record k = s.events.record k ∧ k.isIn t.events.flags = k.isIn s.events.flags := by
  refine ht.tells.quiet fun x hx heq => ?_
  rw [List.mem_append, List.mem_append, List.mem_flatMap] at hx
  obtain (hx | ⟨l, hl, hx⟩) | hx := hx
  · have hm := ht.toldKinds x hx
    rw [heq] at hm
    obtain rfl | rfl := hk <;> exact nomatch hm
  · exact hnone l hl x hx heq
  · have hreg := ht.ofRegister.kinds x hx
    rw [heq] at hreg
    obtain rfl | rfl := hk <;> simp at hreg

/-! ### The visit and the station afterwards -/

/-- The record of the visit, when all is done. -/
def takenRecord (r : LabelRecord) (st : StationId) (w : Visit) : LabelRecord :=
  { r with visits := r.visits.put st (some w) }

theorem Taken.mem (ht : Taken s r st seen p f u told h d t) (hr : r ∈ s.queue) {v : Visit} (hv : r.visit st = some v) :
    takenRecord r st (h.change r.seq (visitCarried s r st seen p (f v))) ∈ t.queue := by
  rw [ht.hands.queue]
  refine List.mem_map.mpr ⟨_, ht.decided.mem hr hv, ?_⟩
  have hvisit : (decidedRecord s r st seen p (f v)).visits.get st = some (visitCarried s r st seen p (f v)) :=
    PerStation.get_put_self ..
  rw [hvisit]
  exact congrArg (fun visits => ({ r with visits := visits } : LabelRecord)) (PerStation.put_put ..)

theorem takenRecord_visit (r : LabelRecord) (st : StationId) (w : Visit) : (takenRecord r st w).visit st = some w :=
  PerStation.get_put_self ..

/-- The register unit leaves a visit's decision and its feeds. -/
theorem Taken.visit (ht : Taken s r st seen p f u told h d t) (v : Visit) :
    (h.change r.seq v).decision = v.decision ∧ (h.change r.seq v).feeds = v.feeds := by
  have hfields := ht.ofRegister.fields r.seq v
  have hd := congrArg Visit.decision hfields
  have hf := congrArg Visit.feeds hfields
  exact ⟨hd, hf⟩

theorem Taken.lane (ht : Taken s r st seen p f u told h d t) (l : LaneId) :
    t.lane l = laneAfter s st (actingLanes s r st seen p) (actedLane s r st p) l := by
  have hlanes := congrArg (fun x : State => x.lane l) ht.hands.frame
  exact hlanes.trans (ht.decided.lane l)

theorem requesting_hold (u : Station) (d : Decision) (a b : Bool) :
    (u.requesting d a b).hold = u.hold ∧ (u.requesting d a b).setup = u.setup := by
  unfold Station.requesting
  dsimp only
  obtain ⟨_, _, _, hlift⟩ := ({ u with idleLift := none } : Station).lift_frame
  obtain ⟨_, _, _, hengage⟩ := ({ u with idleLift := none } : Station).engage_frame
  rw [hlift, hengage]
  split
  · split <;> exact ⟨rfl, rfl⟩
  · split <;> exact ⟨rfl, rfl⟩

theorem Taken.holdFoilOut (ht : Taken s r st seen p f u told h d t) : (t.station st).hold.foilOut =
    ((s.station st).hold.foilOut || ((s.station st).setup.enabled && anyEmptied s r st seen p)) := by
  have hst : (t.station st).hold.foilOut = (d.station st).hold.foilOut := by
    rw [ht.hands.station]
    rfl
  obtain ⟨hhold, hsetup⟩ := requesting_hold u (decisionOf s r st seen p)
    ((visitsOf st (recordsBefore r.seq s.queue)).any fun v => v.skips && v.open)
    ((visitsOf st (recordsBefore r.seq s.queue)).any Visit.undelivered)
  rw [hst, ht.decided.station]
  unfold Station.emptiedBy State.requestsOf
  dsimp only
  rw [hhold, hsetup, ht.setup, ht.foilOut]

end

end Sys2Proof.Machine

namespace Sys2Proof.Proofs

open Sys2Proof.Machine

/-- Settles O51, by the lanes that act in a decision, each with what it raises, in lane order. -/
theorem foilStrikeCommitsTheFeeds : Obligations.FoilStrikeCommitsTheFeeds := by
  unfold Obligations.FoilStrikeCommitsTheFeeds
  intro s st r v i seen p hn hcap hr hv _ htakes hp u concerned fails commits empties left lows
  obtain ⟨f, w, told, h, d, t, hexec, ht⟩ := takesVisit_taken hn hcap.queue hr hv htakes hp
  obtain ⟨hdecision, hfeeds⟩ := ht.visit (visitCarried s r st seen p (f v))
  have hacting {l : LaneId} (hreach : reachesCheck s r st seen p = true) (hl : concerned.contains l = true) :
      l ∈ actingLanes s r st seen p := mem_actingLanes.mpr ⟨hreach, List.contains_iff_mem.mp hl⟩
  refine ⟨t, takenRecord r st (h.change r.seq (visitCarried s r st seen p (f v))), _, hexec, ht.mem hr hv, rfl,
    takenRecord_visit .., fun hcommits => ?_, fun hskip => ?_, fun l => ?_, ?_, fun l hl hmax => ?_,
    fun l hl hmax => ?_, fun hnone => ?_⟩
  · obtain ⟨hreach, hl⟩ := Bool.and_eq_true_iff.mp hcommits
    have hnone : earlyReason s r st seen p = none := Option.isNone_iff_eq_none.mp (Bool.and_eq_true_iff.mp hreach).2
    have hd := decisionOf_strike hnone (.inr (Option.isNone_iff_eq_none.mp hl))
    have hlanes : actingLanes s r st seen p = concerned := if_pos hreach
    refine ⟨hdecision.trans (congrArg some hd), hfeeds.trans ((if_pos hd).trans ?_)⟩
    rw [hlanes]
    rfl
  · have hd : decisionOf s r st seen p ≠ .strike := fun hd => hskip (hdecision.trans (congrArg some hd))
    exact (hfeeds.trans (if_neg hd)).trans (ht.feeds v)
  · exact (ht.lane l).trans (laneAfter_acting l)
  · rw [ht.holdFoilOut, anyEmptied_eq]
  · obtain ⟨hin, he⟩ := Bool.and_eq_true_iff.mp hl
    obtain ⟨hfails, hc⟩ := Bool.and_eq_true_iff.mp hin
    obtain ⟨hreach, hsome⟩ := Bool.and_eq_true_iff.mp hfails
    have hnone : ¬ (laneReason s r st p).isNone = true := by
      cases hx : laneReason s r st p <;> simp [hx] at hsome ⊢
    refine ht.highest (hacting hreach hc) (x := { kind := .foilOut, unit := l.number, detail := r.seq.toNat })
      ((if_neg hnone).trans (if_pos he)) fun l' hl' hlt => (if_neg hnone).trans (if_neg fun he' => ?_)
    have hempties : empties l' = true := by
      have hc' := List.contains_iff_mem.mpr (mem_actingLanes.mp hl').2
      exact Bool.and_eq_true_iff.mpr ⟨Bool.and_eq_true_iff.mpr ⟨hfails, hc'⟩, he'⟩
    exact absurd (hmax l' hempties) (Nat.not_le.mpr hlt)
  · obtain ⟨hin, hbelow⟩ := Bool.and_eq_true_iff.mp hl
    obtain ⟨hin, hwarned⟩ := Bool.and_eq_true_iff.mp hin
    obtain ⟨hcommits, hc⟩ := Bool.and_eq_true_iff.mp hin
    obtain ⟨hreach, hnone⟩ := Bool.and_eq_true_iff.mp hcommits
    refine ht.highest (hacting hreach hc) (x := {
        kind := .foilLow, unit := l.number, detail := min 65535 (left l / 100000) })
      ((if_pos hnone).trans (if_pos (Bool.and_eq_true_iff.mpr ⟨hwarned, hbelow⟩)))
      fun l' hl' hlt => (if_pos hnone).trans (if_neg fun hlow => ?_)
    have hlows : lows l' = true := by
      have hc' := List.contains_iff_mem.mpr (mem_actingLanes.mp hl').2
      obtain ⟨hwarned', hbelow'⟩ := Bool.and_eq_true_iff.mp hlow
      exact Bool.and_eq_true_iff.mpr ⟨Bool.and_eq_true_iff.mpr ⟨Bool.and_eq_true_iff.mpr ⟨hcommits, hc'⟩, hwarned'⟩,
        hbelow'⟩
    exact absurd (hmax l' hlows) (Nat.not_le.mpr hlt)
  · refine ht.quiet (.inl rfl) fun l hl x hx heq => ?_
    obtain ⟨hreach, hin⟩ := mem_actingLanes.mp hl
    have hlow := hnone l
    unfold actedRaise lowRaise emptiedRaise at hx
    split at hx
    · next hl =>
      split at hx
      · next hlowers =>
        obtain ⟨hwarned, hbelow⟩ := Bool.and_eq_true_iff.mp hlowers
        have hlows : lows l = true := Bool.and_eq_true_iff.mpr ⟨Bool.and_eq_true_iff.mpr
          ⟨Bool.and_eq_true_iff.mpr ⟨Bool.and_eq_true_iff.mpr ⟨hreach, hl⟩, List.contains_iff_mem.mpr hin⟩, hwarned⟩,
          hbelow⟩
        exact Bool.false_ne_true (hlow.symm.trans hlows)
      · exact nomatch hx
    · split at hx
      · rw [List.mem_singleton.mp hx] at heq
        exact nomatch heq
      · exact nomatch hx

end Sys2Proof.Proofs
end

section

/-!
## Visits decided

The station, the queue and the register events after a visit is taken (R45, R47, R48, R50, R70, R105, R106), and the
window's row when the queue's next threshold is not its own.
-/

namespace Sys2Proof.Machine

section

variable {s : State} {r : LabelRecord} {st : StationId} {seen : Bool} {p : Pos}

/-! ### The station (R105, R106) -/

theorem Station.requesting_frame (u : Station) (d : Decision) (a b : Bool) :
    ∃ valve actuator stroke idleLift, u.requesting d a b =
      { u with valve := valve, actuator := actuator, stroke := stroke, idleLift := idleLift } := by
  unfold Station.requesting
  dsimp only
  obtain ⟨_, _, _, hlift⟩ := ({ u with idleLift := none } : Station).lift_frame
  obtain ⟨_, _, _, hengage⟩ := ({ u with idleLift := none } : Station).engage_frame
  rw [hlift, hengage]
  split
  · split <;> exact ⟨_, _, _, _, rfl⟩
  · split <;> exact ⟨_, _, _, _, rfl⟩

/-- A station's readings and its requests do not touch each other. -/
theorem requestsOf_reading (s : State) (seq : BitVec 16) (st : StationId) (d : Decision) (u : Station) (hold : HoldSet)
    (drift : Int) (unusable : Nat) (channel : MarkChannel) :
    s.requestsOf seq st d (u.reading hold drift unusable channel) =
      (s.requestsOf seq st d u).reading hold drift unusable channel := Station.requesting_reading ..

variable {f : Visit → Visit} {u : Station} {told : List Raise} {h : Handing} {d t : State}

/-- The station given up: the requests of its decision, with the run and MARKS_LOST. -/
theorem Decided.lost_station (ht : Decided s r st seen p f (s.station st).lost told t) :
    t.station st = { requested s r st (decisionOf s r st seen p) with
      unusable := min 31 ((s.station st).unusable + 1)
      hold := { (s.station st).hold with
        marksLost := (s.station st).hold.marksLost || losesMarks (s.station st)
        foilOut := (t.station st).hold.foilOut } } := by
  have hst := ht.station
  have hfoil := congrArg (fun u : Station => u.hold.foilOut) hst
  rw [Station.lost, requestsOf_reading, ← requested_eq] at hst hfoil
  obtain ⟨_, _, _, _, hx⟩ := Station.requesting_frame (s.station st) (decisionOf s r st seen p)
    ((visitsOf st (recordsBefore r.seq s.queue)).any fun v => v.skips && v.open)
    ((visitsOf st (recordsBefore r.seq s.queue)).any Visit.undelivered)
  have hreq : requested s r st (decisionOf s r st seen p) = _ := (requested_eq ..).trans hx
  rw [hreq] at hst hfoil ⊢
  rw [hfoil, hst]
  rfl

/-- The station sighted: the requests of its decision, with the channel and the drift. -/
theorem Decided.sighted_station {mark : Pos} (ht : Decided s r st seen p f ((s.station st).sighted r mark) told d)
    (hd : Hands h st d t) :
    t.station st = { requested s r st (decisionOf s r st seen p) with
      channel := { (s.station st).channel with state := .out }
      drift := driftAfter (s.station st) r mark
      loop := h.loop
      unusable := h.unusable
      hold := { (s.station st).hold with marksLost := h.marksLost, foilOut := (t.station st).hold.foilOut } } := by
  have hst := hd.station.trans (congrArg (fun u : Station => u.handed h) ht.station)
  have hfoil := congrArg (fun u : Station => u.hold.foilOut) hst
  rw [Station.sighted, requestsOf_reading, ← requested_eq] at hst hfoil
  obtain ⟨_, _, _, _, hx⟩ := Station.requesting_frame (s.station st) (decisionOf s r st seen p)
    ((visitsOf st (recordsBefore r.seq s.queue)).any fun v => v.skips && v.open)
    ((visitsOf st (recordsBefore r.seq s.queue)).any Visit.undelivered)
  have hreq : requested s r st (decisionOf s r st seen p) = _ := (requested_eq ..).trans hx
  rw [hreq] at hst hfoil ⊢
  rw [hfoil, hst]
  rfl

/-- A visit decided reads to the register unit as it did before. -/
theorem Decided.reads {mark : Pos} (ht : Decided s r st seen p f ((s.station st).sighted r mark) told d) :
    Reads st s d := by
  have hst := ht.station
  rw [Station.sighted, requestsOf_reading] at hst
  obtain ⟨_, _, _, _, hx⟩ := Station.requesting_frame (s.station st) (decisionOf s r st seen p)
    ((visitsOf st (recordsBefore r.seq s.queue)).any fun v => v.skips && v.open)
    ((visitsOf st (recordsBefore r.seq s.queue)).any Visit.undelivered)
  have hreq : s.requestsOf r.seq st (decisionOf s r st seen p) (s.station st) = _ := hx
  rw [hreq] at hst
  exact ⟨by rw [hst]; rfl, by rw [hst]; rfl, by rw [hst]; rfl, by rw [hst]; rfl, ht.ref⟩

/-! ### The queue (R70) -/

theorem Decided.other (ht : Decided s r st seen p f u told t) {y : LabelRecord} (hy : y ∈ s.queue) (hne : y.seq ≠ r.seq) :
    y ∈ t.queue := by
  rw [ht.queue]
  exact List.mem_map.mpr ⟨y, hy, if_neg hne⟩

/-- The register unit finds the register fields of the visits as they were. -/
theorem hands_alike {m : State} (ht : Decided s r st seen p f u told d) (hreg : h.OfRegister) (hm : Hands h st s m)
    (hd : Hands h st d t)
    (hf : ∀ v, (visitCarried s r st seen p (f v)).error = v.error ∧
      (visitCarried s r st seen p (f v)).regFlags = v.regFlags) {j : Nat} {a b : LabelRecord}
    (ha : m.queue[j]? = some a) (hb : t.queue[j]? = some b) :
    (a.seq ≠ r.seq → b = a) ∧
      (a.seq = r.seq → (b.visit st).map Visit.error = (a.visit st).map Visit.error ∧
        (b.visit st).map Visit.regFlags = (a.visit st).map Visit.regFlags) := by
  rw [hm.queue, visitsAt, List.getElem?_map] at ha
  rw [hd.queue, ht.queue, visitsAt, visitsChanged, List.getElem?_map, List.getElem?_map] at hb
  obtain ⟨x, hx, rfl⟩ := Option.map_eq_some_iff.mp ha
  rw [hx, Option.map_some, Option.map_some, Option.some.injEq] at hb
  subst hb
  refine ⟨fun hne => ?_, fun heq => ?_⟩
  · rw [if_neg hne]
  · rw [if_pos heq]
    unfold LabelRecord.visit
    simp only [PerStation.get_put_self, PerStation.put_put, Option.map_map]
    cases x.visits.get st with
    | none => exact ⟨rfl, rfl⟩
    | some w =>
      obtain ⟨he, hr⟩ := hf w
      obtain ⟨he', hr'⟩ := hreg.alike x.seq _ _ he hr
      exact ⟨congrArg some he', congrArg some hr'⟩

end

/-! ### A threshold that is not the window's (R9) -/

theorem stationWindowExpiry_strike {s : State} {x : DueThreshold} (h : nextThreshold s x) (hk : x.kind = .strike) :
    stationWindowExpiry s = s := by
  unfold stationWindowExpiry
  rw [nextDue_eq h]
  dsimp only
  rw [hk]

theorem queue_not_due {s : State} (h : ∀ x ∈ queueThresholds s.queue, sdiff s.ref.hw x.pos < 0) :
    stationWindowExpiry s = s ∧ strikePoint s = s := by
  have hnone : s.nextDue = none := nextDue_none s.ref.hw (queueThresholds s.queue) h
  unfold stationWindowExpiry strikePoint
  rw [hnone]
  exact ⟨rfl, rfl⟩

/-! ### What the two commands make of a visit -/

section

variable {s : State} {r : LabelRecord} {st : StationId} {v : Visit} {p : Pos}

/-- What every taking of a visit keeps to. -/
theorem Taken.keeps {seen : Bool} {f : Visit → Visit} {u : Station} {told : List Raise} {h : Handing} {d t : State}
    (ht : Taken s r st seen p f u told h d t) :
    { t with stations := s.stations, lanes := s.lanes, queue := s.queue, events := s.events, link := s.link } = s ∧
      ∀ st', st' ≠ st → t.station st' = s.station st' := by
  refine ⟨?_, fun st' hne => ?_⟩
  · have hframe := congrArg (fun x : State => ({ x with
      stations := s.stations, lanes := s.lanes, queue := s.queue, events := s.events, link := s.link } : State))
      ht.hands.frame
    exact hframe.trans ht.decided.frame
  · have hstations := ht.hands.stations.trans (by rw [ht.decided.stations, PerStation.put_put])
    exact (congrArg (fun p : PerStation Station => p.get st') hstations).trans (PerStation.get_put_of_ne _ hne _)

theorem takenRecord_other (r : LabelRecord) (w : Visit) {st' : StationId} (h : st' ≠ st) :
    (takenRecord r st w).visit st' = r.visit st' := PerStation.get_put_of_ne _ h _

/-- A visit given up at its window's expiry. -/
theorem window_taken (hn : s.Numbered) (hlen : s.queue.length ≤ Config.queueCapacity) (hr : r ∈ s.queue)
    (hv : r.visit st = some v)
    (hnext : nextThreshold s { pos := v.expiry, seq := r.seq, station := st, kind := .window })
    (hpt : p = posShift v.expected (s.station st).setup.lead) (hp : sdiff s.ref.hw p < 0) :
    ∃ h, Taken s r st false p (predictedVisit (s.station st).setup.lead) (s.station st).lost
      (lostRaise st (s.station st)) h (stationWindowExpiry s) (stationWindowExpiry s) ∧
      h.raised = [] ∧ ∀ n w, h.change n w = w :=
  ⟨_, ⟨stationWindowExpiry_decides hn hlen hr hv hnext hpt hp, Handing.ofRegister_still .., .still ..,
    lostRaise_kinds _ _, rfl, rfl, fun _ => rfl⟩, rfl, fun _ _ => rfl⟩

/-- MARKS_LOST is told of a visit given up at the miss limit (R51). -/
theorem Taken.lost {seen : Bool} {f : Visit → Visit} {u : Station} {h : Handing} {d t : State}
    (ht : Taken s r st seen p f u (lostRaise st (s.station st)) h d t) (hraised : h.raised = [])
    (hlost : losesMarks (s.station st) = true) : t.events.record .marksLost =
      { unit := st.number, detail := min 31 ((s.station st).unusable + 1), web := s.web } := by
  have htold : lostRaise st (s.station st) =
      [{ kind := .marksLost, unit := st.number, detail := min 31 ((s.station st).unusable + 1) }] := if_pos hlost
  have htells := ht.tells
  rw [hraised, List.append_nil, htold, List.singleton_append] at htells
  refine (Tells.last (raised := []) htells fun y hy heq => ?_).2
  obtain ⟨l, _, hy⟩ := List.mem_flatMap.mp hy
  have hkind := actedRaise_kinds y hy
  rw [heq] at hkind
  simp at hkind

/-- The register events of a visit sighted are those of its mark handed over. -/
theorem Taken.registerEvents {f : Visit → Visit} {u : Station} {h : Handing} {d t m : State}
    (ht : Taken s r st true p f u [] h d t) (hm : Tells h.raised s m) {k : EventKind} (hlow : k ≠ .foilLow)
    (hout : k ≠ .foilOut) :
    t.events.record k = m.events.record k ∧ k.isIn t.events.flags = k.isIn m.events.flags := by
  have hweb : d.web = s.web := congrArg Reference.web ht.decided.ref
  obtain ⟨hrecord, hflags⟩ := ht.decided.tells.quiet (k := k) fun x hx heq => by
    obtain ⟨l, _, hx⟩ := List.mem_flatMap.mp hx
    exact (actedRaise_kinds x hx).elim (fun h => hlow (heq.symm.trans h)) fun h => hout (heq.symm.trans h)
  exact ⟨by rw [ht.hands.tells.record, hm.record, hweb, hrecord], by rw [ht.hands.tells.flags, hm.flags, hflags]⟩

end

end Sys2Proof.Machine

namespace Sys2Proof.Proofs

open Sys2Proof.Machine

/-- Settles O50, by the two ways a visit is taken, the decision they share, and the register unit's acting alike. -/
theorem visitsAreDecided : Obligations.VisitsAreDecided := by
  unfold Obligations.VisitsAreDecided
  refine ⟨?_, fun s => ⟨fun x hx hk => congrArg Host.Outcome.next (stationWindowExpiry_strike hx hk), fun h => ?_⟩⟩
  · intro s st r v i seen p hn hcap hr hv _ htakes hp u x
    obtain ⟨rfl, rfl, hnext, hpt⟩ | ⟨lead, q, k, rfl, rfl, hahead, he, hin, hk, hold, hwin, hpt⟩ := htakes
    · obtain ⟨h, ht, hraised, hchange⟩ := window_taken hn hcap.queue hr hv hnext hpt hp
      obtain ⟨hframe, hothers⟩ := ht.keeps
      have hvisit := takenRecord_visit r st (h.change r.seq (visitCarried s r st false p (predictedVisit u.setup.lead v)))
      have hmem := ht.mem hr hv
      rw [hchange] at hvisit hmem
      refine ⟨_, _, _, rfl, hmem, rfl, hvisit, fun st' hne => ⟨takenRecord_other r _ hne, hothers st' hne⟩,
        congrArg some hpt.symm, rfl, hframe, fun _ => ⟨rfl, rfl, fun y hy hne => ht.decided.other hy hne,
        ht.decided.lost_station, fun hlost => ?_⟩, fun hseen => nomatch hseen⟩
      exact ht.lost hraised hlost
    · subst hpt
      have hdecided := sightDecided_decides hn hcap.queue hr hv lead
      obtain ⟨h, hreg, hacts⟩ := actsAlike_handedOver (st := st) (s := s) lead r.seq r.slot
      have hm := hacts s (.refl st s)
      have hd := hacts (sightDecided s r st lead) hdecided.reads
      have ht : Taken s r st true _ _ _ [] h _ _ :=
        ⟨hdecided, hreg, hd, (fun x hx => nomatch hx), rfl, rfl, fun _ => rfl⟩
      obtain ⟨hframe, hothers⟩ := ht.keeps
      have hexec : exec (.markTrailingEdge (.station st)) s =
          .next (handedOver (sightDecided s r st lead) st lead r.seq r.slot) :=
        congrArg Host.Outcome.next (markTrailingEdge_decides hn hcap.queue hr hv hahead he hin hk hold hwin hp)
      have hfields := hreg.fields r.seq
        (visitCarried s r st true (posShift lead u.setup.lead) (seenVisit lead u.setup.lead v))
      refine ⟨_, _, _, hexec, ht.mem hr hv, rfl, takenRecord_visit .., fun st' hne =>
        ⟨takenRecord_other r _ hne, hothers st' hne⟩, ?_, ?_, hframe, (nomatch ·), fun _ => ⟨lead, q, hin, ?_, ?_, ?_⟩⟩
      · have hpt := congrArg Visit.strikePt hfields
        exact hpt
      · have hdecision := congrArg Visit.decision hfields
        exact hdecision
      · have hstate := congrArg Visit.state hfields
        exact hstate
      · have hmark := congrArg Visit.markPos hfields
        exact hmark
      · intro observed quarter moved m w
        have hw : w = (s.station st).handed h := hm.station
        refine ⟨?_, fun k hk => ?_, ?_, fun j a b ha hb => hands_alike hdecided hreg hm hd (fun _ => ⟨rfl, rfl⟩) ha hb⟩
        · rw [hw]
          exact hdecided.sighted_station hd
        · refine ht.registerEvents hm.tells ?_ ?_ <;> rintro rfl <;> simp at hk
        · rw [hd.queue]
          exact (List.length_map ..).trans hdecided.length
  · obtain ⟨hwindow, hstrike⟩ := queue_not_due h
    exact ⟨congrArg Host.Outcome.next hwindow, congrArg Host.Outcome.next hstrike⟩

end Sys2Proof.Proofs
end
